-- ==== Sys2Proof/Word.lean ====
section
/-! DEFINITION. The widths and plain values of the T84Q: bytes and two-byte fields of the ports, words of the line
lane, host and pane numbers, cells and rectangles (spec 00_scope.md, Conventions; R1, R3, R161). -/

namespace Sys2Proof

/-- One byte of a host port or of the control lane (R160). -/
abbrev Byte := BitVec 8

/-- A two-byte field: tickets, frame numbers, arguments (R34, R53, Table 12-1). -/
abbrev Half := BitVec 16

/-- One word of the line lane (R161). -/
abbrev LaneWord := BitVec 18

/-- A host number, the number of its port (00_scope.md, Host and Pane Numbers). -/
abbrev HostNo := Fin 4

/-- A pane number, the number of its record (R12). -/
abbrev PaneNo := Fin 16

/-- A stored cell: each channel holds 0 to 63 (R1). -/
structure Cell where
  r : BitVec 6
  g : BitVec 6
  b : BitVec 6
  deriving DecidableEq, Repr, Inhabited

/-- A cell as a host port carries it: one byte for each channel (R1). -/
structure RawCell where
  r : Byte
  g : Byte
  b : Byte
  deriving DecidableEq, Repr, Inhabited

/-- A rectangle (x, y, w, h) (00_scope.md, Rectangles). -/
structure Rect where
  x : Nat
  y : Nat
  w : Nat
  h : Nat
  deriving DecidableEq, Repr, Inhabited

/-- The hosts in ascending number. -/
def allHosts : List HostNo := [0, 1, 2, 3]

/-- The panes in ascending number. -/
def allPanes : List PaneNo := [0, 1, 2, 3, 4, 5, 6, 7, 8, 9, 10, 11, 12, 13, 14, 15]

end Sys2Proof
end

