-- ==== Sys2Proof/Config.lean ====
section
/-! DEFINITION. What the part fixes (Table 0-6 and the durations of Table 0-3) and the free values: constants
without a body, for the values and orders the manual leaves open (notes/assumptions 1, 2, 3). -/

namespace Sys2Proof

/-- Columns of a bank (R2). -/
def Config.columns : Nat := 800

/-- Lines of a bank (R2). -/
def Config.lines : Nat := 480

/-- Cells of one bank (R2). -/
def Config.bankCells : Nat := 384000

/-- Places of the store, both banks (R2). -/
def Config.places : Nat := 768000

/-- Lines the line queue holds (R58). -/
def Config.queueLines : Nat := 4

/-- Accesses the Parked List holds (R95). -/
def Config.parkedPlaces : Nat := 8

/-- Slots of the Request Pool (R126). -/
def Config.poolSlots : Nat := 64

/-- Requests and responses one host may have in the part (R128). -/
def Config.hostCeiling : Nat := 24

/-- Events one host's queue holds (R143). -/
def Config.eventPlaces : Nat := 8

/-- Transfers the panel FIFO holds (R146). -/
def Config.fifoPlaces : Nat := 4

/-- Largest number of cells in one Write Engine access (R8). -/
def Config.accessCells : Nat := 64

/-- Cells of a full segment (R4). -/
def Config.segmentCells : Nat := 32

/-- Where the saturating counts stop (R93, R137, R139, R143). -/
def Config.countMax : Nat := 255

/-- Largest payload of a request frame (R124). -/
def Config.payloadMax : Nat := 197

/-- Ticks of 25 ns in 10 ms, the unit of LEASE_PERIOD (R111). -/
def Config.leaseUnit : Nat := 400000

/-- Ticks of 25 ns in 100 µs, the unit of PANEL_TIMEOUT (Table 0-3). -/
def Config.replyUnit : Nat := 4000

/-- FREE VALUE. The cell a place holds after the n-th power-on until a write access stores there: unknown to
software (R11; notes/assumptions/1.md). The arguments are the count of power-ons and the place. -/
opaque Config.unknownCell : Nat → Nat → Cell

/-- FREE VALUE. At a latch completion that makes a frame boundary, whether the Parked List is released before the
boundary's work: R97 allows either order (notes/assumptions/2.md). -/
opaque Config.releaseFirst : Nat → Bool

/-- FREE VALUE. The order among the responses that several blocks place at a DETACH: R117 does not fix it
(notes/assumptions/3.md). The arguments are the use's number and the position. -/
opaque Config.pick : Nat → Nat → Bool

end Sys2Proof
end

