-- ==== Sys2Proof/Syntax.lean ====
section
/-! DEFINITION. The commands of the T84Q: one constructor for each row of spec/opcode_table.json. A request carries the
host whose port it came from, its tag and its fields as Table 12-3 gives them, with codes as raw bytes, since a code
that names nothing is the owning block's to refuse (R160). -/

namespace Sys2Proof

/-- The request kinds of Table 12-2. FAULT_CLEAR is one kind; its selector FFh makes it FAULT_CLEAR_OVERFLOW. -/
inductive Kind where
  | attach | detach | status | configSet | configGet | start | resetVote
  | paneClaim | paneStage | paneGuest | paneCommit | paneRelease | paneAdopt | paneQuery
  | cellWrite | cellFill | cellRead | faultRead | faultClear | eventFetch | panelSend
  deriving DecidableEq, Repr

/-- The commands, in the table's order. -/
inductive Instr where
  | attach (h : HostNo) (tag : Byte)
  | detach (h : HostNo) (tag : Byte) (mode : Byte)
  | status (h : HostNo) (tag : Byte)
  /-- `cell` is the payload: three bytes, or none (R160). -/
  | configSet (h : HostNo) (tag : Byte) (field : Byte) (value : Half) (cell : Option RawCell)
  | configGet (h : HostNo) (tag : Byte) (field : Byte)
  | start (h : HostNo) (tag : Byte)
  | resetVote (h : HostNo) (tag : Byte)
  | paneClaim (h : HostNo) (tag : Byte) (rect : Rect) (buffering policy display : Byte)
  /-- `arg` 0 names the rectangle, 1 names "none" (R160). -/
  | paneStage (h : HostNo) (tag : Byte) (pane : Byte) (arg : Half) (rect : Rect)
  /-- `arg` 0 to 3 names a host, FFFFh names "none" (R160). -/
  | paneGuest (h : HostNo) (tag : Byte) (pane : Byte) (arg : Half)
  | paneCommit (h : HostNo) (tag : Byte) (pane : Byte)
  | paneRelease (h : HostNo) (tag : Byte) (pane : Byte)
  | paneAdopt (h : HostNo) (tag : Byte) (pane : Byte)
  | paneQuery (h : HostNo) (tag : Byte) (pane : Byte)
  | cellWrite (h : HostNo) (tag : Byte) (pane : Byte) (px py : Nat) (cells : List RawCell)
  | cellFill (h : HostNo) (tag : Byte) (pane : Byte) (rect : Rect) (cell : RawCell)
  | cellRead (h : HostNo) (tag : Byte) (pane : Byte) (px py : Nat) (count bank : Byte)
  | faultRead (h : HostNo) (tag : Byte) (slot : Byte)
  | faultClear (h : HostNo) (tag : Byte) (slot : Byte)
  | faultClearOverflow (h : HostNo) (tag : Byte)
  | eventFetch (h : HostNo) (tag : Byte)
  /-- `synced` is the low byte of the argument: 00h plain, any other value SYNCED (R160). -/
  | panelSend (h : HostNo) (tag : Byte) (address synced : Byte) (data : List Byte)
  | exchangeStart (h : HostNo)
  /-- `bytes` are the bytes shifted in; the port shifted out as many (an SPI exchange passes both at once). -/
  | exchangeEnd (h : HostNo) (bytes : List Byte)
  | hostPresentDeasserted (h : HostNo)
  | hostPresentAsserted (h : HostNo)
  | powerOn
  | resetPin
  | resetPinRelease
  | linkUp
  | linkDown
  | lineMark
  | segmentReadComplete
  | writeAccessComplete
  | readAccessComplete
  | leaseWarn (h : HostNo)
  | leaseExpiry (h : HostNo)
  | windowExpiry
  | panelSendEnd
  | panelAck
  | panelNak
  | replyTimerExpiry
  deriving DecidableEq, Repr

end Sys2Proof
end

