-- ==== Sys2Proof/WellFormed.lean ====
section
/-! DEFINITION. Which commands are well formed: the operand values a request frame can carry and the port accepts
(R125, Table 12-3). The port tests of R125 are definitions of their own, since the port makes them on every frame. -/

namespace Sys2Proof

/-- A value a two-byte field can carry (R160). -/
def fitsHalf (n : Nat) : Bool := n < 65536

/-- Each field of a rectangle is sent in two bytes (R160). -/
def Rect.fitsFrame (r : Rect) : Bool := fitsHalf r.x && fitsHalf r.y && fitsHalf r.w && fitsHalf r.h

/-- The cell count of a CELL_WRITE or CELL_READ, 1 to 64 (R125). -/
def cellCountOk (n : Nat) : Bool := 1 ≤ n && n ≤ Config.accessCells

/-- The width and height of a CELL_FILL are not 0 (R125). -/
def fillAreaOk (r : Rect) : Bool := r.w ≠ 0 && r.h ≠ 0

/-- The data count of a PANEL_SEND, 1 to 8 (R125). -/
def dataCountOk (n : Nat) : Bool := 1 ≤ n && n ≤ 8

/-- A command whose operands a request frame can carry and the port does not refuse with BAD_REQUEST. A FAULT_CLEAR of
selector FFh is the row FAULT_CLEAR_OVERFLOW (Table 12-3). Events of the part have no ill-formed operands. -/
def Instr.wellFormed : Instr → Bool
  | .paneClaim _ _ rect _ _ _ => rect.fitsFrame
  | .paneStage _ _ _ _ rect => rect.fitsFrame
  | .cellWrite _ _ _ px py cells => fitsHalf px && fitsHalf py && cellCountOk cells.length
  | .cellFill _ _ _ rect _ => rect.fitsFrame && fillAreaOk rect
  | .cellRead _ _ _ px py count _ => fitsHalf px && fitsHalf py && cellCountOk count.toNat
  | .faultClear _ _ slot => slot ≠ 0xFF#8
  | .panelSend _ _ _ _ data => dataCountOk data.length
  | _ => true

end Sys2Proof
end

