-- ==== Sys2Proof/Decode.lean ====
section
/-! DEFINITION. Request frames: the check byte, the port's tests of a frame's structure, the request a frame spells, and
the encoder (Chapter 12, R124, R125, R160). The rows of spec/opcode_table.json give no bits, so no table word spells a
command. -/

namespace Sys2Proof

/-- The rows of the opcode table give no bits: no word spells a command. -/
def decodeTableWord (_nbits _w : Nat) : Option Instr := none

/-! ## Bytes -/

/-- A two-byte field, high byte first (Chapter 12, Overview). -/
def halfOf (hi lo : Byte) : Half := hi ++ lo

/-- The high byte of a two-byte field. -/
def hiByte (v : Half) : Byte := v.extractLsb' 8 8

/-- The low byte of a two-byte field. -/
def loByte (v : Half) : Byte := v.extractLsb' 0 8

/-- A number as one byte. -/
def byteOf (n : Nat) : Byte := BitVec.ofNat 8 n

/-- A number as a two-byte field. -/
def halfOfNat (n : Nat) : Half := BitVec.ofNat 16 n

/-- A two-byte field as sent (Chapter 12, Overview). -/
def halfBytes (v : Half) : List Byte := [hiByte v, loByte v]

/-- A number sent in two bytes. -/
def natBytes (n : Nat) : List Byte := halfBytes (halfOfNat n)

/-- The check byte's shift by one bit: polynomial 07h, most significant bit first (R160). -/
def crcBit (c : Byte) : Byte := if c.msb then (c <<< 1) ^^^ 0x07#8 else c <<< 1

/-- The check byte after one more byte (R160). -/
def crcByte (c b : Byte) : Byte :=
  crcBit (crcBit (crcBit (crcBit (crcBit (crcBit (crcBit (crcBit (c ^^^ b))))))))

/-- The check byte of a run of bytes: initial value 00h, no final inversion (R160). -/
def crc8 (bytes : List Byte) : Byte := bytes.foldl crcByte 0x00#8

/-! ## Kinds -/

/-- The request kind codes of Table 12-2. -/
def Kind.code : Kind → Byte
  | .attach => 0x01#8 | .detach => 0x02#8 | .status => 0x03#8
  | .configSet => 0x10#8 | .configGet => 0x11#8 | .start => 0x12#8 | .resetVote => 0x13#8
  | .paneClaim => 0x20#8 | .paneStage => 0x21#8 | .paneGuest => 0x22#8 | .paneCommit => 0x23#8
  | .paneRelease => 0x24#8 | .paneAdopt => 0x25#8 | .paneQuery => 0x26#8
  | .cellWrite => 0x30#8 | .cellFill => 0x31#8 | .cellRead => 0x32#8
  | .faultRead => 0x40#8 | .faultClear => 0x41#8 | .eventFetch => 0x42#8 | .panelSend => 0x50#8

/-- The kind a request's first byte names (Table 12-2). -/
def kindOfCode (c : Byte) : Option Kind :=
  [Kind.attach, .detach, .status, .configSet, .configGet, .start, .resetVote, .paneClaim, .paneStage, .paneGuest,
    .paneCommit, .paneRelease, .paneAdopt, .paneQuery, .cellWrite, .cellFill, .cellRead, .faultRead, .faultClear,
    .eventFetch, .panelSend].find? fun k => k.code = c

/-! ## What a frame spells -/

/-- The cells of a payload, three bytes each, red, green, blue (R1). -/
def rawCellsOf : List Byte → List RawCell
  | r :: g :: b :: rest => ⟨r, g, b⟩ :: rawCellsOf rest
  | _ => []

/-- A rectangle of four two-byte fields (Chapter 12, Overview). -/
def rectOf (x1 x0 y1 y0 w1 w0 h1 h0 : Byte) : Rect :=
  ⟨(halfOf x1 x0).toNat, (halfOf y1 y0).toNat, (halfOf w1 w0).toNat, (halfOf h1 h0).toNat⟩

/-- The request of an intact frame of kind `k`, or none where its payload length or counts are not ones the kind
allows, which the port refuses with BAD_REQUEST (R125, Table 12-3). Header bytes a kind does not use are ignored
(R160). -/
def requestOf (h : HostNo) (tag : Byte) (k : Kind) (sel : Byte) (arg : Half) (payload : List Byte) : Option Instr :=
  match k, payload with
  | .attach, [] => some (.attach h tag)
  | .detach, [] => some (.detach h tag sel)
  | .status, [] => some (.status h tag)
  | .configSet, [] => some (.configSet h tag sel arg none)
  | .configSet, [r, g, b] => some (.configSet h tag sel arg (some ⟨r, g, b⟩))
  | .configGet, [] => some (.configGet h tag sel)
  | .start, [] => some (.start h tag)
  | .resetVote, [] => some (.resetVote h tag)
  | .paneClaim, [x1, x0, y1, y0, w1, w0, h1, h0, buffering, policy, display] =>
      some (.paneClaim h tag (rectOf x1 x0 y1 y0 w1 w0 h1 h0) buffering policy display)
  | .paneStage, [x1, x0, y1, y0, w1, w0, h1, h0] => some (.paneStage h tag sel arg (rectOf x1 x0 y1 y0 w1 w0 h1 h0))
  | .paneGuest, [] => some (.paneGuest h tag sel arg)
  | .paneCommit, [] => some (.paneCommit h tag sel)
  | .paneRelease, [] => some (.paneRelease h tag sel)
  | .paneAdopt, [] => some (.paneAdopt h tag sel)
  | .paneQuery, [] => some (.paneQuery h tag sel)
  | .cellWrite, x1 :: x0 :: y1 :: y0 :: n :: cells =>
      if cellCountOk n.toNat && cells.length = 3 * n.toNat then
        some (.cellWrite h tag sel (halfOf x1 x0).toNat (halfOf y1 y0).toNat (rawCellsOf cells))
      else none
  | .cellFill, [x1, x0, y1, y0, w1, w0, h1, h0, r, g, b] =>
      if fillAreaOk (rectOf x1 x0 y1 y0 w1 w0 h1 h0) then
        some (.cellFill h tag sel (rectOf x1 x0 y1 y0 w1 w0 h1 h0) ⟨r, g, b⟩)
      else none
  | .cellRead, [x1, x0, y1, y0, n, bank] =>
      if cellCountOk n.toNat then
        some (.cellRead h tag sel (halfOf x1 x0).toNat (halfOf y1 y0).toNat n bank)
      else none
  | .faultRead, [] => some (.faultRead h tag sel)
  | .faultClear, [] => if sel = 0xFF#8 then some (.faultClearOverflow h tag) else some (.faultClear h tag sel)
  | .eventFetch, [] => some (.eventFetch h tag)
  | .panelSend, n :: data =>
      if dataCountOk n.toNat && data.length = n.toNat then some (.panelSend h tag (hiByte arg) (loByte arg) data)
      else none
  | _, _ => none

/-- What the port finds in the bytes an exchange shifted in (R124, R125). A refusal carries the kind and tag bytes as
received. -/
inductive FrameVerdict where
  | idle
  | badRequest (kind tag : Byte)
  | badCheck (kind tag : Byte)
  | request (i : Instr)
  deriving DecidableEq, Repr

/-- The port's examination of the bytes shifted in on port `h`, but for the ceiling test of R128: idle frame, structure,
check byte, kind and payload length, in that order (R124, R125). -/
def examine (h : HostNo) : List Byte → FrameVerdict
  | [] => .idle
  | kind :: rest =>
    if kind = 0x00#8 then .idle
    else
      match rest with
      | [] => .badRequest kind 0x00#8
      | tag :: len :: sel :: a1 :: a0 :: body =>
        if Config.payloadMax < len.toNat || body.length < len.toNat + 1 then .badRequest kind tag
        else
          let payload := body.take len.toNat
          if body.getD len.toNat 0x00#8 ≠ crc8 (kind :: tag :: len :: sel :: a1 :: a0 :: payload) then
            .badCheck kind tag
          else
            match kindOfCode kind with
            | none => .badRequest kind tag
            | some k =>
              match requestOf h tag k sel (halfOf a1 a0) payload with
              | none => .badRequest kind tag
              | some i => .request i
      | tag :: _ => .badRequest kind tag

/-! ## The encoder -/

/-- A rectangle as sent (Chapter 12, Overview). -/
def rectBytes (r : Rect) : List Byte := natBytes r.x ++ natBytes r.y ++ natBytes r.w ++ natBytes r.h

/-- A cell of a request as sent (R1). -/
def rawCellBytes (c : RawCell) : List Byte := [c.r, c.g, c.b]

/-- The kind, selector, argument and payload of a request's frame (Table 12-3), or none for an event of the part. Bytes
the kind does not use are 00h. -/
def requestFields : Instr → Option (Kind × Byte × Half × List Byte)
  | .attach _ _ => some (.attach, 0, 0, [])
  | .detach _ _ mode => some (.detach, mode, 0, [])
  | .status _ _ => some (.status, 0, 0, [])
  | .configSet _ _ field value cell => some (.configSet, field, value, (cell.map rawCellBytes).getD [])
  | .configGet _ _ field => some (.configGet, field, 0, [])
  | .start _ _ => some (.start, 0, 0, [])
  | .resetVote _ _ => some (.resetVote, 0, 0, [])
  | .paneClaim _ _ rect buffering policy display =>
      some (.paneClaim, 0, 0, rectBytes rect ++ [buffering, policy, display])
  | .paneStage _ _ pane arg rect => some (.paneStage, pane, arg, rectBytes rect)
  | .paneGuest _ _ pane arg => some (.paneGuest, pane, arg, [])
  | .paneCommit _ _ pane => some (.paneCommit, pane, 0, [])
  | .paneRelease _ _ pane => some (.paneRelease, pane, 0, [])
  | .paneAdopt _ _ pane => some (.paneAdopt, pane, 0, [])
  | .paneQuery _ _ pane => some (.paneQuery, pane, 0, [])
  | .cellWrite _ _ pane px py cells =>
      some (.cellWrite, pane, 0, natBytes px ++ natBytes py ++ byteOf cells.length :: cells.flatMap rawCellBytes)
  | .cellFill _ _ pane rect cell => some (.cellFill, pane, 0, rectBytes rect ++ rawCellBytes cell)
  | .cellRead _ _ pane px py count bank =>
      some (.cellRead, pane, 0, natBytes px ++ natBytes py ++ [count, bank])
  | .faultRead _ _ slot => some (.faultRead, slot, 0, [])
  | .faultClear _ _ slot => some (.faultClear, slot, 0, [])
  | .faultClearOverflow _ _ => some (.faultClear, 0xFF#8, 0, [])
  | .eventFetch _ _ => some (.eventFetch, 0, 0, [])
  | .panelSend _ _ address synced data =>
      some (.panelSend, 0, halfOf address synced, byteOf data.length :: data)
  | _ => none

/-- The host whose port a request comes from and its tag. -/
def requestSource : Instr → Option (HostNo × Byte)
  | .attach h t | .detach h t _ | .status h t | .configSet h t _ _ _ | .configGet h t _ | .start h t | .resetVote h t
  | .paneClaim h t _ _ _ _ | .paneStage h t _ _ _ | .paneGuest h t _ _ | .paneCommit h t _ | .paneRelease h t _
  | .paneAdopt h t _ | .paneQuery h t _ | .cellWrite h t _ _ _ _ | .cellFill h t _ _ _ | .cellRead h t _ _ _ _ _
  | .faultRead h t _ | .faultClear h t _ | .faultClearOverflow h t | .eventFetch h t | .panelSend h t _ _ _ =>
      some (h, t)
  | _ => none

/-- The bytes of a frame: header, payload and check byte (Table 12-1, R160). -/
def frameBytes (k : Kind) (tag sel : Byte) (arg : Half) (payload : List Byte) : List Byte :=
  let covered := k.code :: tag :: byteOf payload.length :: sel :: hiByte arg :: loByte arg :: payload
  covered ++ [crc8 covered]

/-- The request frame of a request, or none for an event of the part. -/
def encode (i : Instr) : Option (List Byte) :=
  match requestFields i, requestSource i with
  | some (k, sel, arg, payload), some (_, tag) => some (frameBytes k tag sel arg payload)
  | _, _ => none

end Sys2Proof
end

