-- ==== Sys2Proof/Machine/State.lean ====
section
/-! DEFINITION. The state of the T84Q, block by block as Table 0-2 lists them, as plain data, and the state right after
power-on. INVENTORY.md names the rule of each piece. -/

namespace Sys2Proof.Machine

/-! ## Names the manual gives (Tables 12-6 and 12-7) -/

/-- The two banks of the store (R2). -/
inductive Bank where
  | a | b
  deriving DecidableEq, Repr, Inhabited

/-- A pane's buffering, chosen at claim (R5). -/
inductive Buffering where
  | direct | double
  deriving DecidableEq, Repr, Inhabited

/-- A pane's conflict policy, chosen at claim (R92). -/
inductive Policy where
  | pass | defer | relatch
  deriving DecidableEq, Repr, Inhabited

/-- A pane's orphan display, chosen at claim (R6). -/
inductive Display where
  | keep | blank
  deriving DecidableEq, Repr, Inhabited

/-- The five pane states (Table 2-2). -/
inductive PaneState where
  | free | pending | live | retiring | orphaned
  deriving DecidableEq, Repr, Inhabited

/-- The three host states (Table 7-1). -/
inductive HostState where
  | absent | active | lapsed
  deriving DecidableEq, Repr, Inhabited

/-- The two part states (R153). -/
inductive PartState where
  | setup | run
  deriving DecidableEq, Repr, Inhabited

/-- The cause of a part reset (R159). -/
inductive Cause where
  | power | pin | vote
  deriving DecidableEq, Repr, Inhabited

/-- The urgency levels of the Store Arbiter (Table 4-6). -/
inductive Urgency where
  | normal | urgent | panic
  deriving DecidableEq, Repr, Inhabited

/-- The link state: up while PRDY is asserted (R61). -/
inductive LinkState where
  | down | up
  deriving DecidableEq, Repr, Inhabited

/-- The emitter mode (R59, R61). -/
inductive EmitterMode where
  | sending | silent | resuming
  deriving DecidableEq, Repr, Inhabited

/-- The two users of the store (R66). -/
inductive Grantee where
  | latch | write
  deriving DecidableEq, Repr, Inhabited

/-- The vote state (Table 11-4). -/
inductive VoteState where
  | idle | opened
  deriving DecidableEq, Repr, Inhabited

/-- The modes of DETACH (R116). -/
inductive DetachMode where
  | release | orphan
  deriving DecidableEq, Repr, Inhabited

/-- The kind a departure is announced with (R118). -/
inductive Departure where
  | lapse | abrupt | detach (mode : DetachMode)
  deriving DecidableEq, Repr, Inhabited

/-- The response statuses of Table 12-7. -/
inductive Status where
  | ok | accepted | state | noPane | range | overlap | paneState | notOwner | commitPending | paneBusy | notOrphaned
  | notAttached | lapsed | cancelled | revoked | badCheck | badRequest | noSlot | noFault | notYours | panelFull
  | panelNak | panelTimeout | linkDown | configInvalid
  deriving DecidableEq, Repr, Inhabited

/-- The fault kinds of Table 9-3. -/
inductive FaultKind where
  | underrun | tear | parkOverflow | relatchLimit | leaseLapse | panelTimeout | droppedRequest
  deriving DecidableEq, Repr, Inhabited

/-- The reasons of a GUEST_REVOKED event (Table 12-6). -/
inductive RevokeReason where
  | replaced | withdrawn | released | orphaned
  deriving DecidableEq, Repr, Inhabited

/-- The reasons of an ORPHAN_NOTICE event (Table 12-6). -/
inductive OrphanReason where
  | lapse | abrupt | detach
  deriving DecidableEq, Repr, Inhabited

/-- The nine kinds of event with the fields Table 9-4 gives each. -/
inductive Event where
  | commitDone (pane : PaneNo) (ticket frame : Half)
  | faultNote (slot : Fin 16) (kind : FaultKind)
  | leaseWarn (frame : Half)
  | budgetReached (pane : PaneNo) (frame : Half)
  | guestGranted (pane : PaneNo) (owner : HostNo)
  | guestRevoked (pane : PaneNo) (owner : HostNo) (reason : RevokeReason)
  | orphanNotice (pane : PaneNo) (former : HostNo) (reason : OrphanReason)
  | voteOpened (frame : Half) (opener : HostNo)
  | voteFailed (frame : Half)
  deriving DecidableEq, Repr

/-! ## The Cell Store -/

/-- The Cell Store (R2, R11). `cells` lists the places written since the last power-on, in strictly rising order; a
place it does not list holds the free value `Config.unknownCell powerOns place` (notes/assumptions/1.md). -/
structure CellStore where
  cells : List (Nat × Cell)
  /-- The MODEL's own count of power-ons, the free value's key. -/
  powerOns : Nat
  deriving DecidableEq, Repr

/-! ## The Pane Table -/

/-- What a claim fixes, with the front bank a boundary changes (R12). -/
structure PaneModes where
  buffering : Buffering
  front : Bank
  policy : Policy
  display : Display
  deriving DecidableEq, Repr, Inhabited

/-- A pane's held request (R19). -/
inductive Held where
  /-- A PANE_STAGE: its rectangle, or none for "none" (R18). -/
  | stage (tag : Byte) (rect : Option Rect)
  /-- A PANE_COMMIT and how many of the owner's earlier cell operations on the pane have not ended (R36). -/
  | commit (tag : Byte) (earlier : Nat)
  deriving DecidableEq, Repr

/-- A pane record (Table 2-1). -/
structure Pane where
  state : PaneState
  owner : Option HostNo
  former : Option HostNo
  guest : Option HostNo
  current : Option Rect
  staged : Option Rect
  /-- Buffering, front bank, conflict policy and orphan display, present in every state but FREE. -/
  modes : Option PaneModes
  /-- The ticket of the pending commit (R39). -/
  commit : Option Half
  held : Option Held
  tears : Nat
  deriving DecidableEq, Repr

/-- A FREE record that keeps its tear count (R12). -/
def Pane.free (tears : Nat) : Pane := ⟨.free, none, none, none, none, none, none, none, none, tears⟩

/-! ## Cell operations -/

/-- The three cell operations with their fields (R78, R79, R80). -/
inductive CellBody where
  | write (px py : Nat) (cells : List Cell)
  | fill (rect : Rect) (cell : Cell)
  | read (px py count : Nat) (bank : Byte)
  deriving DecidableEq, Repr

/-- A cell operation of a cell lane (R72). -/
structure CellOp where
  tag : Byte
  pane : Byte
  body : CellBody
  deriving DecidableEq, Repr

/-- The access states of Table 5-3, but for DONE, which no access keeps past its event (R76). -/
inductive AccessState where
  | made | offered | inProgress | parked
  deriving DecidableEq, Repr, Inhabited

/-! ## Records, responses, the fault log -/

/-- A fault record (Table 9-2). -/
structure FaultRecord where
  kind : FaultKind
  host : Option HostNo
  pane : Option PaneNo
  line : Option Nat
  firstFrame : Half
  lastFrame : Half
  repeats : Nat
  deriving DecidableEq, Repr

/-- What a STATUS response carries (R110, Table 12-5). -/
structure StatusReport where
  part : PartState
  cause : Cause
  frame : Half
  queueCount : Nat
  urgency : Urgency
  hostState : HostState
  /-- In units of 10 ms, rounded down; 0 unless ACTIVE in RUN. -/
  lease : Nat
  slots : Nat
  reserved : Nat
  overflow : Nat
  link : LinkState
  vote : VoteState
  /-- In units of 10 ms, rounded down; 0 when the vote is IDLE. -/
  window : Nat
  ownVote : Bool
  deriving DecidableEq, Repr

/-- A configuration field's value: a number, or the cell of BACKDROP (Table 11-3). -/
inductive FieldValue where
  | number (n : Nat)
  | cell (c : Cell)
  deriving DecidableEq, Repr

/-- The payloads of Table 12-5. -/
inductive Payload where
  | empty
  | attach (host : HostNo) (before : HostState) (reserved lease : Nat) (part : PartState)
  | detach (mode : DetachMode) (retiring orphaned freed : Nat)
  | status (r : StatusReport)
  | config (field : Byte) (value : FieldValue) (writer : Option HostNo)
  | started (frame : Half)
  | configInvalid (field : Byte)
  | claimed (pane : PaneNo)
  | ticket (t : Half)
  /-- The ticket of the commit a release discarded, or none (R22). -/
  | released (ticket : Option Half)
  | adopted (buffering : Buffering) (front : Bank) (current : Rect)
  | queried (pane : PaneNo) (record : Pane)
  | count (cells : Nat)
  | cells (cells : List Cell)
  | fault (slot : Fin 16) (record : FaultRecord) (own hostless : Nat)
  | overflow (own hostless : Nat)
  | events (events : List Event) (lost left : Nat)
  | panel (address : Byte) (attempts : Nat)
  deriving DecidableEq, Repr

/-- A response as it stands in a response queue: kind and tag as received, status and payload (R130). -/
structure Response where
  kind : Byte
  tag : Byte
  status : Status
  payload : Payload
  deriving DecidableEq, Repr

/-- The exchange in progress at a port: what was fixed at its start (R121). -/
structure Exchange where
  /-- The chosen response is not idle. -/
  carries : Bool
  /-- The chosen response is still in the queue: a lapse may have cleared it (R122). -/
  queued : Bool
  /-- The header carries DROP set (R131). -/
  drop : Bool
  /-- The frame being shifted out, check byte and all. -/
  frame : List Byte
  deriving DecidableEq, Repr

/-- The state one Host Port Unit holds (Table 8-1), with its present line HPRES. -/
structure Port where
  responses : List Response
  slots : Nat
  drop : Bool
  resetSeen : Bool
  lapsedSeen : Bool
  exchange : Option Exchange
  /-- The attention output HATN (R132). -/
  attention : Bool
  /-- The present line HPRES (R115). -/
  present : Bool
  deriving DecidableEq, Repr

/-- The record of an operation in service (Table 5-2). -/
structure Service where
  op : CellOp
  pane : PaneNo
  /-- The frame area resolved at service start (R75). -/
  area : Rect
  /-- The next access: its line and first column. -/
  line : Nat
  col : Nat
  access : AccessState
  written : Nat
  /-- Set while the operation waits for its access in progress to stop it: the status of its answer (R86). -/
  stop : Option Status
  /-- DETACH responses that wait for this operation's answer, oldest first (R117). -/
  delayed : List Response
  deriving DecidableEq, Repr

/-- A host's cell lane: the operation in service and the queued operations behind it (R72, Table 5-1). -/
structure Lane where
  service : Option Service
  queued : List CellOp
  deriving DecidableEq, Repr

/-- A host record (Table 7-3). The lease is held in ticks (R111). -/
structure HostRecord where
  state : HostState
  lease : Nat
  warned : Bool
  reserved : Nat
  budget : Nat
  cells : Nat
  budgetHit : Bool
  tickets : Half
  vote : Bool
  overflow : Nat
  deriving DecidableEq, Repr

/-- A host's event queue and lost count (R143). -/
structure EventQueue where
  events : List Event
  lost : Nat
  deriving DecidableEq, Repr

/-- The Fault Log (R135); each host's overflow count is in its host record. -/
structure FaultLog where
  slots : Vector (Option FaultRecord) 16
  hostless : Nat
  deriving DecidableEq, Repr

/-! ## Scan Engine, Store Arbiter, Parked List -/

/-- The in-flight latch record (Table 4-3). -/
structure Latch where
  frame : Half
  line : Nat
  segment : Nat
  gathered : List (List Cell)
  torn : Bool
  restarts : Nat
  deriving DecidableEq, Repr

/-- A line queue entry (Table 4-4). -/
structure LineEntry where
  frame : Half
  line : Nat
  torn : Bool
  cells : List Cell
  deriving DecidableEq, Repr

/-- The state of the Scan Engine (Table 4-1) and of its line lane. -/
structure Scan where
  mark : Option Nat
  emission : Half
  /-- Ticks to the next line mark; 0 while the line timer is stopped (R51). -/
  timer : Nat
  cursorFrame : Half
  cursorLine : Nat
  frame : Half
  latch : Option Latch
  queue : List LineEntry
  emitter : EmitterMode
  link : LinkState
  /-- The words of the packets being sent that have not left the lane, the next one first; with none the lane carries
  the idle word 0 (R161). -/
  lane : List LaneWord
  deriving DecidableEq, Repr

/-- A store access in progress, from its grant to its completion (R8). `live` is clear once the latch or operation that
made it is gone: its cells are then delivered to no one (R63, R88). -/
inductive StoreAccess where
  /-- The cells are those composed at the grant (R7). -/
  | segment (live : Bool) (line first : Nat) (cells : List Cell)
  /-- `restart` names the latch a RELATCH grant is to restart (R99). -/
  | write (live : Bool) (host : HostNo) (bank : Bank) (line first : Nat) (cells : List Cell)
      (restart : Option (Half × Nat))
  /-- The cells are those stored at the grant (R80). -/
  | read (live : Bool) (host : HostNo) (bank : Bank) (line first : Nat) (cells : List Cell)
  deriving DecidableEq, Repr

/-- The state of the Store Arbiter (Table 4-1) and the access the store is carrying out. -/
structure Arbiter where
  urgency : Urgency
  lastGrant : Grantee
  rotation : HostNo
  access : Option StoreAccess
  deriving DecidableEq, Repr

/-- A parked entry (Table 6-3). -/
structure Parked where
  host : HostNo
  pane : PaneNo
  line : Nat
  first : Nat
  cells : List Cell
  /-- Kind and tag of the operation in service that made the access. -/
  kind : Byte
  tag : Byte
  deriving DecidableEq, Repr

/-! ## Panel Channel and Configuration Block -/

/-- A queued panel transfer (R146). -/
structure Transfer where
  host : HostNo
  tag : Byte
  address : Byte
  data : List Byte
  synced : Bool
  deriving DecidableEq, Repr

/-- The phases of the transfer in flight (R148). -/
inductive Phase where
  | sending | awaiting
  deriving DecidableEq, Repr, Inhabited

/-- The transfer in flight (Table 10-1). -/
structure InFlight where
  transfer : Transfer
  phase : Phase
  attempts : Nat
  discard : Bool
  deriving DecidableEq, Repr

/-- The state of the Panel Channel (Table 10-1); its link state is the Scan Engine's. -/
structure Panel where
  fifo : List Transfer
  inFlight : Option InFlight
  /-- The reply timer: stopped, or the ticks that remain (R148). -/
  timer : Option Nat
  blanking : Bool
  deriving DecidableEq, Repr

/-- The configuration fields (Table 11-3). -/
structure Settings where
  frameWidth : Nat
  frameHeight : Nat
  blankLines : Nat
  linePeriod : Nat
  backdrop : Cell
  urgentLevel : Nat
  panicLevel : Nat
  relatchLimit : Nat
  leasePeriod : Nat
  reserved : Vector Nat 4
  budget : Vector Nat 4
  panelTimeout : Nat
  panelRetries : Nat
  deriving DecidableEq, Repr

/-- The state of the Configuration Block (Table 11-1). `writers` holds the writing host of field number i + 1. -/
structure ConfigBlock where
  part : PartState
  settings : Settings
  writers : Vector (Option HostNo) 19
  vote : VoteState
  /-- Ticks that remain of the vote window; 0 while it is stopped (R156). -/
  window : Nat
  cause : Cause
  deriving DecidableEq, Repr

/-! ## Faults and refusals of the model -/

/-- Why a step of the model stops with a fault. -/
inductive Fault where
  /-- Raised by SEGMENT_READ_COMPLETE, WRITE_ACCESS_COMPLETE and READ_ACCESS_COMPLETE when the access in progress names a
  place outside the 800 columns by 480 lines of a bank, a place R2 says the store does not have. No run reaches it, since
  every accepted rectangle lies in the frame (R3). Safe. -/
  | outsideStore
  deriving DecidableEq, Repr

/-- Why a step of the model has no meaning. -/
inductive Refusal where
  /-- A command whose meaning has not been written. Raised by `exec` alone; no arm raises it. Safe. -/
  | notModelled (mnemonic : String)
  deriving DecidableEq, Repr

/-! ## The machine -/

/-- The state of the T84Q. -/
@[ext]
structure State where
  /-- The commands that wait, first in, first out. -/
  pending : List Instr
  /-- The MODEL's own count of the orders taken from a free value (notes/assumptions/2.md, 3.md). -/
  choices : Nat
  /-- The RESET pin is asserted (R159). -/
  resetPin : Bool
  store : CellStore
  panes : Vector Pane 16
  scan : Scan
  arbiter : Arbiter
  lanes : Vector Lane 4
  parked : List Parked
  hosts : Vector HostRecord 4
  ports : Vector Port 4
  events : Vector EventQueue 4
  faults : FaultLog
  panel : Panel
  conf : ConfigBlock
  deriving DecidableEq, Repr

/-! ## Reset values -/

/-- The reset values of Table 11-3. -/
def Settings.reset : Settings where
  frameWidth := 800
  frameHeight := 480
  blankLines := 12
  linePeriod := 1000
  backdrop := ⟨0, 0, 0⟩
  urgentLevel := 2
  panicLevel := 1
  relatchLimit := 3
  leasePeriod := 50
  reserved := .replicate 4 8
  budget := .replicate 4 0
  panelTimeout := 20
  panelRetries := 1

/-- A host record after every part reset (R106). The copies of the reserved slots and the budget are not held in SETUP
(notes/assumptions/5.md). -/
def HostRecord.reset : HostRecord := ⟨.absent, 0, false, 0, 0, 0, false, 0, false, 0⟩

/-- A port after every part reset, its present line as it stands (R134). -/
def Port.reset (present : Bool) : Port := ⟨[], 0, false, true, false, none, false, present⟩

/-- The Scan Engine after every part reset, the link as PRDY stands (R70). -/
def Scan.reset (link : LinkState) : Scan := ⟨none, 0, 0, 0, 0, 0, none, [], .silent, link, []⟩

/-- The Store Arbiter after every part reset (R65, R66, R69). -/
def Arbiter.reset : Arbiter := ⟨.panic, .write, 3, none⟩

/-- The Panel Channel after every part reset (R152). -/
def Panel.reset : Panel := ⟨[], none, none, false⟩

/-- The Configuration Block after a part reset (R154, R159). -/
def ConfigBlock.reset (cause : Cause) : ConfigBlock := ⟨.setup, .reset, .replicate 19 none, .idle, 0, cause⟩

/-- The machine right after a power-on reset: every block at the reset values its chapter states. The input pins are
the model's choice: HPRES asserted at every port, PRDY and RESET deasserted (notes/assumptions/4.md). -/
def State.reset : State where
  pending := []
  choices := 0
  resetPin := false
  store := ⟨[], 0⟩
  panes := .replicate 16 (.free 0)
  scan := .reset .down
  arbiter := .reset
  lanes := .replicate 4 ⟨none, []⟩
  parked := []
  hosts := .replicate 4 .reset
  ports := .replicate 4 (.reset true)
  events := .replicate 4 ⟨[], 0⟩
  faults := ⟨.replicate 16 none, 0⟩
  panel := .reset
  conf := .reset .power

end Sys2Proof.Machine
end

