-- ==== Sys2Proof/Machine/Ops.lean ====
section
/-! DEFINITION. The named operations over the state: one home for each record, the reads and writes of the Cell Store,
the placing of responses, the posting of events and the taking of fault reports. -/

namespace Sys2Proof.Machine

/-! ## Records -/

/-- The record of port `h`. -/
def State.port (s : State) (h : HostNo) : Port := s.ports[h]

/-- The host record of host `h`. -/
def State.host (s : State) (h : HostNo) : HostRecord := s.hosts[h]

/-- The cell lane of host `h`. -/
def State.lane (s : State) (h : HostNo) : Lane := s.lanes[h]

/-- The event queue of host `h`. -/
def State.queue (s : State) (h : HostNo) : EventQueue := s.events[h]

/-- The record of pane `p`. -/
def State.pane (s : State) (p : PaneNo) : Pane := s.panes[p]

def State.setPort (s : State) (h : HostNo) (v : Port) : State := { s with ports := s.ports.set h v }
def State.setHost (s : State) (h : HostNo) (v : HostRecord) : State := { s with hosts := s.hosts.set h v }
def State.setLane (s : State) (h : HostNo) (v : Lane) : State := { s with lanes := s.lanes.set h v }
def State.setQueue (s : State) (h : HostNo) (v : EventQueue) : State := { s with events := s.events.set h v }
def State.setPane (s : State) (p : PaneNo) (v : Pane) : State := { s with panes := s.panes.set p v }
def State.setPending (s : State) (v : List Instr) : State := { s with pending := v }
def State.setChoices (s : State) (v : Nat) : State := { s with choices := v }
def State.setResetPin (s : State) (v : Bool) : State := { s with resetPin := v }
def State.setStore (s : State) (v : CellStore) : State := { s with store := v }
def State.setScan (s : State) (v : Scan) : State := { s with scan := v }
def State.setArbiter (s : State) (v : Arbiter) : State := { s with arbiter := v }
def State.setParked (s : State) (v : List Parked) : State := { s with parked := v }
def State.setFaults (s : State) (v : FaultLog) : State := { s with faults := v }
def State.setPanel (s : State) (v : Panel) : State := { s with panel := v }
def State.setConf (s : State) (v : ConfigBlock) : State := { s with conf := v }

/-- The part is in RUN (R153). -/
def State.inRun (s : State) : Bool := s.conf.part = .run

/-- Host `h` is ACTIVE (Table 7-1). -/
def State.isActive (s : State) (h : HostNo) : Bool := (s.host h).state = .active

/-- Runs `f` for each element of a list, first to last. -/
def forEach {α : Type} (l : List α) (f : α → State → State) (s : State) : State := l.foldl (fun t a => f a t) s

/-- A count that stays at 255 once it has reached 255 (R93, R137, R139, R143). -/
def satSucc (n : Nat) : Nat := min (n + 1) Config.countMax

/-! ## The Cell Store -/

/-- The place of bank, column and line in the store (R2). -/
def placeOf (bank : Bank) (x y : Nat) : Nat :=
  (match bank with | .a => 0 | .b => Config.bankCells) + y * Config.columns + x

/-- A run of `n` cells from column `first` of a line lies in the store's banks (R2). -/
def runInStore (line first n : Nat) : Bool := line < Config.lines && first + n ≤ Config.columns

/-- The written cell at a place, if any. -/
def lookupCell (a : Nat) : List (Nat × Cell) → Option Cell
  | [] => none
  | (b, v) :: rest => if a = b then some v else lookupCell a rest

/-- Writes one place of a strictly rising list. -/
def insertCell (a : Nat) (v : Cell) : List (Nat × Cell) → List (Nat × Cell)
  | [] => [(a, v)]
  | (b, w) :: rest =>
    if a < b then (a, v) :: (b, w) :: rest
    else if a = b then (a, v) :: rest
    else (b, w) :: insertCell a v rest

/-- The cell stored at a place: the written one, or the free value of R11. -/
def CellStore.read (st : CellStore) (a : Nat) : Cell :=
  (lookupCell a st.cells).getD (Config.unknownCell st.powerOns a)

/-- The cell at bank, column and line. -/
def CellStore.at (st : CellStore) (bank : Bank) (x y : Nat) : Cell := st.read (placeOf bank x y)

/-- Stores cells at consecutive places from `a` on. -/
def storeFrom (a : Nat) : List Cell → List (Nat × Cell) → List (Nat × Cell)
  | [], m => m
  | c :: rest, m => storeFrom (a + 1) rest (insertCell a c m)

/-- Stores a run of cells in column order from its first column (R9). A run outside the banks has no place to be stored
at. -/
def CellStore.writeRun (st : CellStore) (bank : Bank) (line first : Nat) (cells : List Cell) : CellStore :=
  if runInStore line first cells.length then
    { st with cells := storeFrom (placeOf bank first line) cells st.cells }
  else st

/-- The cells of a run, in column order (R10). -/
def CellStore.readRun (st : CellStore) (bank : Bank) (line first n : Nat) : List Cell :=
  (List.range n).map fun i => st.at bank (first + i) line

/-- The store's list has its one form: places strictly rising, each a place of the two banks. -/
abbrev CellStore.wf (st : CellStore) : Prop :=
  (st.cells.map Prod.fst).Pairwise (· < ·) ∧ ∀ c ∈ st.cells, c.1 < Config.places

/-! ## Response queues and the attention line -/

/-- Sets HATN as the two queues stand (R132). -/
def refreshAttention (h : HostNo) (s : State) : State :=
  s.setPort h { s.port h with attention := !(s.port h).responses.isEmpty || !(s.queue h).events.isEmpty }

/-- Places a response at the tail of host `h`'s response queue (R130). -/
def placeResponse (h : HostNo) (r : Response) (s : State) : State :=
  refreshAttention h (s.setPort h { s.port h with responses := (s.port h).responses ++ [r] })

/-- Answers a request that holds a slot: the response is placed and the slot freed at the same event (R127). -/
def answer (h : HostNo) (r : Response) (s : State) : State :=
  placeResponse h r (s.setPort h { s.port h with slots := (s.port h).slots - 1 })

/-- Answers several requests of one host in order. -/
def answerAll (h : HostNo) (rs : List Response) (s : State) : State := forEach rs (answer h) s

/-- Answers a request of kind `k` and tag `tag`. -/
def reply (h : HostNo) (k : Kind) (tag : Byte) (status : Status) (payload : Payload) (s : State) : State :=
  answer h ⟨k.code, tag, status, payload⟩ s

/-- Clears host `h`'s response queue; a response chosen by an exchange in progress is no longer queued (R122, R133). -/
def clearResponses (h : HostNo) (s : State) : State :=
  refreshAttention h (s.setPort h
    { s.port h with
      responses := [],
      exchange := (s.port h).exchange.map fun x => { x with queued := false } })

/-! ## Event queues -/

/-- Posts an event to host `h`: it joins the tail, or is discarded and counted as lost at a full queue, or is not made
for a host that is not ACTIVE (R143). -/
def postEvent (h : HostNo) (e : Event) (s : State) : State :=
  if s.isActive h then
    if (s.queue h).events.length < Config.eventPlaces then
      refreshAttention h (s.setQueue h { s.queue h with events := (s.queue h).events ++ [e] })
    else s.setQueue h { s.queue h with lost := satSucc (s.queue h).lost }
  else s

/-- Posts one event to several hosts in order. -/
def postTo (hs : List HostNo) (e : Event) (s : State) : State := forEach hs (fun h => postEvent h e) s

/-- Empties host `h`'s event queue and zeroes its lost count (R145). -/
def clearEvents (h : HostNo) (s : State) : State := refreshAttention h (s.setQueue h ⟨[], 0⟩)

/-! ## The Fault Log -/

/-- A fault report as the record it would make (R136, R138). -/
def faultReport (kind : FaultKind) (host : Option HostNo) (pane : Option PaneNo) (line : Option Nat) (frame : Half) :
    FaultRecord := ⟨kind, host, pane, line, frame, frame, 1⟩

/-- The merge test: kind, host and pane agree (R137). -/
def sameFault (r q : FaultRecord) : Bool := r.kind = q.kind && r.host = q.host && r.pane = q.pane

/-- The lowest slot whose content meets a test. -/
def findSlot (log : FaultLog) (test : Option FaultRecord → Bool) : Option (Fin 16) :=
  allPanes.find? fun i => test log.slots[i]

/-- A merge: repeat count and last frame (R137). -/
def mergeFault (held r : FaultRecord) : FaultRecord :=
  { held with repeats := satSucc held.repeats, lastFrame := r.firstFrame }

/-- The hosts a FAULT_NOTE is addressed to, before the test that they are ACTIVE (R138). -/
def noteHosts (r : FaultRecord) : List HostNo :=
  match r.kind with
  | .underrun => allHosts
  | .leaseLapse => allHosts.filter fun h => r.host ≠ some h
  | _ => r.host.toList

/-- Counts a report that found every slot HELD (R139). -/
def countOverflow (r : FaultRecord) (s : State) : State :=
  match r.host with
  | some h => s.setHost h { s.host h with overflow := satSucc (s.host h).overflow }
  | none => s.setFaults { s.faults with hostless := satSucc s.faults.hostless }

/-- Takes a fault report whose note, if it makes a record, goes to `notes`: merge, new record, or overflow (R136 to
R139). -/
def takeReport (notes : List HostNo) (r : FaultRecord) (s : State) : State :=
  match findSlot s.faults (fun c => c.any (sameFault r)) with
  | some i =>
    s.setFaults { s.faults with slots := s.faults.slots.set i (s.faults.slots[i].map (mergeFault · r)) }
  | none =>
    match findSlot s.faults (fun c => c.isNone) with
    | some i =>
      postTo notes (.faultNote i r.kind) (s.setFaults { s.faults with slots := s.faults.slots.set i (some r) })
    | none => countOverflow r s

/-- Takes a fault report: merge, new record with its notes, or overflow (R136 to R139). -/
def reportFault (r : FaultRecord) (s : State) : State := takeReport (noteHosts r) r s

/-- Takes a fault report that is recorded with no note (R151; notes/assumptions/22.md). -/
def reportUnnoted (r : FaultRecord) (s : State) : State := takeReport [] r s

/-! ## Orders the manual leaves open -/

/-- A merge of two lists that keeps the order of each; `pick` chooses which goes next while both have one. `fuel` is at
least the number of elements. -/
def interleave {α : Type} (pick : Nat → Bool) : (fuel : Nat) → List α → List α → List α
  | 0, l, m => l ++ m
  | _ + 1, [], m => m
  | _ + 1, l, [] => l
  | n + 1, a :: l, b :: m =>
    if pick n then a :: interleave pick n l (b :: m) else b :: interleave pick n (a :: l) m

end Sys2Proof.Machine
end

