-- ==== Sys2Proof/Machine/Operands.lean ====
section
/-! DEFINITION. What a request's operands name: codes, arguments, cells, rectangles and pane-relative coordinates (R1, R3,
R14, R75, R160). A code that names no value gives none, and the owning block refuses it with RANGE. -/

namespace Sys2Proof.Machine

/-! ## Codes of Table 12-6 -/

def bufferingOf (c : Byte) : Option Buffering :=
  if c = 0x00#8 then some .direct else if c = 0x01#8 then some .double else none

def policyOf (c : Byte) : Option Policy :=
  if c = 0x00#8 then some .pass else if c = 0x01#8 then some .defer else if c = 0x02#8 then some .relatch else none

def displayOf (c : Byte) : Option Display :=
  if c = 0x00#8 then some .keep else if c = 0x01#8 then some .blank else none

def detachModeOf (c : Byte) : Option DetachMode :=
  if c = 0x00#8 then some .release else if c = 0x01#8 then some .orphan else none

/-- The bank selector of a CELL_READ: whether it names BACK. -/
def backSelected (c : Byte) : Option Bool :=
  if c = 0x00#8 then some false else if c = 0x01#8 then some true else none

/-! ## Arguments of R160 -/

/-- What a PANE_STAGE argument names: its rectangle or "none". -/
def stageArgOf (arg : Half) (rect : Rect) : Option (Option Rect) :=
  if arg = 0x0000#16 then some (some rect) else if arg = 0x0001#16 then some none else none

/-- What a PANE_GUEST argument names: a host or "none". -/
def guestArgOf (arg : Half) : Option (Option HostNo) :=
  if arg = 0xFFFF#16 then some none
  else if h : arg.toNat < 4 then some (some ⟨arg.toNat, h⟩) else none

/-- The pane a selector names (R15, R33). -/
def paneOf (sel : Byte) : Option PaneNo := if h : sel.toNat < 16 then some ⟨sel.toNat, h⟩ else none

/-- The fault slot a selector names (R140). -/
def slotOf (sel : Byte) : Option (Fin 16) := if h : sel.toNat < 16 then some ⟨sel.toNat, h⟩ else none

/-! ## Cells and rectangles -/

/-- A port cell as stored: the low six bits of each channel byte (R1). -/
def cellOf (c : RawCell) : Cell := ⟨c.r.setWidth 6, c.g.setWidth 6, c.b.setWidth 6⟩

/-- A rectangle is valid against a frame of `fw` columns and `fh` lines (R3). -/
def rectValidIn (r : Rect) (fw fh : Nat) : Bool := 1 ≤ r.w && 1 ≤ r.h && r.x + r.w ≤ fw && r.y + r.h ≤ fh

/-- Two rectangles overlap (R14). -/
def rectsOverlap (r q : Rect) : Bool :=
  r.x < q.x + q.w && q.x < r.x + r.w && r.y < q.y + q.h && q.y < r.y + r.h

/-- A rectangle contains a frame cell. -/
def rectHolds (r : Rect) (x y : Nat) : Bool := r.x ≤ x && x < r.x + r.w && r.y ≤ y && y < r.y + r.h

/-- A rectangle is valid against the W and H in force (R3). -/
def State.rectValid (s : State) (r : Rect) : Bool :=
  rectValidIn r s.conf.settings.frameWidth s.conf.settings.frameHeight

/-! ## What a pane record says -/

/-- The target rectangle: staged when present, otherwise current (R75). -/
def Pane.target (p : Pane) : Option Rect := p.staged <|> p.current

/-- The rectangles a pane holds, current and staged (R14). -/
def Pane.rects (p : Pane) : List Rect := p.current.toList ++ p.staged.toList

/-- The pane is shown (R6). -/
def Pane.shown (p : Pane) : Bool :=
  match p.state with
  | .live | .retiring => true
  | .orphaned => p.modes.any fun m => m.display = .keep
  | .free | .pending => false

/-- The pane is DOUBLE. -/
def Pane.isDouble (p : Pane) : Bool := p.modes.any fun m => m.buffering = .double

/-- The pane's front bank; A for a record that has none. -/
def Pane.front (p : Pane) : Bank := (p.modes.map (·.front)).getD .a

/-- The other bank. -/
def Bank.other : Bank → Bank
  | .a => .b
  | .b => .a

/-- The bank an access uses: the back bank only on a DOUBLE pane (R5, Table 1-3). -/
def Pane.bankFor (p : Pane) (back : Bool) : Bank := if p.isDouble && back then p.front.other else p.front

/-- A DOUBLE pane with a pending commit: its writes wait (R41). -/
def Pane.writesWait (p : Pane) : Bool := p.isDouble && p.commit.isSome

/-- The pane holds a PANE_STAGE: operations on it do not start (R18). -/
def Pane.stageHeld (p : Pane) : Bool :=
  match p.held with
  | some (.stage _ _) => true
  | _ => false

/-- A rectangle overlaps a rectangle of a pane that is not FREE, other than `except` (R14). -/
def State.overlapsPanes (s : State) (except : Option PaneNo) (r : Rect) : Bool :=
  allPanes.any fun p =>
    except ≠ some p && (s.pane p).state ≠ .free && (s.pane p).rects.any fun q => rectsOverlap r q

/-! ## Cell operations -/

/-- The kind of a cell operation. -/
def CellOp.kind (op : CellOp) : Kind :=
  match op.body with
  | .write _ _ _ => .cellWrite
  | .fill _ _ => .cellFill
  | .read _ _ _ _ => .cellRead

/-- The operation writes cells. -/
def CellOp.writes (op : CellOp) : Bool :=
  match op.body with
  | .read _ _ _ _ => false
  | _ => true

/-- The operation names pane `p`. -/
def CellOp.onPane (op : CellOp) (p : PaneNo) : Bool := op.pane.toNat = p.val

/-- The Write Engine's check of an operation's fields against the target rectangle (Table 5-4). -/
def CellOp.inTarget (op : CellOp) (t : Rect) : Bool :=
  match op.body with
  | .write px py cells => py + 1 ≤ t.h && px + cells.length ≤ t.w
  | .fill f _ => f.x + f.w ≤ t.w && f.y + f.h ≤ t.h
  | .read px py n bank => py + 1 ≤ t.h && px + n ≤ t.w && (backSelected bank).isSome

/-- The frame area an operation resolves to (R75). -/
def CellOp.area (op : CellOp) (t : Rect) : Rect :=
  match op.body with
  | .write px py cells => ⟨t.x + px, t.y + py, cells.length, 1⟩
  | .fill f _ => ⟨t.x + f.x, t.y + f.y, f.w, f.h⟩
  | .read px py n _ => ⟨t.x + px, t.y + py, n, 1⟩

/-- The number of cells of the next access: runs of 64 from the fill's left edge (R78, R79, R80). -/
def Service.accessLen (v : Service) : Nat := min Config.accessCells (v.area.x + v.area.w - v.col)

/-- The cells of the next write access (R78, R79). -/
def Service.accessCells (v : Service) : List Cell :=
  match v.op.body with
  | .write _ _ cells => cells
  | .fill _ c => .replicate v.accessLen c
  | .read _ _ _ _ => []

/-- The next access after the one at hand, its line and first column, or none when it is the last (R79). -/
def Service.following (v : Service) : Option (Nat × Nat) :=
  if v.col + v.accessLen < v.area.x + v.area.w then some (v.line, v.col + v.accessLen)
  else if v.line + 1 < v.area.y + v.area.h then some (v.line + 1, v.area.x)
  else none

/-- The answer of a cell operation that carries a count (Table 12-5). -/
def CellOp.answerCount (op : CellOp) (status : Status) (n : Nat) : Response :=
  ⟨op.kind.code, op.tag, status, .count n⟩

end Sys2Proof.Machine
end

