-- ==== Sys2Proof/Machine/Flags.lean ====
section
/-! DEFINITION. Values the blocks compute from their state: urgency, slot counts and credits, the budget test, and the
header of a response frame (R65, R81, R126, R129, R131). -/

namespace Sys2Proof.Machine

/-! ## Urgency (R65) -/

/-- The level for a queue count and the two levels in force (R65). -/
def urgencyOf (count panicLevel urgentLevel : Nat) : Urgency :=
  if count < panicLevel then .panic else if count < urgentLevel then .urgent else .normal

/-- Sets the urgency from the line queue count and the levels in force (R65). -/
def refreshUrgency (s : State) : State :=
  s.setArbiter { s.arbiter with
    urgency := urgencyOf s.scan.queue.length s.conf.settings.panicLevel s.conf.settings.urgentLevel }

/-! ## Slots and credits (R126, R129) -/

/-- Host `h`'s reserved slots in force: the record's in RUN, the field in SETUP (R106, R126). -/
def reservedOf (s : State) (h : HostNo) : Nat :=
  if s.inRun then (s.host h).reserved else s.conf.settings.reserved[h]

/-- Slots of the pool no host has reserved (R126). -/
def sharedPart (s : State) : Nat := Config.poolSlots - (allHosts.map (reservedOf s)).sum

/-- Shared slots in use: each host's beyond its reserved ones (R126). -/
def sharedInUse (s : State) : Nat := (allHosts.map fun h => (s.port h).slots - reservedOf s h).sum

/-- A slot is free for host `h`: a reserved one, otherwise a shared one (R126). -/
def slotFree (s : State) (h : HostNo) : Bool :=
  (s.port h).slots < reservedOf s h || sharedInUse s < sharedPart s

/-- Requests and responses host `h` has in the part (R128). -/
def outstanding (s : State) (h : HostNo) : Nat := (s.port h).slots + (s.port h).responses.length

/-- Host `h`'s credits (R129). -/
def credits (s : State) (h : HostNo) : Nat :=
  min (Config.hostCeiling - outstanding s h)
    ((reservedOf s h - (s.port h).slots) + (sharedPart s - sharedInUse s))

/-! ## Frame budget (R81) -/

/-- A write access of `n` cells by host `h` passes the budget test (R81). -/
def budgetAllows (s : State) (h : HostNo) (n : Nat) : Bool :=
  (s.host h).budget = 0 || (s.host h).cells + n ≤ Config.accessCells * (s.host h).budget

/-- Charges a granted write access of `n` cells; the count stops at 384,000 (R81). -/
def chargeBudget (h : HostNo) (n : Nat) (s : State) : State :=
  s.setHost h { s.host h with cells := min ((s.host h).cells + n) Config.bankCells }

/-! ## Leases (R111) -/

/-- The full lease, in ticks, from LEASE_PERIOD as it stands (R111). -/
def fullLease (s : State) : Nat := s.conf.settings.leasePeriod * Config.leaseUnit

/-- Loads host `h`'s lease full and clears its warned flag (R111). -/
def loadLease (h : HostNo) (s : State) : State :=
  s.setHost h { s.host h with lease := fullLease s, warned := false }

/-! ## Response frames (R121, R160) -/

/-- The port flags byte: bit 0 DROP, bit 1 RESET_SEEN, bit 2 LAPSED_SEEN (Table 12-4). -/
def flagsByte (p : Port) : Byte :=
  (if p.drop then 0x01#8 else 0x00#8) ||| (if p.resetSeen then 0x02#8 else 0x00#8)
    ||| (if p.lapsedSeen then 0x04#8 else 0x00#8)

end Sys2Proof.Machine
end

