-- ==== Sys2Proof/Machine/Commits.lean ====
section
/-! DEFINITION. Held requests, tickets and pending commits: taking a held PANE_STAGE or PANE_COMMIT, and what a taken
commit does to the writes that wait for it (R18, R34, R37, R39, R41, R85). -/

namespace Sys2Proof.Machine

/-- A cell operation of host `h` on pane `p` is in service. -/
def inServiceOn (s : State) (h : HostNo) (p : PaneNo) : Bool := (s.lane h).service.any fun v => v.pane = p

/-- Some host's cell operation on pane `p` is in service or has an access in the Parked List (R17). -/
def paneAtWork (s : State) (p : PaneNo) : Bool :=
  (allHosts.any fun h => inServiceOn s h p) || s.parked.any fun e => e.pane = p

/-- The access of host `h`'s operation in service goes to state `a`. -/
def setAccess (h : HostNo) (a : AccessState) (s : State) : State :=
  s.setLane h { s.lane h with service := (s.lane h).service.map fun v => { v with access := a } }

/-- An OFFERED write access of host `h` on pane `p` goes back to MADE (R85). -/
def withdrawOffer (p : PaneNo) (h : HostNo) (s : State) : State :=
  match (s.lane h).service with
  | some v => if v.pane = p && v.op.writes && v.access = .offered then setAccess h .made s else s
  | none => s

/-- Records the next ticket of host `h` as pane `p`'s pending commit; on a DOUBLE pane offered writes are withdrawn
(R34, R39, R85). -/
def recordCommit (h : HostNo) (p : PaneNo) (s : State) : State :=
  let t := (s.host h).tickets
  let s := s.setHost h { s.host h with tickets := t + 1 }
  let s := s.setPane p { s.pane p with commit := some t, held := none }
  if (s.pane p).isDouble then forEach allHosts (withdrawOffer p) s else s

/-- Takes a commit: ticket, pending commit, and ACCEPTED with the ticket (R37, R39). -/
def takeCommit (h : HostNo) (p : PaneNo) (tag : Byte) (s : State) : State :=
  reply h .paneCommit tag .accepted (.ticket (s.host h).tickets) (recordCommit h p s)

/-- Takes a held PANE_STAGE, with its overlap check made again (R18). -/
def takeHeldStage (h : HostNo) (p : PaneNo) (tag : Byte) (rect : Option Rect) (s : State) : State :=
  if rect.any (s.overlapsPanes (some p)) then
    reply h .paneStage tag .overlap .empty (s.setPane p { s.pane p with held := none })
  else reply h .paneStage tag .ok .empty (s.setPane p { s.pane p with held := none, staged := rect })

/-- Takes pane `p`'s held PANE_STAGE when no cell operation on the pane is in service or parked (R18). -/
def takeStageIfIdle (p : PaneNo) (s : State) : State :=
  match (s.pane p).held, (s.pane p).owner with
  | some (.stage tag rect), some h => if paneAtWork s p then s else takeHeldStage h p tag rect s
  | _, _ => s

/-- Counts the end of a cell operation of host `h` on pane `p` against a held PANE_COMMIT of that owner, which is taken
when no earlier operation remains (R37). -/
def countForCommit (h : HostNo) (p : PaneNo) (s : State) : State :=
  match (s.pane p).held with
  | some (.commit tag earlier) =>
    if (s.pane p).owner = some h then
      if earlier ≤ 1 then takeCommit h p tag s
      else s.setPane p { s.pane p with held := some (.commit tag (earlier - 1)) }
    else s
  | _ => s

/-- The Write Engine's report to the Pane Manager that an operation of host `h` naming pane `sel` has ended (R84). -/
def reportEnd (h : HostNo) (sel : Byte) (s : State) : State :=
  match paneOf sel with
  | some p => takeStageIfIdle p (countForCommit h p s)
  | none => s

end Sys2Proof.Machine
end

