-- ==== Sys2Proof/Machine/WriteEngine.lean ====
section
/-! DEFINITION. The Write Engine: service start, readiness of accesses, how an operation ends, is stopped or is dropped, and
its work at a frame boundary (Chapter 5, R94, R97, R102 to R104). -/

namespace Sys2Proof.Machine

/-! ## Readiness (Table 5-3) -/

/-- A failed budget test: BUDGET_REACHED once in a frame (R82). -/
def noteBudget (h : HostNo) (p : PaneNo) (s : State) : State :=
  if (s.host h).budgetHit then s
  else postEvent h (.budgetReached p s.scan.frame) (s.setHost h { s.host h with budgetHit := true })

/-- Tests the access host `h`'s operation in service has made: OFFERED when ready, otherwise MADE (R76, R81, R85). -/
def testAccess (h : HostNo) (s : State) : State :=
  match (s.lane h).service with
  | none => s
  | some v =>
    if !v.op.writes then setAccess h .offered s
    else if budgetAllows s h v.accessLen then
      setAccess h (if (s.pane v.pane).writesWait then .made else .offered) s
    else noteBudget h v.pane (setAccess h .made s)

/-! ## Service start -/

/-- The rights check of R33: the pane and its target rectangle, or the refusal. -/
def rightsCheck (s : State) (h : HostNo) (sel : Byte) : Except Status (PaneNo × Rect) :=
  match paneOf sel with
  | none => .error .range
  | some p =>
    let q := s.pane p
    if q.state ≠ .pending && q.state ≠ .live then .error .paneState
    else if q.owner = some h || (q.guest = some h && q.state ≠ .pending) then
      match q.target with
      | some t => .ok (p, t)
      | none => .error .range
    else .error .notOwner

/-- The rights check and then the check of the operation's own fields (R74). -/
def serviceCheck (s : State) (h : HostNo) (op : CellOp) : Except Status (PaneNo × Rect) :=
  match rightsCheck s h op.pane with
  | .error e => .error e
  | .ok (p, t) => if op.inTarget t then .ok (p, op.area t) else .error .range

/-- An operation that waits at its lane's head: a PANE_STAGE is held on its pane, or it writes a DOUBLE pane with a pending
commit (R73). -/
def headWaits (s : State) (op : CellOp) : Bool :=
  match paneOf op.pane with
  | none => false
  | some p => (s.pane p).stageHeld || (op.writes && (s.pane p).writesWait)

/-- Service start of host `h`'s head operation: it is refused and ends, or is in service with its first access made
(R74, R75, R76). -/
def startOp (h : HostNo) (op : CellOp) (rest : List CellOp) (s : State) : State :=
  match serviceCheck s h op with
  | .error status =>
    reportEnd h op.pane (answer h (op.answerCount status 0) (s.setLane h ⟨none, rest⟩))
  | .ok (p, area) =>
    testAccess h (s.setLane h ⟨some ⟨op, p, area, area.y, area.x, .made, 0, none, []⟩, rest⟩)

/-- Starts host `h`'s head operations until one is in service, one waits or none is left; `fuel` is the lane's length
(R73). -/
def startHead (h : HostNo) : (fuel : Nat) → State → State
  | 0, s => s
  | n + 1, s =>
    match (s.lane h).service, (s.lane h).queued with
    | none, op :: rest => if headWaits s op then s else startHead h n (startOp h op rest s)
    | _, _ => s

/-- Starts the head operations of every host that may start (R73). -/
def startServices (s : State) : State :=
  forEach allHosts (fun h t => startHead h (t.lane h).queued.length t) s

/-! ## The end of an operation (R84) -/

/-- Ends host `h`'s operation in service with response `r`: placed, slot freed, delayed DETACH responses after it, and the
end reported (R84, R117). -/
def finishOp (h : HostNo) (v : Service) (r : Response) (s : State) : State :=
  reportEnd h v.op.pane (answerAll h (r :: v.delayed) (s.setLane h { s.lane h with service := none }))

/-- The completion of a write access of `n` cells: the operation stops, completes, or makes its next access (R76, R84,
R86). -/
def writeDone (h : HostNo) (n : Nat) (s : State) : State :=
  match (s.lane h).service with
  | none => s
  | some v =>
    let v := { v with written := v.written + n }
    match v.stop, v.following with
    | some status, _ => finishOp h v (v.op.answerCount status v.written) s
    | none, none => finishOp h v (v.op.answerCount .ok v.written) s
    | none, some (line, col) =>
      testAccess h (s.setLane h
        { s.lane h with service := some { v with line := line, col := col, access := .made } })

/-- The completion of a read access: the operation stops, delivering nothing, or completes with its cells (R80, R86). -/
def readDone (h : HostNo) (cells : List Cell) (s : State) : State :=
  match (s.lane h).service with
  | none => s
  | some v =>
    match v.stop with
    | some status => finishOp h v (v.op.answerCount status v.written) s
    | none => finishOp h v ⟨v.op.kind.code, v.op.tag, .ok, .cells cells⟩ s

/-! ## Stopping and dropping -/

/-- The operation in service stops at once: no access of it is in progress (R86). -/
def Service.stopsAtOnce (v : Service) : Bool := v.access ≠ .inProgress

/-- The answers at once of host `h`'s operations that meet a test, the one in service first and then the queued ones in
lane order. R24 and R88 say so of a releasing owner and of a DETACH; for a guest, whose rights are revoked or whose pane is
released, R87 orders the queued ones alone, and the one in service stands before them by the model's choice (DESIGN CHOICE,
notes/assumptions/15.md). -/
def stoppedResponses (s : State) (h : HostNo) (test : CellOp → Bool) (status : Status) : List Response :=
  ((s.lane h).service.toList.filter fun v => test v.op && v.stopsAtOnce).map
      (fun v => v.op.answerCount status v.written)
    ++ ((s.lane h).queued.filter test).map fun op => op.answerCount status 0

/-- Host `h`'s operation in service after a stopping event: gone when it stops at once, otherwise marked with the status
its answer will carry (R86). -/
def stoppedService (test : CellOp → Bool) (status : Status) (v : Service) : Option Service :=
  if test v.op then (if v.stopsAtOnce then none else some { v with stop := some status }) else some v

/-- Takes host `h`'s operations that meet a test out of its lane and its accesses on them out of the Parked List (R86,
R87, R103). -/
def stopOps (h : HostNo) (test : CellOp → Bool) (parked : Parked → Bool) (status : Status) (s : State) : State :=
  (s.setLane h
    ⟨(s.lane h).service.bind (stoppedService test status), (s.lane h).queued.filter fun op => !test op⟩).setParked
    (s.parked.filter fun e => !(e.host = h && parked e))

/-- The operation names one of some panes. -/
def CellOp.onSome (panes : List PaneNo) (op : CellOp) : Bool := panes.any op.onPane

/-- Ends host `h`'s cell work on some panes at one event, each operation answered with `status`: the queued ones in lane
order, whichever of the panes they name (R21, R23, R87). -/
def endWork (panes : List PaneNo) (status : Status) (h : HostNo) (s : State) : State :=
  forEach panes takeStageIfIdle
    (answerAll h (stoppedResponses s h (·.onSome panes) status)
      (stopOps h (·.onSome panes) (fun e => panes.contains e.pane) status s))

/-- The access in progress delivers its cells to no operation of host `h` any more (R88). -/
def detachAccess (h : HostNo) : StoreAccess → StoreAccess
  | .write live host bank line first cells restart => .write (live && host ≠ h) host bank line first cells restart
  | .read live host bank line first cells => .read (live && host ≠ h) host bank line first cells
  | .segment live line first cells => .segment live line first cells

/-- Drops every cell operation of host `h` with no response (R88, R104). -/
def dropOps (h : HostNo) (s : State) : State :=
  let s := s.setLane h ⟨none, []⟩
  let s := s.setParked (s.parked.filter fun e => e.host ≠ h)
  s.setArbiter { s.arbiter with access := s.arbiter.access.map (detachAccess h) }

/-- Takes every held PANE_STAGE whose pane has no cell operation left in service (R18), in ascending pane number where one
event frees several (DESIGN CHOICE, notes/assumptions/15.md). -/
def takeIdleStages (s : State) : State := forEach allPanes takeStageIfIdle s

/-! ## The Parked List's release and the frame boundary -/

/-- A released entry's access is tested, and is OFFERED or MADE (R102). -/
def releaseEntry (e : Parked) (s : State) : State :=
  match (s.lane e.host).service with
  | some v => if v.access = .parked then testAccess e.host s else s
  | none => s

/-- Releases every entry of the Parked List in list order (R97, R98). -/
def releaseParked (s : State) : State := forEach s.parked releaseEntry (s.setParked [])

/-- A boundary refills host `h`'s budget (R83). -/
def refillBudget (h : HostNo) (s : State) : State :=
  s.setHost h { s.host h with cells := 0, budgetHit := false }

/-- A boundary tests again an access that waits (R81, R83). -/
def retestWaiting (h : HostNo) (s : State) : State :=
  match (s.lane h).service with
  | some v => if v.access = .made then testAccess h s else s
  | none => s

/-- The Write Engine's work at a frame boundary (R83); head operations start afterwards (R73). -/
def refillBudgets (s : State) : State := forEach allHosts retestWaiting (forEach allHosts refillBudget s)

end Sys2Proof.Machine
end

