-- ==== Sys2Proof/Machine/StoreArbiter.lean ====
section
/-! DEFINITION. The Store Arbiter: what each segment read composes, the grant decision, the rotation and the line-conflict
check (R4 to R7, R66 to R69, Chapter 6). -/

namespace Sys2Proof.Machine

/-! ## Composition (R4, R6) -/

/-- Segments of a line of `w` cells (R4). -/
def segmentCount (w : Nat) : Nat := (w + (Config.segmentCells - 1)) / Config.segmentCells

/-- What frame cell (x, y) shows: the front-bank cell of the shown pane there, otherwise BACKDROP (R6). -/
def shownCell (s : State) (x y : Nat) : Cell :=
  match allPanes.find? fun p => (s.pane p).shown && (s.pane p).current.any fun r => rectHolds r x y with
  | some p => s.store.at (s.pane p).front x y
  | none => s.conf.settings.backdrop

/-- The cells of one segment of a line, as things stand (R4, R7). -/
def composeSegment (s : State) (line segment : Nat) : List Cell :=
  let first := Config.segmentCells * segment
  (List.range (min Config.segmentCells (s.conf.settings.frameWidth - first))).map fun i => shownCell s (first + i) line

/-! ## Grants -/

/-- Grants the latch its segment read; its cells are fixed now (R7, R66). -/
def grantSegment (l : Latch) (s : State) : State :=
  s.setArbiter { s.arbiter with
    lastGrant := .latch,
    access := some (.segment true l.line (Config.segmentCells * l.segment) (composeSegment s l.line l.segment)) }

/-- Host `h`'s access is ready for the rotation (R76). -/
def offers (s : State) (h : HostNo) : Bool := (s.lane h).service.any fun v => v.access = .offered

/-- The host the rotation chooses: the first with an access ready after the pointer's host, ending with it (R69). -/
def nextReady (s : State) : Option HostNo :=
  let r := s.arbiter.rotation
  [r + 1, r + 2, r + 3, r].find? (offers s)

/-- Grants host `h`'s read access; the cells are those stored now (R5, R10, R80). -/
def grantRead (h : HostNo) (v : Service) (back : Bool) (s : State) : State :=
  let bank := (s.pane v.pane).bankFor back
  let s := setAccess h .inProgress s
  s.setArbiter { s.arbiter with
    lastGrant := .write, rotation := h,
    access := some (.read true h bank v.line v.col (s.store.readRun bank v.line v.col v.accessLen)) }

/-- Grants host `h`'s write access, charging its budget (R5, R66, R81). -/
def grantWrite (h : HostNo) (v : Service) (restart : Option (Half × Nat)) (s : State) : State :=
  let bank := (s.pane v.pane).bankFor true
  let s := chargeBudget h v.accessLen (setAccess h .inProgress s)
  s.setArbiter { s.arbiter with
    lastGrant := .write, rotation := h,
    access := some (.write true h bank v.line v.col v.accessCells restart) }

/-! ## The line-conflict check -/

/-- The latch a write access conflicts with: it uses the front bank and its line is the line of the latch in flight
(R91). -/
def conflictOf (s : State) (v : Service) : Option Latch :=
  match s.scan.latch with
  | some l => if (s.pane v.pane).bankFor true = (s.pane v.pane).front && l.line = v.line then some l else none
  | none => none

/-- A fault of the conflict check: writing host, written pane, line and frame of the latch (R105). -/
def conflictFault (kind : FaultKind) (h : HostNo) (v : Service) (l : Latch) : FaultRecord :=
  faultReport kind (some h) (some v.pane) (some l.line) l.frame

/-- A grant as PASS: latch torn, tear count raised, fault reported (R93, R96). -/
def passGrant (kind : FaultKind) (h : HostNo) (v : Service) (l : Latch) (s : State) : State :=
  let s := s.setScan { s.scan with latch := some { l with torn := true } }
  let s := s.setPane v.pane { s.pane v.pane with tears := satSucc (s.pane v.pane).tears }
  grantWrite h v none (reportFault (conflictFault kind h v l) s)

/-- The parked entry of an operation's access (Table 6-3). -/
def parkedEntry (h : HostNo) (v : Service) : Parked :=
  ⟨h, v.pane, v.line, v.col, v.accessCells, v.op.kind.code, v.op.tag⟩

/-- Parks the access at the tail of the Parked List, or grants it as PASS when the list is full (R94, R96). -/
def parkOrPass (h : HostNo) (v : Service) (l : Latch) (s : State) : State :=
  if s.parked.length < Config.parkedPlaces then
    let s := setAccess h .parked (s.setParked (s.parked ++ [parkedEntry h v]))
    s.setArbiter { s.arbiter with rotation := h }
  else passGrant .parkOverflow h v l s

/-- The outcome of a line conflict by the written pane's policy (Table 6-2). -/
def resolveConflict (h : HostNo) (v : Service) (l : Latch) (s : State) : State :=
  match ((s.pane v.pane).modes.map (·.policy)).getD .pass with
  | .pass => passGrant .tear h v l s
  | .defer => parkOrPass h v l s
  | .relatch =>
    if s.conf.settings.relatchLimit ≤ l.restarts then
      parkOrPass h v l (reportFault (conflictFault .relatchLimit h v l) s)
    else if s.arbiter.urgency = .normal then grantWrite h v (some (l.frame, l.line)) s
    else parkOrPass h v l s

/-- Serves the access of the host the rotation chose: granted, or parked by the conflict check (R68, R69). -/
def serveHost (h : HostNo) (s : State) : State :=
  match (s.lane h).service with
  | none => s
  | some v =>
    match v.op.body with
    | .read _ _ _ bank => grantRead h v ((backSelected bank).getD false) s
    | _ =>
      match conflictOf s v with
      | some l => resolveConflict h v l s
      | none => grantWrite h v none s

/-! ## The grant decision -/

/-- Which user a grant decision serves, if any (R67). A latch in flight counts as offering at every decision: the next
segment read is offered at the event that completes the one before (R56), that starts the latch (R54, R55) or that restarts
it (R100). The gap R67 and R91 speak of, a store free with a latch in flight and its read not yet offered, therefore falls
between no two events, and no write is granted in URGENT while a latch is in flight (DESIGN CHOICE,
notes/assumptions/30.md). -/
def decision (s : State) : Option Grantee :=
  match s.scan.latch.isSome, (nextReady s).isSome with
  | true, true =>
    if s.arbiter.urgency = .normal && s.arbiter.lastGrant = .latch then some .write else some .latch
  | true, false => some .latch
  | false, true => if s.arbiter.urgency = .panic then none else some .write
  | false, false => none

/-- Grant decisions until the store is busy or none is made: a parked access makes the arbiter decide again at once
(R66, R68). Each of the four hosts can have an access parked, so five decisions suffice. -/
def arbitrate : (fuel : Nat) → State → State
  | 0, s => s
  | n + 1, s =>
    if s.arbiter.access.isSome then s
    else
      match decision s with
      | none => s
      | some .latch =>
        match s.scan.latch with
        | some l => grantSegment l s
        | none => s
      | some .write =>
        match nextReady s with
        | some h => arbitrate n (serveHost h s)
        | none => s

/-- What follows at once from an event in RUN: head operations start, and the arbiter decides (R66, R73). -/
def settle (s : State) : State := if s.inRun then arbitrate 5 (startServices s) else s

end Sys2Proof.Machine
end

