-- ==== Sys2Proof/Machine/CellRequests.lean ====
section
/-! DEFINITION. The cell requests as they join their host's cell lane (R72, R78, R79, R80). -/

namespace Sys2Proof.Machine

/-- A cell request at the Write Engine: refused with STATE in SETUP, otherwise at the tail of its host's lane, and what
follows at once (R72, R73). -/
def joinLane (h : HostNo) (op : CellOp) (s : State) : State :=
  if s.inRun then settle (s.setLane h { s.lane h with queued := (s.lane h).queued ++ [op] })
  else reply h op.kind op.tag .state .empty s

/-- The operation of a CELL_WRITE (R78). -/
def writeOp (tag sel : Byte) (px py : Nat) (cells : List RawCell) : CellOp := ⟨tag, sel, .write px py (cells.map cellOf)⟩

/-- The operation of a CELL_FILL (R79). -/
def fillOp (tag sel : Byte) (rect : Rect) (cell : RawCell) : CellOp := ⟨tag, sel, .fill rect (cellOf cell)⟩

/-- The operation of a CELL_READ (R80). -/
def readOp (tag sel : Byte) (px py : Nat) (count bank : Byte) : CellOp := ⟨tag, sel, .read px py count.toNat bank⟩

/-- CELL_WRITE (R78). -/
def takeCellWrite (h : HostNo) (tag sel : Byte) (px py : Nat) (cells : List RawCell) (s : State) : State :=
  joinLane h (writeOp tag sel px py cells) s

/-- CELL_FILL (R79). -/
def takeCellFill (h : HostNo) (tag sel : Byte) (rect : Rect) (cell : RawCell) (s : State) : State :=
  joinLane h (fillOp tag sel rect cell) s

/-- CELL_READ (R80). -/
def takeCellRead (h : HostNo) (tag sel : Byte) (px py : Nat) (count bank : Byte) (s : State) : State :=
  joinLane h (readOp tag sel px py count bank) s

end Sys2Proof.Machine
end

