-- ==== Sys2Proof/Machine/FaultRequests.lean ====
section
/-! DEFINITION. The requests of the Fault Log and Event Queues block (R140, R141, R142, R144). -/

namespace Sys2Proof.Machine

/-- The answer that carries a fault record with the two overflow counts (R140). -/
def faultPayload (s : State) (h : HostNo) (i : Fin 16) (r : FaultRecord) : Payload :=
  .fault i r (s.host h).overflow s.faults.hostless

/-- FAULT_READ: RANGE, NO_FAULT, or the record (R140). -/
def takeFaultRead (h : HostNo) (tag sel : Byte) (s : State) : State :=
  match slotOf sel with
  | none => reply h .faultRead tag .range .empty s
  | some i =>
    match s.faults.slots[i] with
    | none => reply h .faultRead tag .noFault .empty s
    | some r => reply h .faultRead tag .ok (faultPayload s h i r) s

/-- FAULT_CLEAR naming OVERFLOW (R142). -/
def takeFaultClearOverflow (h : HostNo) (tag : Byte) (s : State) : State :=
  reply h .faultClear tag .ok (.overflow (s.host h).overflow s.faults.hostless)
    ((s.setHost h { s.host h with overflow := 0 }).setFaults { s.faults with hostless := 0 })

/-- FAULT_CLEAR naming a slot: RANGE, NO_FAULT, NOT_YOURS, or the slot is freed and the record returned (R141). -/
def clearSlot (h : HostNo) (tag sel : Byte) (s : State) : State :=
  match slotOf sel with
  | none => reply h .faultClear tag .range .empty s
  | some i =>
    match s.faults.slots[i] with
    | none => reply h .faultClear tag .noFault .empty s
    | some r =>
      if r.host.any (· ≠ h) then reply h .faultClear tag .notYours .empty s
      else
        reply h .faultClear tag .ok (faultPayload s h i r)
          (s.setFaults { s.faults with slots := s.faults.slots.set i none })

/-- FAULT_CLEAR: selector FFh names OVERFLOW, any other a slot (R142, Table 12-3). -/
def takeFaultClear (h : HostNo) (tag sel : Byte) (s : State) : State :=
  if sel = 0xFF#8 then takeFaultClearOverflow h tag s else clearSlot h tag sel s

/-- EVENT_FETCH: up to four of the oldest events, which leave the queue, and the lost count, which becomes 0 (R144). -/
def takeEventFetch (h : HostNo) (tag : Byte) (s : State) : State :=
  let q := s.queue h
  reply h .eventFetch tag .ok (.events (q.events.take 4) q.lost (q.events.drop 4).length)
    (refreshAttention h (s.setQueue h ⟨q.events.drop 4, 0⟩))

end Sys2Proof.Machine
end

