-- ==== Sys2Proof/Machine/Panes.lean ====
section
/-! DEFINITION. The pane requests at the Pane Manager (Chapter 2, R35 to R39). Each takes the state in which the Host
Table has let the request through. -/

namespace Sys2Proof.Machine

/-- The first check that fails, in check order (R15). -/
def firstFailing : List (Bool × Status) → Option Status
  | [] => none
  | (fails, status) :: rest => if fails then some status else firstFailing rest

/-! ## Checks common to the pane requests (R15) -/

/-- STATE in SETUP, and RANGE for a pane number above 15 (R15). -/
def namedPane (s : State) (sel : Byte) : Except Status PaneNo :=
  if !s.inRun then .error .state
  else match paneOf sel with
    | none => .error .range
    | some p => .ok p

/-- The checks of an owner-only request (R15). -/
def ownerChecks (h : HostNo) (q : Pane) : List (Bool × Status) :=
  [(q.state = .free || q.state = .orphaned, .paneState), (q.owner ≠ some h, .notOwner)]

/-- A pane request that names a pane: its refusal, or what it does to that pane. -/
def withPane (h : HostNo) (k : Kind) (tag sel : Byte) (checks : PaneNo → List (Bool × Status))
    (take : PaneNo → State → State) (s : State) : State :=
  match namedPane s sel with
  | .error status => reply h k tag status .empty s
  | .ok p =>
    match firstFailing (checks p) with
    | some status => reply h k tag status .empty s
    | none => take p s

/-! ## PANE_CLAIM (R16) -/

/-- The lowest FREE record (R16). -/
def lowestFree (s : State) : Option PaneNo := allPanes.find? fun p => (s.pane p).state = .free

/-- The modes a claim's codes name (R16). -/
def modesOf (buffering policy display : Byte) : Option PaneModes :=
  match bufferingOf buffering, policyOf policy, displayOf display with
  | some b, some p, some d => some ⟨b, .a, p, d⟩
  | _, _, _ => none

/-- The record a claim makes (R16). -/
def claimedPane (h : HostNo) (rect : Rect) (m : PaneModes) : Pane :=
  ⟨.pending, some h, none, none, none, some rect, some m, none, none, 0⟩

/-- PANE_CLAIM (R16). -/
def takePaneClaim (h : HostNo) (tag : Byte) (rect : Rect) (buffering policy display : Byte) (s : State) : State :=
  if !s.inRun then reply h .paneClaim tag .state .empty s
  else
    match lowestFree s, modesOf buffering policy display with
    | none, _ => reply h .paneClaim tag .noPane .empty s
    | some _, none => reply h .paneClaim tag .range .empty s
    | some p, some m =>
      if !s.rectValid rect then reply h .paneClaim tag .range .empty s
      else if s.overlapsPanes none rect then reply h .paneClaim tag .overlap .empty s
      else reply h .paneClaim tag .ok (.claimed p) (s.setPane p (claimedPane h rect m))

/-! ## PANE_STAGE (R17) -/

/-- The checks of PANE_STAGE on pane `p` (R17). -/
def stageChecks (h : HostNo) (arg : Half) (rect : Rect) (s : State) (p : PaneNo) : List (Bool × Status) :=
  let q := s.pane p
  let named := (stageArgOf arg rect).getD none
  ownerChecks h q ++
    ([(q.state = .retiring, .paneState),
      (q.commit.isSome, .commitPending),
      (q.held.isSome, .paneBusy),
      ((stageArgOf arg rect).isNone, .range),
      (named.isNone && q.state = .pending, .paneState),
      (named.any fun r => !s.rectValid r, .range),
      (named.any fun r => s.overlapsPanes (some p) r, .overlap)] : List (Bool × Status))

/-- A PANE_STAGE that passes: held while a cell operation on the pane is in service or parked, otherwise taken (R17). -/
def stagePane (h : HostNo) (tag : Byte) (rect : Option Rect) (p : PaneNo) (s : State) : State :=
  if paneAtWork s p then s.setPane p { s.pane p with held := some (.stage tag rect) }
  else reply h .paneStage tag .ok .empty (s.setPane p { s.pane p with staged := rect })

/-- PANE_STAGE (R17). -/
def takePaneStage (h : HostNo) (tag sel : Byte) (arg : Half) (rect : Rect) (s : State) : State :=
  withPane h .paneStage tag sel (stageChecks h arg rect s) (stagePane h tag ((stageArgOf arg rect).getD none)) s

/-! ## PANE_GUEST (R20, R21) -/

/-- The guest argument names the owner or a host that is not ACTIVE (R20). -/
def badGuest (s : State) (q : Pane) (g : HostNo) : Bool := q.owner = some g || !s.isActive g

/-- The checks of PANE_GUEST on pane `p` (R20). -/
def guestChecks (h : HostNo) (arg : Half) (s : State) (p : PaneNo) : List (Bool × Status) :=
  let q := s.pane p
  ownerChecks h q ++
    ([(q.state ≠ .live, .paneState),
      ((guestArgOf arg).isNone, .range),
      (((guestArgOf arg).getD none).any (badGuest s q), .range)] : List (Bool × Status))

/-- A guest's rights on pane `p` of owner `h` are revoked: its work on the pane ended REVOKED, and GUEST_REVOKED posted
(R20, R21). The guest field is changed before. -/
def revokeGuest (p : PaneNo) (owner : HostNo) (reason : RevokeReason) (g : HostNo) (s : State) : State :=
  postEvent g (.guestRevoked p owner reason) (endWork [p] .revoked g s)

/-- The effect of PANE_GUEST that names another guest than the pane has, or "none" (Table 2-5). -/
def changeGuest (h : HostNo) (p : PaneNo) (named : Option HostNo) (s : State) : State :=
  let before := (s.pane p).guest
  let s := s.setPane p { s.pane p with guest := named }
  let reason := if named.isSome then RevokeReason.replaced else .withdrawn
  postTo named.toList (.guestGranted p h) (forEach before.toList (revokeGuest p h reason) s)

/-- PANE_GUEST on pane `p` once its checks have passed: naming the guest the pane has changes nothing (R20). The answer of a
held PANE_STAGE that the former guest's work held stands before this request's OK, what starts at the same event after it; the
former guest's next operation may start at the same event, and the BUDGET_REACHED or FAULT_NOTE that follows from it is posted
after GUEST_REVOKED and GUEST_GRANTED (DESIGN CHOICE, notes/assumptions/15.md). -/
def guestPane (h : HostNo) (tag : Byte) (named : Option HostNo) (p : PaneNo) (s : State) : State :=
  if (s.pane p).guest = named then reply h .paneGuest tag .ok .empty s
  else settle (reply h .paneGuest tag .ok .empty (changeGuest h p named s))

/-- PANE_GUEST (R20). -/
def takePaneGuest (h : HostNo) (tag sel : Byte) (arg : Half) (s : State) : State :=
  withPane h .paneGuest tag sel (guestChecks h arg s) (guestPane h tag ((guestArgOf arg).getD none)) s

/-! ## PANE_COMMIT (R35, R36, R39) -/

/-- The checks of PANE_COMMIT on pane `p` (R35). -/
def commitChecks (h : HostNo) (s : State) (p : PaneNo) : List (Bool × Status) :=
  let q := s.pane p
  ownerChecks h q ++
    ([(q.state = .retiring, .paneState), (q.commit.isSome, .commitPending), (q.held.isSome, .paneBusy)] : List (Bool × Status))

/-- Host `h`'s cell operations on pane `p` that have not ended (R36). -/
def unfinishedOn (s : State) (h : HostNo) (p : PaneNo) : Nat :=
  ((s.lane h).service.toList.filter fun v => v.op.onPane p).length
    + ((s.lane h).queued.filter fun op => op.onPane p).length

/-- A PANE_COMMIT that passes: held behind the owner's unfinished operations on the pane, otherwise taken (R36, R39). -/
def commitPane (h : HostNo) (tag : Byte) (p : PaneNo) (s : State) : State :=
  if unfinishedOn s h p = 0 then takeCommit h p tag s
  else s.setPane p { s.pane p with held := some (.commit tag (unfinishedOn s h p)) }

/-- PANE_COMMIT (R35). -/
def takePaneCommit (h : HostNo) (tag sel : Byte) (s : State) : State :=
  withPane h .paneCommit tag sel (commitChecks h s) (commitPane h tag) s

/-! ## PANE_RELEASE (R22, R23, R24) -/

/-- The checks of PANE_RELEASE on pane `p` (R22). -/
def releaseChecks (h : HostNo) (s : State) (p : PaneNo) : List (Bool × Status) :=
  ownerChecks h (s.pane p) ++ ([((s.pane p).state = .retiring, .paneState)] : List (Bool × Status))

/-- A LIVE pane once released: RETIRING, without staged rectangle, pending commit, guest and held request (R22). -/
def retiringPane (q : Pane) : Pane :=
  { q with state := .retiring, staged := none, commit := none, guest := none, held := none }

/-- A released pane: a PENDING one FREE, a LIVE one RETIRING (R22). -/
def releasedPane (q : Pane) : Pane := if q.state = .pending then .free q.tears else retiringPane q

/-- The CANCELLED response of a held request (R24). -/
def cancelledHeld : Held → Response
  | .stage tag _ => ⟨Kind.paneStage.code, tag, .cancelled, .empty⟩
  | .commit tag _ => ⟨Kind.paneCommit.code, tag, .cancelled, .empty⟩

/-- The release of pane `p` by its owner: held request, cell work of owner and guest, guest event, then the release's own
OK (R22, R23, R24). The owner's next operation may start at the same event; should it be refused at its service start, that
answer stands after the release's own OK. The guest's next operation may start too; GUEST_REVOKED is posted before the
BUDGET_REACHED or FAULT_NOTE that follows from either start (DESIGN CHOICE, notes/assumptions/15.md). -/
def releasePane (h : HostNo) (tag : Byte) (p : PaneNo) (s : State) : State :=
  let q := s.pane p
  let s := s.setPane p (releasedPane q)
  let s := answerAll h (q.held.toList.map cancelledHeld) s
  let s := endWork [p] .cancelled h s
  let s := forEach q.guest.toList (endWork [p] .cancelled) s
  let s := postTo q.guest.toList (.guestRevoked p h .released) s
  settle (reply h .paneRelease tag .ok (.released q.commit) s)

/-- PANE_RELEASE (R22). -/
def takePaneRelease (h : HostNo) (tag sel : Byte) (s : State) : State :=
  withPane h .paneRelease tag sel (releaseChecks h s) (releasePane h tag) s

/-! ## PANE_ADOPT (R30) -/

/-- The checks of PANE_ADOPT on pane `p` (R30). -/
def adoptChecks (s : State) (p : PaneNo) : List (Bool × Status) := [((s.pane p).state ≠ .orphaned, .notOrphaned)]

/-- An ORPHANED pane once adopted by host `h` (R30). -/
def adoptedPane (h : HostNo) (q : Pane) : Pane :=
  { q with
    state := .live, owner := some h, former := none, guest := none, staged := none, commit := none, held := none }

/-- The adoption's answer: buffering, front bank and current rectangle (R30). -/
def adoptAnswer (q : Pane) : Payload :=
  match q.modes, q.current with
  | some m, some r => .adopted m.buffering m.front r
  | _, _ => .empty

/-- PANE_ADOPT (R30). -/
def takePaneAdopt (h : HostNo) (tag sel : Byte) (s : State) : State :=
  withPane h .paneAdopt tag sel (adoptChecks s)
    (fun p t => reply h .paneAdopt tag .ok (adoptAnswer (t.pane p)) (t.setPane p (adoptedPane h (t.pane p)))) s

/-! ## PANE_QUERY (R32) -/

/-- PANE_QUERY (R32). -/
def takePaneQuery (h : HostNo) (tag sel : Byte) (s : State) : State :=
  withPane h .paneQuery tag sel (fun _ => []) (fun p t => reply h .paneQuery tag .ok (.queried p (t.pane p)) t) s

end Sys2Proof.Machine
end

