-- ==== Sys2Proof/Machine/Formats.lean ====
section
/-! DEFINITION. The byte layouts of responses, records, events, scan-link packets and control-lane messages (Chapter
12). -/

namespace Sys2Proof.Machine

/-! ## Codes (Tables 12-6 and 12-7) -/

def Buffering.code : Buffering → Byte
  | .direct => 0x00#8 | .double => 0x01#8

def Bank.code : Bank → Byte
  | .a => 0x00#8 | .b => 0x01#8

def Policy.code : Policy → Byte
  | .pass => 0x00#8 | .defer => 0x01#8 | .relatch => 0x02#8

def Display.code : Display → Byte
  | .keep => 0x00#8 | .blank => 0x01#8

def DetachMode.code : DetachMode → Byte
  | .release => 0x00#8 | .orphan => 0x01#8

def PaneState.code : PaneState → Byte
  | .free => 0x00#8 | .pending => 0x01#8 | .live => 0x02#8 | .retiring => 0x03#8 | .orphaned => 0x04#8

def HostState.code : HostState → Byte
  | .absent => 0x00#8 | .active => 0x01#8 | .lapsed => 0x02#8

def PartState.code : PartState → Byte
  | .setup => 0x00#8 | .run => 0x01#8

def Cause.code : Cause → Byte
  | .power => 0x00#8 | .pin => 0x01#8 | .vote => 0x02#8

def Urgency.code : Urgency → Byte
  | .normal => 0x00#8 | .urgent => 0x01#8 | .panic => 0x02#8

def LinkState.code : LinkState → Byte
  | .down => 0x00#8 | .up => 0x01#8

def VoteState.code : VoteState → Byte
  | .idle => 0x00#8 | .opened => 0x01#8

def FaultKind.code : FaultKind → Byte
  | .underrun => 0x01#8 | .tear => 0x02#8 | .parkOverflow => 0x03#8 | .relatchLimit => 0x04#8
  | .leaseLapse => 0x05#8 | .panelTimeout => 0x06#8 | .droppedRequest => 0x07#8

def RevokeReason.code : RevokeReason → Byte
  | .replaced => 0x00#8 | .withdrawn => 0x01#8 | .released => 0x02#8 | .orphaned => 0x03#8

def OrphanReason.code : OrphanReason → Byte
  | .lapse => 0x00#8 | .abrupt => 0x01#8 | .detach => 0x02#8

def Status.code : Status → Byte
  | .ok => 0x00#8 | .accepted => 0x01#8 | .state => 0x02#8 | .noPane => 0x03#8 | .range => 0x04#8
  | .overlap => 0x05#8 | .paneState => 0x06#8 | .notOwner => 0x07#8 | .commitPending => 0x08#8
  | .paneBusy => 0x09#8 | .notOrphaned => 0x0A#8 | .notAttached => 0x0B#8 | .lapsed => 0x0C#8
  | .cancelled => 0x0D#8 | .revoked => 0x0E#8 | .badCheck => 0x0F#8 | .badRequest => 0x10#8 | .noSlot => 0x11#8
  | .noFault => 0x12#8 | .notYours => 0x13#8 | .panelFull => 0x14#8 | .panelNak => 0x15#8
  | .panelTimeout => 0x16#8 | .linkDown => 0x17#8 | .configInvalid => 0x18#8

/-! ## Fields that may be absent: FFh and FFFFh (R160) -/

def hostByte (h : Option HostNo) : Byte := (h.map fun n => byteOf n.val).getD 0xFF#8

def paneByte (p : Option PaneNo) : Byte := (p.map fun n => byteOf n.val).getD 0xFF#8

def halfOrAbsent (v : Option Half) : List Byte := halfBytes (v.getD 0xFFFF#16)

def rectOrAbsent (r : Option Rect) : List Byte := (r.map rectBytes).getD (List.replicate 8 0xFF#8)

/-- 00h none, 01h yes (Table 12-5, commit cancelled; Table 12-9, commit pending). -/
def flagByte (b : Bool) : Byte := if b then 0x01#8 else 0x00#8

/-- The own vote flag of a STATUS response: 00h clear, 01h set. Table 12-5 names the field and no table gives it codes
(DESIGN CHOICE, notes/assumptions/32.md). -/
def voteFlagByte (flag : Bool) : Byte := if flag then 0x01#8 else 0x00#8

/-- A cell as a port carries it outward: upper two bits zero (R1). -/
def cellBytes (c : Cell) : List Byte := [c.r.setWidth 8, c.g.setWidth 8, c.b.setWidth 8]

/-- A three-byte count (Table 12-5). -/
def countBytes (n : Nat) : List Byte := [byteOf (n / 65536), byteOf (n / 256), byteOf n]

/-! ## Records -/

/-- A fault record, 10 bytes (Table 12-8). -/
def faultBytes (r : FaultRecord) : List Byte :=
  [r.kind.code, hostByte r.host, paneByte r.pane] ++ halfOrAbsent (r.line.map halfOfNat) ++ halfBytes r.firstFrame
    ++ halfBytes r.lastFrame ++ [byteOf r.repeats]

/-- The kind and tag bytes of a held request (Table 12-9). -/
def heldBytes : Option Held → List Byte
  | none => [0xFF#8, 0xFF#8]
  | some (.stage tag _) => [Kind.paneStage.code, tag]
  | some (.commit tag _) => [Kind.paneCommit.code, tag]

/-- A pane record, 30 bytes (Table 12-9). -/
def paneBytes (n : PaneNo) (p : Pane) : List Byte :=
  [byteOf n.val, p.state.code, hostByte (if p.state = .orphaned then p.former else p.owner), hostByte p.guest]
    ++ rectOrAbsent p.current ++ rectOrAbsent p.staged
    ++ ((p.modes.map fun m => [m.buffering.code, m.front.code, m.policy.code, m.display.code]).getD
        (List.replicate 4 0xFF#8))
    ++ [flagByte p.commit.isSome] ++ halfOrAbsent p.commit ++ heldBytes p.held ++ [byteOf p.tears]

/-- An event, 8 bytes (Tables 9-4 and 12-10). -/
def eventBytes : Event → List Byte
  | .commitDone p t f => [0x01#8, byteOf p.val] ++ halfBytes t ++ halfBytes f ++ [0xFF#8, 0xFF#8]
  | .faultNote slot k => [0x02#8, 0xFF#8, 0xFF#8, 0xFF#8, 0xFF#8, 0xFF#8, byteOf slot.val, k.code]
  | .leaseWarn f => [0x03#8, 0xFF#8, 0xFF#8, 0xFF#8] ++ halfBytes f ++ [0xFF#8, 0xFF#8]
  | .budgetReached p f => [0x04#8, byteOf p.val, 0xFF#8, 0xFF#8] ++ halfBytes f ++ [0xFF#8, 0xFF#8]
  | .guestGranted p o => [0x05#8, byteOf p.val, 0xFF#8, 0xFF#8, 0xFF#8, 0xFF#8, byteOf o.val, 0xFF#8]
  | .guestRevoked p o r => [0x06#8, byteOf p.val, 0xFF#8, 0xFF#8, 0xFF#8, 0xFF#8, byteOf o.val, r.code]
  | .orphanNotice p o r => [0x07#8, byteOf p.val, 0xFF#8, 0xFF#8, 0xFF#8, 0xFF#8, byteOf o.val, r.code]
  | .voteOpened f o => [0x08#8, 0xFF#8, 0xFF#8, 0xFF#8] ++ halfBytes f ++ [byteOf o.val, 0xFF#8]
  | .voteFailed f => [0x09#8, 0xFF#8, 0xFF#8, 0xFF#8] ++ halfBytes f ++ [0xFF#8, 0xFF#8]

/-- The STATUS payload, 19 bytes (Table 12-5); the codes of its last byte are the model's (`voteFlagByte`). -/
def statusBytes (r : StatusReport) : List Byte :=
  [0x84#8, 0x01#8, r.part.code, r.cause.code] ++ halfBytes r.frame
    ++ [byteOf r.queueCount, r.urgency.code, r.hostState.code] ++ natBytes r.lease
    ++ [byteOf r.slots, byteOf r.reserved, byteOf r.overflow, r.link.code, r.vote.code] ++ natBytes r.window
    ++ [voteFlagByte r.ownVote]

/-- The payload bytes of a response (Table 12-5). -/
def payloadBytes : Payload → List Byte
  | .empty => []
  | .attach h before reserved lease part =>
      [byteOf h.val, before.code, byteOf reserved, byteOf lease, part.code]
  | .detach mode retiring orphaned freed => [mode.code, byteOf retiring, byteOf orphaned, byteOf freed]
  | .status r => statusBytes r
  | .config field (.number n) writer => [field] ++ natBytes n ++ [hostByte writer]
  | .config field (.cell c) writer => [field] ++ cellBytes c ++ [hostByte writer]
  | .started frame => halfBytes frame
  | .configInvalid field => [field]
  | .claimed p => [byteOf p.val]
  | .ticket t => halfBytes t
  | .released t => [flagByte t.isSome] ++ halfOrAbsent t
  | .adopted buffering front current => [buffering.code, front.code] ++ rectBytes current
  | .queried n p => paneBytes n p
  | .count n => countBytes n
  | .cells cs => countBytes cs.length ++ cs.flatMap cellBytes
  | .fault slot r own hostless => [byteOf slot.val] ++ faultBytes r ++ [byteOf own, byteOf hostless]
  | .overflow own hostless => [byteOf own, byteOf hostless]
  | .events es lost left => [byteOf es.length, byteOf lost, byteOf left] ++ es.flatMap eventBytes
  | .panel address attempts => [address, byteOf attempts]

/-! ## Response frames (Table 12-4) -/

/-- A response frame: header, payload and check byte; `idle` is the idle response, kind, tag and status 00h. The flags,
events waiting and credits are those of port `h` as they stand (R121). -/
def responseFrame (s : State) (h : HostNo) (r : Option Response) : List Byte :=
  let payload := (r.map fun x => payloadBytes x.payload).getD []
  let covered :=
    natBytes payload.length
      ++ ((r.map fun x => [x.kind, x.tag, x.status.code]).getD [0x00#8, 0x00#8, 0x00#8])
      ++ [flagsByte (s.port h), byteOf (s.queue h).events.length, byteOf (credits s h)] ++ payload
  covered ++ [crc8 covered]

/-! ## Scan link (R161) -/

/-- A cell word: red in the upper six bits, green in the middle, blue in the lower. -/
def cellWord (c : Cell) : LaneWord := c.r ++ c.g ++ c.b

/-- A FRAME packet: code word, frame number. -/
def framePacket (frame : Half) : List LaneWord := [0x3F001#18, frame.setWidth 18]

/-- The flags word of a LINE packet (Table 4-5). -/
def lineFlags (frameStart torn underrun : Bool) : LaneWord :=
  (if frameStart then 1#18 else 0#18) ||| (if torn then 2#18 else 0#18) ||| (if underrun then 4#18 else 0#18)

/-- A LINE packet: code word, line number, flags, cells in column order. -/
def linePacket (line : Nat) (torn underrun : Bool) (cells : List Cell) : List LaneWord :=
  [0x3F002#18, BitVec.ofNat 18 line, lineFlags (line = 0) torn underrun] ++ cells.map cellWord

/-- The packets sent at a visible mark: a FRAME packet first for line 0 (R59, R62). -/
def markPackets (frame : Half) (line : Nat) (torn underrun : Bool) (cells : List Cell) : List LaneWord :=
  (if line = 0 then framePacket frame else []) ++ linePacket line torn underrun cells

/-- The word the line lane carries: the next word of the packets being sent, or the idle word 0 (R161). -/
def laneWord (s : State) : LaneWord := s.scan.lane.headD 0

/-- A control-lane message (R161). -/
def controlMessage (t : Transfer) : List Byte :=
  let covered := [t.address, byteOf t.data.length] ++ t.data
  [0x5A#8] ++ covered ++ [crc8 covered]

/-- The message the control lane is sending, if any (R148). -/
def controlLane (s : State) : List Byte :=
  match s.panel.inFlight with
  | some f => if f.phase = .sending then controlMessage f.transfer else []
  | none => []

end Sys2Proof.Machine
end

