-- ==== Sys2Proof/Machine/Panel.lean ====
section
/-! DEFINITION. The Panel Channel: the transfer FIFO, the transfer in flight, the link and departures (Chapter 10). -/

namespace Sys2Proof.Machine

/-- A transfer may start as things stand: a SYNCED one in RUN only inside blanking (R147). -/
def mayStart (s : State) (t : Transfer) : Bool := !t.synced || !s.inRun || s.panel.blanking

/-- Starts the head transfer when none is in flight, the link is UP and the head may start (R147). -/
def startTransfer (s : State) : State :=
  match s.panel.inFlight, s.panel.fifo with
  | none, t :: rest =>
    if s.scan.link = .up && mayStart s t then
      s.setPanel { s.panel with fifo := rest, inFlight := some ⟨t, .sending, 1, false⟩ }
    else s
  | _, _ => s

/-- Ends the transfer in flight: its response is placed and its slot freed unless it carries the discard mark; an end with
PANEL_TIMEOUT is reported as a fault, with the discard mark recorded without a note; the next transfer may start (R148,
R151). -/
def endTransfer (status : Status) (s : State) : State :=
  match s.panel.inFlight with
  | none => s
  | some f =>
    let t := f.transfer
    let s := s.setPanel { s.panel with inFlight := none, timer := none }
    let s := if f.discard then s else reply t.host .panelSend t.tag status (.panel t.address f.attempts) s
    let s :=
      if status = .panelTimeout then
        let fault := faultReport .panelTimeout (some t.host) none none s.scan.frame
        if f.discard then reportUnnoted fault s else reportFault fault s
      else s
    startTransfer s

/-- A NAK or an expiry: the message is sent again while attempts remain, and otherwise the transfer ends (R148). -/
def retryOrEnd (status : Status) (s : State) : State :=
  match s.panel.inFlight with
  | none => s
  | some f =>
    if f.attempts < s.conf.settings.panelRetries + 1 then
      s.setPanel { s.panel with
        inFlight := some { f with phase := .sending, attempts := f.attempts + 1 }, timer := none }
    else endTransfer status s

/-- The transfer in flight is in phase AWAITING (R149). -/
def awaiting (s : State) : Bool := s.panel.inFlight.any fun f => f.phase = .awaiting

/-- PANEL_SEND at the Panel Channel (R146). -/
def takePanelSend (h : HostNo) (tag address synced : Byte) (data : List Byte) (s : State) : State :=
  if s.panel.fifo.length < Config.fifoPlaces then
    startTransfer
      (s.setPanel { s.panel with fifo := s.panel.fifo ++ [⟨h, tag, address, data, synced ≠ 0x00#8⟩] })
  else reply h .panelSend tag .panelFull .empty s

/-- The end of a message's sending: AWAITING, and the reply timer starts (R148). -/
def panelSendEnd (s : State) : State :=
  match s.panel.inFlight with
  | some f =>
    if f.phase = .sending then
      s.setPanel { s.panel with
        inFlight := some { f with phase := .awaiting },
        timer := some (s.conf.settings.panelTimeout * Config.replyUnit) }
    else s
  | none => s

/-- An ACK: ends an AWAITING transfer with OK, and is ignored otherwise (R148, R149). -/
def panelAck (s : State) : State := if awaiting s then endTransfer .ok s else s

/-- A NAK: retries an AWAITING transfer or ends it with PANEL_NAK, and is ignored otherwise (R148, R149). -/
def panelNak (s : State) : State := if awaiting s then retryOrEnd .panelNak s else s

/-- The reply timer's expiry: retries an AWAITING transfer or ends it with PANEL_TIMEOUT (R148). -/
def replyTimerExpiry (s : State) : State := if awaiting s then retryOrEnd .panelTimeout s else s

/-! ## The reply byte (R161) -/

/-- What a reply byte says. -/
inductive PanelReply where
  | ack | nak
  deriving DecidableEq, Repr, Inhabited

/-- The reply a byte on the control lane spells: 06h ACK, 15h NAK, any other value none (R161). -/
def panelReplyOf (b : Byte) : Option PanelReply :=
  if b = 0x06#8 then some .ack else if b = 0x15#8 then some .nak else none

/-- A byte that arrives from the panel: an ACK, a NAK, or ignored (R149, R161). -/
def panelByte (b : Byte) (s : State) : State :=
  match panelReplyOf b with
  | some .ack => panelAck s
  | some .nak => panelNak s
  | none => s

/-! ## Departures (R151) -/

/-- The transfers of host `h` leave the FIFO, the others closing up (R151). -/
def dropTransfers (h : HostNo) (s : State) : State :=
  s.setPanel { s.panel with fifo := s.panel.fifo.filter fun t => t.host ≠ h }

/-- The CANCELLED responses of host `h`'s queued transfers, in FIFO order (R151). -/
def cancelledTransfers (s : State) (h : HostNo) : List Response :=
  (s.panel.fifo.filter fun t => t.host = h).map fun t => ⟨Kind.panelSend.code, t.tag, .cancelled, .empty⟩

/-- The discard mark of a lapse or an abrupt departure of host `h` (R151). -/
def discardInFlight (h : HostNo) (s : State) : State :=
  s.setPanel { s.panel with
    inFlight := s.panel.inFlight.map fun f => if f.transfer.host = h then { f with discard := true } else f }

end Sys2Proof.Machine
end

