-- ==== Sys2Proof/Machine/Scanning.lean ====
section
/-! DEFINITION. The Scan Engine: latches, the line queue, line marks and underruns, the frame boundary and the link (R43 to
R64, R97 to R101). -/

namespace Sys2Proof.Machine

/-! ## The Pane Manager's work at a boundary (R43 to R47) -/

/-- A pane's modes once a commit has applied: a DOUBLE pane's front bank changes (R45, R46). -/
def committedModes (m : PaneModes) : PaneModes :=
  if m.buffering = .double then { m with front := m.front.other } else m

/-- A PENDING or LIVE pane once its commit has applied (R45, R46). -/
def committedPane (q : Pane) : Pane :=
  { q with
    state := .live, current := q.target, staged := none, modes := q.modes.map committedModes, commit := none }

/-- The boundary's work on one pane record (R44 to R47). -/
def boundaryPane (frame : Half) (p : PaneNo) (s : State) : State :=
  let q := s.pane p
  match q.state, q.commit with
  | .retiring, _ => s.setPane p (.free q.tears)
  | .pending, some t | .live, some t =>
    postTo q.owner.toList (.commitDone p t frame) (s.setPane p (committedPane q))
  | _, _ => s

/-- The boundary of frame `frame`: frame number, Pane Manager, then Write Engine (R55, R43, R83). -/
def frameBoundary (frame : Half) (s : State) : State :=
  let s := s.setScan { s.scan with frame := frame, cursorFrame := frame }
  refillBudgets (forEach allPanes (boundaryPane frame) s)

/-! ## Latches (R53 to R57) -/

/-- Starts a latch of the cursor's line when none is in flight and the queue has room; line 0 makes the boundary of frame
`frame` (R54, R55). -/
def startLatchAs (frame : Half) (s : State) : State :=
  if s.inRun && s.scan.latch.isNone && s.scan.queue.length < Config.queueLines then
    let s := if s.scan.cursorLine = 0 then frameBoundary frame s else s
    s.setScan { s.scan with latch := some ⟨s.scan.cursorFrame, s.scan.cursorLine, 0, [], false, 0⟩ }
  else s

/-- Starts a latch; a boundary's frame number is one more than before (R55). -/
def startLatch (s : State) : State := startLatchAs (s.scan.frame + 1) s

/-- The cursor after line `line` of frame `frame` (R53). -/
def cursorAfter (height : Nat) (frame : Half) (line : Nat) : Half × Nat :=
  if line + 1 < height then (frame, line + 1) else (frame + 1, 0)

/-- Releases the Parked List and starts the next latch, at one event. Where that start makes a frame boundary the order is
the free value of R97 (notes/assumptions/2.md). -/
def releaseAndStart (s : State) : State :=
  if s.parked ≠ [] && s.scan.cursorLine = 0 && s.scan.queue.length < Config.queueLines then
    let first := Config.releaseFirst s.choices
    let s := s.setChoices (s.choices + 1)
    if first then startLatch (releaseParked s) else releaseParked (startLatch s)
  else startLatch (releaseParked s)

/-- The completion of a latch: its line joins the queue, the cursor advances, the parked accesses are released and the next
latch starts (R57). -/
def completeLatch (l : Latch) (s : State) : State :=
  let c := cursorAfter s.conf.settings.frameHeight s.scan.cursorFrame s.scan.cursorLine
  let s := s.setScan { s.scan with
    latch := none, cursorFrame := c.1, cursorLine := c.2,
    queue := s.scan.queue ++ [⟨l.frame, l.line, l.torn, l.gathered.flatten⟩] }
  releaseAndStart (refreshUrgency s)

/-- A segment read's cells are gathered, and the latch goes on or completes (R56, R57). -/
def gatherSegment (cells : List Cell) (s : State) : State :=
  match s.scan.latch with
  | none => s
  | some l =>
    let l := { l with gathered := l.gathered ++ [cells], segment := l.segment + 1 }
    if l.segment < segmentCount s.conf.settings.frameWidth then s.setScan { s.scan with latch := some l }
    else completeLatch l s

/-- The restart of the latch a RELATCH write conflicted with, when it is still in flight (R100, R101). -/
def restartLatch (restart : Option (Half × Nat)) (s : State) : State :=
  match restart, s.scan.latch with
  | some (frame, line), some l =>
    if l.frame = frame && l.line = line then
      s.setScan { s.scan with
        latch := some { l with segment := 0, gathered := [], torn := false, restarts := l.restarts + 1 } }
    else s
  | _, _ => s

/-! ## Completions of store accesses -/

/-- The store is free again (R66). -/
def freeStore (s : State) : State := s.setArbiter { s.arbiter with access := none }

/-- The access in progress names places of the store (R2). -/
def accessInStore (s : State) : Bool :=
  match s.arbiter.access with
  | some (.segment _ line first cells) | some (.write _ _ _ line first cells _) | some (.read _ _ _ line first cells) =>
      runInStore line first cells.length
  | none => true

/-- The completion of a granted segment read; one whose latch is gone delivers its cells to no one (R56, R63). -/
def segmentReadComplete (s : State) : State :=
  match s.arbiter.access with
  | some (.segment live _ _ cells) =>
    settle (if live then gatherSegment cells (freeStore s) else freeStore s)
  | _ => s

/-- Stores the cells of a write access (R9). -/
def storeCells (bank : Bank) (line first : Nat) (cells : List Cell) (s : State) : State :=
  s.setStore (s.store.writeRun bank line first cells)

/-- The completion of a granted write access: cells stored, the latch perhaps restarted, the operation continued or ended
(R9, R76, R100). -/
def writeAccessComplete (s : State) : State :=
  match s.arbiter.access with
  | some (.write live h bank line first cells restart) =>
    let s := restartLatch restart (storeCells bank line first cells (freeStore s))
    settle (if live then writeDone h cells.length s else s)
  | _ => s

/-- The completion of a granted read access: its operation completes with the cells (R10, R80). -/
def readAccessComplete (s : State) : State :=
  match s.arbiter.access with
  | some (.read live h _ _ _ cells) => settle (if live then readDone h cells (freeStore s) else freeStore s)
  | _ => s

/-! ## Line marks (R51, R52, R59 to R64) -/

/-- The position of the next line mark (R51). -/
def nextMark (s : State) : Nat :=
  match s.scan.mark with
  | none => 0
  | some k => if k + 1 < s.conf.settings.frameHeight + s.conf.settings.blankLines then k + 1 else 0

/-- The emission frame number at the next mark: raised at each mark 0 after the first (R51). -/
def nextEmission (s : State) : Half :=
  if s.scan.mark.isSome && nextMark s = 0 then s.scan.emission + 1 else s.scan.emission

/-- The emitter mode at mark `k`: a RESUMING emitter sends from mark 0 (R61). -/
def emitterAt (k : Nat) (m : EmitterMode) : EmitterMode := if k = 0 && m = .resuming then .sending else m

/-- The line timer at a mark: position, emission frame, the next period, the emitter mode of the mark; the packets of the
mark before have left the lane (R51, R60, R61). -/
def advanceMark (s : State) : State :=
  s.setScan { s.scan with
    mark := some (nextMark s), emission := nextEmission s, timer := s.conf.settings.linePeriod,
    emitter := emitterAt (nextMark s) s.scan.emitter, lane := [] }

/-- Puts the packets of a mark on the lane while the emitter mode is SENDING (R59, R62). -/
def emit (packets : List LaneWord) (s : State) : State :=
  if s.scan.emitter = .sending then s.setScan { s.scan with lane := packets } else s

/-- A latch of line `k` of the emission frame is in flight (R63). -/
def latchIsOf (s : State) (k : Nat) : Bool := s.scan.latch.any fun l => l.line = k && l.frame = s.scan.emission

/-- A segment read in progress delivers its cells to no latch any more (R63). -/
def abandonAccess : StoreAccess → StoreAccess
  | .segment _ line first cells => .segment false line first cells
  | other => other

/-- The latch in flight is abandoned with its record (R63). -/
def abandonLatch (s : State) : State :=
  (s.setScan { s.scan with latch := none }).setArbiter
    { s.arbiter with access := s.arbiter.access.map abandonAccess }

/-- A line of BACKDROP (R62). -/
def backdropLine (s : State) : List Cell := .replicate s.conf.settings.frameWidth s.conf.settings.backdrop

/-- An underrun at mark `k`: BACKDROP, the fault, and the latch engine skips the line (R62, R63, R98). The fault's note is
posted before what the release and a boundary post (DESIGN CHOICE, notes/assumptions/15.md). -/
def underrun (k : Nat) (s : State) : State :=
  let s := emit (markPackets s.scan.emission k false true (backdropLine s)) s
  let s := reportFault (faultReport .underrun none none (some k) s.scan.emission) s
  let c := cursorAfter s.conf.settings.frameHeight s.scan.emission k
  if latchIsOf s k then
    let s := abandonLatch s
    releaseAndStart (s.setScan { s.scan with cursorFrame := c.1, cursorLine := c.2 })
  else startLatch (s.setScan { s.scan with cursorFrame := c.1, cursorLine := c.2 })

/-- A visible mark: the line due leaves the queue and is sent, or the mark is an underrun (R59, R62). -/
def visibleMark (k : Nat) (s : State) : State :=
  match s.scan.queue with
  | e :: rest =>
    if e.line = k && e.frame = s.scan.emission then
      let s := emit (markPackets s.scan.emission k e.torn false e.cells) s
      startLatch (refreshUrgency (s.setScan { s.scan with queue := rest }))
    else underrun k s
  | [] => underrun k s

/-- BLANKING_START at mark H and BLANKING_END at mark 0 after the first, announced to the Panel Channel (R52, R147). -/
def announceBlanking (first : Bool) (k : Nat) (s : State) : State :=
  if k = s.conf.settings.frameHeight then startTransfer (s.setPanel { s.panel with blanking := true })
  else if k = 0 && !first then s.setPanel { s.panel with blanking := false }
  else s

/-- The work of mark `k` (R52, R59, R64). -/
def markWork (first : Bool) (k : Nat) (s : State) : State :=
  let s := announceBlanking first k s
  if k < s.conf.settings.frameHeight then visibleMark k s else s

/-- A line mark; none falls outside RUN (R51, R70). -/
def lineMark (s : State) : State :=
  if s.inRun then settle (markWork s.scan.mark.isNone (nextMark s) (advanceMark s)) else s

/-! ## The scan link (R61, R150) -/

/-- PRDY asserted: the link is UP, the emitter RESUMING, and the head transfer may start (R61, R147). While the RESET pin
holds the blocks, the emitter stays at its reset value (R159). -/
def linkUp (s : State) : State :=
  if s.scan.link = .up then s
  else
    startTransfer (s.setScan { s.scan with
      link := .up, emitter := if s.resetPin then s.scan.emitter else .resuming })

/-- PRDY deasserted: the link is DOWN, the emitter SILENT with its packet cut off, and a transfer in flight ends with
LINK_DOWN (R61, R150). -/
def linkDown (s : State) : State :=
  if s.scan.link = .down then s
  else endTransfer .linkDown (s.setScan { s.scan with link := .down, emitter := .silent, lane := [] })

end Sys2Proof.Machine
end

