-- ==== Sys2Proof/Machine/Departures.lean ====
section
/-! DEFINITION. Departures, the reset vote and part resets: what each block does when a host leaves, and the reset values
(R11, R26 to R28, R88, R117, R118, R133, R145, R151, R156 to R159). -/

namespace Sys2Proof.Machine

/-! ## Part reset (R159) -/

/-- The store at a part reset: a write access in progress completes whole; after power-on every cell is unknown (R11). -/
def resetStore (cause : Cause) (s : State) : CellStore :=
  match cause, s.arbiter.access with
  | .power, _ => ⟨[], s.store.powerOns + 1⟩
  | _, some (.write _ _ bank line first cells _) => s.store.writeRun bank line first cells
  | _, _ => s.store

/-- A part reset: every block at its reset values; the stored cells, the input pins and the commands that wait are kept
(R159, R11, R61). -/
def partReset (cause : Cause) (s : State) : State :=
  { State.reset with
    pending := s.pending
    choices := s.choices
    resetPin := s.resetPin
    store := resetStore cause s
    scan := .reset s.scan.link
    ports := s.ports.map fun p => .reset p.present
    conf := .reset cause }

/-! ## The vote (R156, R157) -/

/-- Some host is ACTIVE. -/
def anyActive (s : State) : Bool := allHosts.any s.isActive

/-- Every ACTIVE host's vote flag is set (R157). -/
def unanimous (s : State) : Bool := allHosts.all fun h => !s.isActive h || (s.host h).vote

/-- The vote becomes IDLE and the window timer stops. -/
def closeVote (s : State) : State := s.setConf { s.conf with vote := .idle, window := 0 }

/-- The judgement of an OPEN vote (R157). -/
def judgeVote (s : State) : State :=
  if s.conf.vote = .opened then
    if !anyActive s then closeVote s
    else if unanimous s then partReset .vote s
    else s
  else s

/-! ## The Host Table's and the port's share -/

/-- The host record at a departure: out of ACTIVE, lease stopped, flags clear (R113, R115, R116). -/
def leaveActive (h : HostNo) (after : HostState) (s : State) : State :=
  s.setHost h { s.host h with state := after, lease := 0, warned := false, vote := false }

/-- The port's share of a lapse or an abrupt departure: slots freed, response queue cleared, LAPSED_SEEN at a lapse
(R133). -/
def portDeparture (h : HostNo) (lapse : Bool) (s : State) : State :=
  clearResponses h (s.setPort h
    { s.port h with slots := 0, lapsedSeen := lapse || (s.port h).lapsedSeen })

/-! ## The Pane Manager's share (R26, R27, R28) -/

/-- Host `h` owns pane `p` in state `st`. -/
def owns (s : State) (h : HostNo) (st : PaneState) (p : PaneNo) : Bool :=
  (s.pane p).owner = some h && (s.pane p).state = st

/-- A pane once orphaned (R26). -/
def orphanedPane (q : Pane) : Pane :=
  { q with
    state := .orphaned, owner := none, former := q.owner, guest := none, staged := none, commit := none, held := none }

/-- The departing owner's record of pane `p`: a PENDING one becomes FREE, a LIVE one ORPHANED or, at DETACH(RELEASE),
RETIRING; a RETIRING one stays (R25, R26, R27). -/
def departPane (h : HostNo) (kind : Departure) (p : PaneNo) (s : State) : State :=
  let q := s.pane p
  if owns s h .pending p then s.setPane p (.free q.tears)
  else if owns s h .live p then
    s.setPane p (if kind = .detach .release then retiringPane q else orphanedPane q)
  else s

/-- The LIVE panes of host `h` whose guest is `g`, in ascending pane number. -/
def guestPanesOf (s : State) (h g : HostNo) : List PaneNo :=
  allPanes.filter fun p => owns s h .live p && (s.pane p).guest = some g

/-- How the work of a departing owner's guest ends, and what the guest is told (R26, R27, R89). -/
def guestEnd : Departure → Status × RevokeReason
  | .detach .release => (.cancelled, .released)
  | .lapse | .abrupt | .detach .orphan => (.revoked, .orphaned)

/-- Guest `g` of some panes of the departing owner `h`: its work on all of them ends at one event, its queued operations
answered in lane order (R87), and GUEST_REVOKED is posted for each pane, in ascending pane number (R26, R27, R89). -/
def departGuest (h : HostNo) (kind : Departure) (g : HostNo) (panes : List PaneNo) (s : State) : State :=
  forEach panes (fun p => postEvent g (.guestRevoked p h (guestEnd kind).2)) (endWork panes (guestEnd kind).1 g s)

/-- A departing host is removed as guest of pane `p` with no event (R28). -/
def removeGuest (h : HostNo) (p : PaneNo) (s : State) : State :=
  if (s.pane p).guest = some h then s.setPane p { s.pane p with guest := none } else s

/-- The reason of an ORPHAN_NOTICE (R26). -/
def orphanReason : Departure → OrphanReason
  | .lapse => .lapse
  | .abrupt => .abrupt
  | .detach _ => .detach

/-- The panes host `h`'s departure orphans (R26). -/
def orphansOf (s : State) (h : HostNo) (kind : Departure) : List PaneNo :=
  if kind = .detach .release then [] else allPanes.filter (owns s h .live)

/-- The Pane Manager's share of a departure: the owner's panes, their guests, then the ORPHAN_NOTICE events in ascending
pane number, then the departing host's guest rights (R26, R27, R28). The host has left ACTIVE before. All GUEST_REVOKED stand
before all ORPHAN_NOTICE (DESIGN CHOICE, notes/assumptions/15.md). -/
def departPanes (h : HostNo) (kind : Departure) (s : State) : State :=
  let left := forEach allPanes (departPane h kind) s
  let told := forEach allHosts (fun g => departGuest h kind g (guestPanesOf s h g)) left
  let noticed := forEach (orphansOf s h kind) (fun p => postTo allHosts (.orphanNotice p h (orphanReason kind))) told
  forEach allPanes (removeGuest h) noticed

/-! ## Lapse and abrupt departure (R118, R133, R145, R151) -/

/-- Every block's share of a LAPSE or an ABRUPT departure of host `h`, then the vote's judgement and what follows at once.
The host record has left ACTIVE before. A PANE_STAGE of another owner that `h`'s work held is taken after `h`'s own panes have
given up their areas, so that its overlap check does not see them (DESIGN CHOICE, notes/assumptions/31.md). Should that owner
also be guest of one of `h`'s panes, the answers to its ended work stand before the stage's (DESIGN CHOICE,
notes/assumptions/15.md). -/
def departSilently (h : HostNo) (kind : Departure) (s : State) : State :=
  let s := clearEvents h (portDeparture h (kind = .lapse) s)
  let s := departPanes h kind s
  let s := takeIdleStages (dropOps h s)
  let s := startTransfer (discardInFlight h (dropTransfers h s))
  settle (judgeVote s)

/-! ## DETACH (R116, R117) -/

/-- The CANCELLED responses of the requests held on host `h`'s panes, in ascending pane number (R26, R27, R38). -/
def cancelledHeldOf (s : State) (h : HostNo) : List Response :=
  allPanes.flatMap fun p => if (s.pane p).owner = some h then (s.pane p).held.toList.map cancelledHeld else []

/-- The response to DETACH (R117). -/
def detachResponse (s : State) (h : HostNo) (tag : Byte) (mode : DetachMode) : Response :=
  let live := (allPanes.filter (owns s h .live)).length
  let pending := (allPanes.filter (owns s h .pending)).length
  let counts := match mode with
    | .release => Payload.detach mode live 0 pending
    | .orphan => Payload.detach mode 0 live pending
  ⟨Kind.detach.code, tag, .ok, counts⟩

/-- The DETACH response waits for the operation in service whose access is in progress, and otherwise is placed now
(R117). -/
def placeDetach (h : HostNo) (r : Response) (s : State) : State :=
  match (s.lane h).service with
  | some v => s.setLane h { s.lane h with service := some { v with delayed := v.delayed ++ [r] } }
  | none => answer h r s

/-- The responses the three blocks place for host `h` at its DETACH, each block's in its own order and the order among
blocks free (R117; notes/assumptions/3.md). `n` is the number of choices made before. -/
def detachAnswers (n : Nat) (panes cells panel : List Response) : List Response :=
  let both := interleave (Config.pick n) (panes.length + cells.length) panes cells
  interleave (Config.pick (n + 1)) (both.length + panel.length) both panel

/-- DETACH in a valid mode (R116): the departure of host `h`, everything it holds answered. A PANE_STAGE of another owner
that `h`'s work held is taken after `h`'s own panes have given up their areas (DESIGN CHOICE, notes/assumptions/31.md), and is
answered after the work that owner loses as a guest of `h`'s panes (DESIGN CHOICE, notes/assumptions/15.md). -/
def detachHost (h : HostNo) (tag : Byte) (mode : DetachMode) (s : State) : State :=
  let held := cancelledHeldOf s h
  let own := detachResponse s h tag mode
  let s := departPanes h (.detach mode) (leaveActive h .absent s)
  let ops := stoppedResponses s h (fun _ => true) .cancelled
  let transfers := cancelledTransfers s h
  let s := dropTransfers h (stopOps h (fun _ => true) (fun _ => true) .cancelled s)
  let answers := detachAnswers s.choices held ops transfers
  let s := answerAll h answers (s.setChoices (s.choices + 2))
  let s := startTransfer (placeDetach h own (takeIdleStages s))
  settle (judgeVote s)

end Sys2Proof.Machine
end

