-- ==== Sys2Proof/Machine/Configuration.lean ====
section
/-! DEFINITION. The Configuration Block: the fields, CONFIG_SET, CONFIG_GET, START, RESET_VOTE and the vote window (Chapter
11). -/

namespace Sys2Proof.Machine

/-! ## Fields (Table 11-3, R154) -/

/-- The index of a field number 01h to 13h (R154). -/
def fieldOf (n : Byte) : Option (Fin 19) := if h : 1 ≤ n.toNat ∧ n.toNat ≤ 19 then some ⟨n.toNat - 1, by omega⟩ else none

/-- A host of a per-host field: `i` counts from the first of the four. -/
def fieldHost (i : Nat) : HostNo := Fin.ofNat 4 i

/-- A field's value (R154); field number 5 is BACKDROP. -/
def fieldValue (c : Settings) (f : Fin 19) : FieldValue :=
  match f.val + 1 with
  | 1 => .number c.frameWidth
  | 2 => .number c.frameHeight
  | 3 => .number c.blankLines
  | 4 => .number c.linePeriod
  | 5 => .cell c.backdrop
  | 6 => .number c.urgentLevel
  | 7 => .number c.panicLevel
  | 8 => .number c.relatchLimit
  | 9 => .number c.leasePeriod
  | 18 => .number c.panelTimeout
  | 19 => .number c.panelRetries
  | n => if n ≤ 13 then .number c.reserved[fieldHost (n - 10)] else .number c.budget[fieldHost (n - 14)]

/-- The lowest and highest value of a numeric field (Table 11-3). -/
def fieldRange (f : Fin 19) : Nat × Nat :=
  match f.val + 1 with
  | 1 => (64, 800)
  | 2 => (32, 480)
  | 3 => (4, 60)
  | 4 => (480, 4095)
  | 6 => (1, 4)
  | 7 => (0, 3)
  | 8 => (1, 7)
  | 9 => (1, 255)
  | 18 => (1, 255)
  | 19 => (0, 3)
  | n => if n ≤ 13 then (0, 16) else (0, 6000)

/-- A value is in a numeric field's range; FRAME_WIDTH is a multiple of 16 (Table 11-3). -/
def fieldInRange (f : Fin 19) (v : Nat) : Bool :=
  (fieldRange f).1 ≤ v && v ≤ (fieldRange f).2 && (f.val ≠ 0 || v % 16 = 0)

/-- Writes a numeric field (R154). -/
def setNumber (c : Settings) (f : Fin 19) (v : Nat) : Settings :=
  match f.val + 1 with
  | 1 => { c with frameWidth := v }
  | 2 => { c with frameHeight := v }
  | 3 => { c with blankLines := v }
  | 4 => { c with linePeriod := v }
  | 5 => c
  | 6 => { c with urgentLevel := v }
  | 7 => { c with panicLevel := v }
  | 8 => { c with relatchLimit := v }
  | 9 => { c with leasePeriod := v }
  | 18 => { c with panelTimeout := v }
  | 19 => { c with panelRetries := v }
  | n => if n ≤ 13 then { c with reserved := c.reserved.set (fieldHost (n - 10)) v }
         else { c with budget := c.budget.set (fieldHost (n - 14)) v }

/-- The value a CONFIG_SET names for a field, or none where the payload length or the value does not suit it (R154,
R160). -/
def offeredValue (f : Fin 19) (value : Half) (cell : Option RawCell) : Option FieldValue :=
  match cell with
  | some c => if f.val = 4 then some (.cell (cellOf c)) else none
  | none => if f.val ≠ 4 && fieldInRange f value.toNat then some (.number value.toNat) else none

/-- The settings with a field's new value. -/
def setField (c : Settings) (f : Fin 19) : FieldValue → Settings
  | .number v => setNumber c f v
  | .cell v => { c with backdrop := v }

/-! ## CONFIG_SET and CONFIG_GET -/

/-- CONFIG_SET (R154). The urgency follows the levels as they stand (R65). -/
def takeConfigSet (h : HostNo) (tag field : Byte) (value : Half) (cell : Option RawCell) (s : State) : State :=
  if s.inRun then reply h .configSet tag .state .empty s
  else
    match fieldOf field with
    | none => reply h .configSet tag .range .empty s
    | some f =>
      match offeredValue f value cell with
      | none => reply h .configSet tag .range .empty s
      | some v =>
        reply h .configSet tag .ok (.config field v (some h))
          (refreshUrgency (s.setConf
            { s.conf with settings := setField s.conf.settings f v, writers := s.conf.writers.set f (some h) }))

/-- CONFIG_GET (R154). -/
def takeConfigGet (h : HostNo) (tag field : Byte) (s : State) : State :=
  match fieldOf field with
  | none => reply h .configGet tag .range .empty s
  | some f => reply h .configGet tag .ok (.config field (fieldValue s.conf.settings f) s.conf.writers[f]) s

/-! ## START (R155) -/

/-- The field number of the first failing check of START: LINE_PERIOD 04h, then PANIC_LEVEL 07h (R155). -/
def startCheck (c : Settings) : Option Byte :=
  if c.linePeriod < c.frameWidth + 64 then some 0x04#8
  else if c.urgentLevel ≤ c.panicLevel then some 0x07#8
  else none

/-- Copies the per-host fields into host `h`'s record (R106). -/
def copyHostFields (h : HostNo) (s : State) : State :=
  s.setHost h { s.host h with reserved := s.conf.settings.reserved[h], budget := s.conf.settings.budget[h] }

/-- Loads the lease of host `h` when it is ACTIVE (R111). -/
def loadIfActive (h : HostNo) (s : State) : State := if s.isActive h then loadLease h s else s

/-- The Scan Engine at START: the first mark four line periods ahead, the emitter by the link (R51, R61). -/
def startScan (s : State) : State :=
  s.setScan { s.scan with
    mark := none, emission := 0, timer := 4 * s.conf.settings.linePeriod,
    emitter := if s.scan.link = .up then .sending else .silent }

/-- START once its checks have passed: RUN, the copies, the leases, the line timer, and the latch that makes the boundary
of frame 0 (R155). -/
def enterRun (s : State) : State :=
  let s := s.setConf { s.conf with part := .run, vote := .idle, window := 0 }
  let s := forEach allHosts loadIfActive (forEach allHosts copyHostFields s)
  startLatchAs 0 (refreshUrgency (startScan s))

/-- START (R155). -/
def takeStart (h : HostNo) (tag : Byte) (s : State) : State :=
  if s.inRun then reply h .start tag .state .empty s
  else
    match startCheck s.conf.settings with
    | some field => reply h .start tag .configInvalid (.configInvalid field) s
    | none => settle (reply h .start tag .ok (.started 0) (enterRun s))

/-! ## RESET_VOTE and the vote window (R156, R158) -/

/-- Opens the vote: the window is loaded and VOTE_OPENED posted to every other ACTIVE host (R156). -/
def openVote (h : HostNo) (s : State) : State :=
  postTo (allHosts.filter fun g => g ≠ h) (.voteOpened s.scan.frame h)
    (s.setConf { s.conf with vote := .opened, window := fullLease s })

/-- RESET_VOTE (R156, R157). -/
def takeResetVote (h : HostNo) (tag : Byte) (s : State) : State :=
  if s.inRun then
    let s := if s.conf.vote = .idle then openVote h s else s
    let s := s.setHost h { s.host h with vote := true }
    judgeVote (reply h .resetVote tag .accepted .empty s)
  else reply h .resetVote tag .state .empty s

/-- The hosts whose vote flag is set. -/
def voters (s : State) : List HostNo := allHosts.filter fun h => (s.host h).vote

/-- Clears host `h`'s vote flag. -/
def clearVote (h : HostNo) (s : State) : State := s.setHost h { s.host h with vote := false }

/-- The vote window's expiry while the vote is OPEN: VOTE_FAILED to the voters, the flags cleared, the vote IDLE (R158). -/
def windowExpiry (s : State) : State :=
  if s.conf.vote = .opened then
    forEach allHosts clearVote (postTo (voters s) (.voteFailed s.scan.frame) (closeVote s))
  else s

end Sys2Proof.Machine
end

