-- ==== Sys2Proof/Machine/Hosts.lean ====
section
/-! DEFINITION. The Host Table: ATTACH, DETACH, STATUS, the lease and the present line (Chapter 7). -/

namespace Sys2Proof.Machine

/-! ## ATTACH, DETACH, STATUS -/

/-- The host record after ATTACH: from ABSENT or LAPSED the host becomes ACTIVE with its vote flag clear (R108). -/
def attachHost (h : HostNo) (s : State) : State :=
  if s.isActive h then s else s.setHost h { s.host h with state := .active, vote := false }

/-- ATTACH clears RESET_SEEN and LAPSED_SEEN (R131). -/
def clearSeen (h : HostNo) (s : State) : State :=
  s.setPort h { s.port h with resetSeen := false, lapsedSeen := false }

/-- What ATTACH is answered with (R108). -/
def attachPayload (s : State) (h : HostNo) : Payload :=
  .attach h (s.host h).state (reservedOf s h) s.conf.settings.leasePeriod s.conf.part

/-- ATTACH, from a host in any state (R108). -/
def takeAttach (h : HostNo) (tag : Byte) (s : State) : State :=
  reply h .attach tag .ok (attachPayload s h) (clearSeen h (loadLease h (attachHost h s)))

/-- DETACH from an ACTIVE host (R116). -/
def takeDetach (h : HostNo) (tag mode : Byte) (s : State) : State :=
  match detachModeOf mode with
  | none => reply h .detach tag .range .empty s
  | some m => detachHost h tag m s

/-- What STATUS reports of the part and of the requesting host (R71, R110). -/
def statusReport (s : State) (h : HostNo) : StatusReport where
  part := s.conf.part
  cause := s.conf.cause
  frame := s.scan.frame
  queueCount := s.scan.queue.length
  urgency := s.arbiter.urgency
  hostState := (s.host h).state
  lease := if s.isActive h && s.inRun then (s.host h).lease / Config.leaseUnit else 0
  slots := (s.port h).slots
  reserved := reservedOf s h
  overflow := (s.host h).overflow
  link := s.scan.link
  vote := s.conf.vote
  window := if s.conf.vote = .opened then s.conf.window / Config.leaseUnit else 0
  ownVote := (s.host h).vote

/-- STATUS, from a host in any state; an ACTIVE host's lease is loaded first (R110). -/
def takeStatus (h : HostNo) (tag : Byte) (s : State) : State :=
  let s := loadIfActive h s
  reply h .status tag .ok (.status (statusReport s h)) s

/-! ## The lease (R112, R113) -/

/-- One quarter of the lease period, in ticks (R112). -/
def quarterLease (s : State) : Nat := fullLease s / 4

/-- The lease comes down to one quarter of the period: LEASE_WARN, once for each loading (R112). -/
def leaseWarn (h : HostNo) (s : State) : State :=
  if s.isActive h && s.inRun && !(s.host h).warned then
    postEvent h (.leaseWarn s.scan.frame)
      (s.setHost h { s.host h with warned := true, lease := min (s.host h).lease (quarterLease s) })
  else s

/-- The lease reaches 0: LAPSED, the LEASE_LAPSE fault, then the departure of kind LAPSE (R113). -/
def leaseExpiry (h : HostNo) (s : State) : State :=
  if s.isActive h && s.inRun then
    let s := leaveActive h .lapsed s
    departSilently h .lapse (reportFault (faultReport .leaseLapse (some h) none none s.scan.frame) s)
  else s

/-! ## The present line (R115, R123, R133) -/

/-- The port at a deassertion of HPRES: the line is down, DROP clear, the response queue cleared and an exchange in
progress void (R123, R133). -/
def dropLine (h : HostNo) (s : State) : State :=
  clearResponses h (s.setPort h { s.port h with present := false, drop := false, exchange := none })

/-- A deassertion of HPRES: an ACTIVE host departs ABRUPT, a LAPSED one becomes ABSENT (R115). -/
def presentDeasserted (h : HostNo) (s : State) : State :=
  if (s.port h).present then
    let s := dropLine h s
    match (s.host h).state with
    | .active => departSilently h .abrupt (leaveActive h .absent s)
    | .lapsed => s.setHost h { s.host h with state := .absent }
    | .absent => s
  else s

/-- An assertion of HPRES: the port serves exchanges again, and no host state changes (R115, R123). -/
def presentAsserted (h : HostNo) (s : State) : State := s.setPort h { s.port h with present := true }

end Sys2Proof.Machine
end

