-- ==== Sys2Proof/Machine/Ports.lean ====
section
/-! DEFINITION. The host ports: the ceiling, the slots, the Host Table's check of every request, and exchanges (Chapter 8,
R107). -/

namespace Sys2Proof.Machine

/-! ## A frame at the port (R124 to R128) -/

/-- A frame dropped at the ceiling: DROP set, DROPPED_REQUEST reported (R128). -/
def dropFrame (h : HostNo) (s : State) : State :=
  reportFault (faultReport .droppedRequest (some h) none none s.scan.frame)
    (s.setPort h { s.port h with drop := true })

/-- A slot is given (R126). -/
def takeSlot (h : HostNo) (s : State) : State := s.setPort h { s.port h with slots := (s.port h).slots + 1 }

/-- A request frame on port `h`: dropped at the ceiling, refused without a slot, or given a slot and taken (R125, R126,
R128, Table 8-2). `refusal` is what the tests of structure and check byte found. -/
def admitFrame (h : HostNo) (kind tag : Byte) (refusal : Option Status) (take : State → State) (s : State) : State :=
  if Config.hostCeiling ≤ outstanding s h then dropFrame h s
  else
    match refusal with
    | some status => placeResponse h ⟨kind, tag, status, .empty⟩ s
    | none =>
      if slotFree s h then take (takeSlot h s)
      else placeResponse h ⟨kind, tag, .noSlot, .empty⟩ s

/-- No request is taken from a port whose present line is down, or while the RESET pin is asserted (R115, R159). -/
def portServes (s : State) (h : HostNo) : Bool := (s.port h).present && !s.resetPin

/-- A request command: a whole and intact frame of kind `k` at port `h`. `ok` is the port's test of its counts (R125). -/
def request (h : HostNo) (k : Kind) (tag : Byte) (ok : Bool) (take : State → State) (s : State) : State :=
  if portServes s h then admitFrame h k.code tag (if ok then none else some .badRequest) take s else s

/-- The Host Table's check of a request other than ATTACH and STATUS; one from an ACTIVE host loads its lease and goes on
(R107, R111). -/
def hostCheck (h : HostNo) (k : Kind) (tag : Byte) (take : State → State) (s : State) : State :=
  match (s.host h).state with
  | .active => take (loadLease h s)
  | .absent => reply h k tag .notAttached .empty s
  | .lapsed => reply h k tag .lapsed .empty s

/-! ## What each request does once it has its slot -/

def attachTaken (h : HostNo) (tag : Byte) : State → State := takeAttach h tag
def detachTaken (h : HostNo) (tag mode : Byte) : State → State := hostCheck h .detach tag (takeDetach h tag mode)
def statusTaken (h : HostNo) (tag : Byte) : State → State := takeStatus h tag
def configSetTaken (h : HostNo) (tag field : Byte) (value : Half) (cell : Option RawCell) : State → State :=
  hostCheck h .configSet tag (takeConfigSet h tag field value cell)
def configGetTaken (h : HostNo) (tag field : Byte) : State → State :=
  hostCheck h .configGet tag (takeConfigGet h tag field)
def startTaken (h : HostNo) (tag : Byte) : State → State := hostCheck h .start tag (takeStart h tag)
def resetVoteTaken (h : HostNo) (tag : Byte) : State → State := hostCheck h .resetVote tag (takeResetVote h tag)
def paneClaimTaken (h : HostNo) (tag : Byte) (rect : Rect) (buffering policy display : Byte) : State → State :=
  hostCheck h .paneClaim tag (takePaneClaim h tag rect buffering policy display)
def paneStageTaken (h : HostNo) (tag pane : Byte) (arg : Half) (rect : Rect) : State → State :=
  hostCheck h .paneStage tag (takePaneStage h tag pane arg rect)
def paneGuestTaken (h : HostNo) (tag pane : Byte) (arg : Half) : State → State :=
  hostCheck h .paneGuest tag (takePaneGuest h tag pane arg)
def paneCommitTaken (h : HostNo) (tag pane : Byte) : State → State :=
  hostCheck h .paneCommit tag (takePaneCommit h tag pane)
def paneReleaseTaken (h : HostNo) (tag pane : Byte) : State → State :=
  hostCheck h .paneRelease tag (takePaneRelease h tag pane)
def paneAdoptTaken (h : HostNo) (tag pane : Byte) : State → State :=
  hostCheck h .paneAdopt tag (takePaneAdopt h tag pane)
def paneQueryTaken (h : HostNo) (tag pane : Byte) : State → State :=
  hostCheck h .paneQuery tag (takePaneQuery h tag pane)
def cellWriteTaken (h : HostNo) (tag pane : Byte) (px py : Nat) (cells : List RawCell) : State → State :=
  hostCheck h .cellWrite tag (takeCellWrite h tag pane px py cells)
def cellFillTaken (h : HostNo) (tag pane : Byte) (rect : Rect) (cell : RawCell) : State → State :=
  hostCheck h .cellFill tag (takeCellFill h tag pane rect cell)
def cellReadTaken (h : HostNo) (tag pane : Byte) (px py : Nat) (count bank : Byte) : State → State :=
  hostCheck h .cellRead tag (takeCellRead h tag pane px py count bank)
def faultReadTaken (h : HostNo) (tag slot : Byte) : State → State :=
  hostCheck h .faultRead tag (takeFaultRead h tag slot)
def faultClearTaken (h : HostNo) (tag slot : Byte) : State → State :=
  hostCheck h .faultClear tag (takeFaultClear h tag slot)
def faultClearOverflowTaken (h : HostNo) (tag : Byte) : State → State :=
  hostCheck h .faultClear tag (takeFaultClearOverflow h tag)
def eventFetchTaken (h : HostNo) (tag : Byte) : State → State := hostCheck h .eventFetch tag (takeEventFetch h tag)
def panelSendTaken (h : HostNo) (tag address synced : Byte) (data : List Byte) : State → State :=
  hostCheck h .panelSend tag (takePanelSend h tag address synced data)

/-- The taking of the request an accepted frame spells; an event of the part is no request (R126). -/
def takeRequest : Instr → State → State
  | .attach h tag => attachTaken h tag
  | .detach h tag mode => detachTaken h tag mode
  | .status h tag => statusTaken h tag
  | .configSet h tag field value cell => configSetTaken h tag field value cell
  | .configGet h tag field => configGetTaken h tag field
  | .start h tag => startTaken h tag
  | .resetVote h tag => resetVoteTaken h tag
  | .paneClaim h tag rect buffering policy display => paneClaimTaken h tag rect buffering policy display
  | .paneStage h tag pane arg rect => paneStageTaken h tag pane arg rect
  | .paneGuest h tag pane arg => paneGuestTaken h tag pane arg
  | .paneCommit h tag pane => paneCommitTaken h tag pane
  | .paneRelease h tag pane => paneReleaseTaken h tag pane
  | .paneAdopt h tag pane => paneAdoptTaken h tag pane
  | .paneQuery h tag pane => paneQueryTaken h tag pane
  | .cellWrite h tag pane px py cells => cellWriteTaken h tag pane px py cells
  | .cellFill h tag pane rect cell => cellFillTaken h tag pane rect cell
  | .cellRead h tag pane px py count bank => cellReadTaken h tag pane px py count bank
  | .faultRead h tag slot => faultReadTaken h tag slot
  | .faultClear h tag slot => faultClearTaken h tag slot
  | .faultClearOverflow h tag => faultClearOverflowTaken h tag
  | .eventFetch h tag => eventFetchTaken h tag
  | .panelSend h tag address synced data => panelSendTaken h tag address synced data
  | .exchangeStart _ | .exchangeEnd _ _ | .hostPresentDeasserted _ | .hostPresentAsserted _ | .powerOn | .resetPin
  | .resetPinRelease | .linkUp | .linkDown | .lineMark | .segmentReadComplete | .writeAccessComplete
  | .readAccessComplete | .leaseWarn _ | .leaseExpiry _ | .windowExpiry | .panelSendEnd | .panelAck | .panelNak
  | .replyTimerExpiry => id

/-! ## Exchanges (R121, R122, R123) -/

/-- The start of an exchange: the head response or an idle one is chosen and its frame fixed (R121). One that starts while
the port serves nothing is ignored (R123, R159). -/
def exchangeStart (h : HostNo) (s : State) : State :=
  let p := s.port h
  if portServes s h && p.exchange.isNone then
    s.setPort h { p with
      exchange := some ⟨!p.responses.isEmpty, !p.responses.isEmpty, p.drop, responseFrame s h p.responses.head?⟩ }
  else s

/-- The byte port `h` shifts out on HDO as the `k`-th of an exchange, counted from 0: the chosen frame's byte, and filler
00h after its check byte (R121). An exchange that is ignored, or void from an event in its course, is none, and all its
bytes, or all that remain, are 00h (R123). -/
def hdoByte (s : State) (h : HostNo) (k : Nat) : Byte :=
  match (s.port h).exchange with
  | some x => x.frame.getD k 0x00#8
  | none => 0x00#8

/-- The first `n` bytes of an exchange on HDO as things stand (R121, R123). -/
def hdoBytes (s : State) (h : HostNo) (n : Nat) : List Byte := (List.range n).map (hdoByte s h)

/-- The removal of a response shifted out whole in `n` bytes, which clears DROP when its header carried it; then no
exchange is in progress (R122, R131). -/
def removeSent (h : HostNo) (x : Exchange) (n : Nat) (s : State) : State :=
  let p := s.port h
  if x.carries && x.queued && x.frame.length ≤ n then
    refreshAttention h (s.setPort h
      { p with responses := p.responses.tail, drop := p.drop && !x.drop, exchange := none })
  else s.setPort h { p with exchange := none }

/-- The port's handling of the bytes an exchange shifted in (R122, R124 to R126, R128). -/
def handleFrame (h : HostNo) (bytes : List Byte) (s : State) : State :=
  match examine h bytes with
  | .idle => s
  | .badRequest kind tag => admitFrame h kind tag (some .badRequest) id s
  | .badCheck kind tag => admitFrame h kind tag (some .badCheck) id s
  | .request i => admitFrame h (bytes.getD 0 0) (bytes.getD 1 0) none (takeRequest i) s

/-- The end of an exchange that shifted `bytes` in: the removal, then the examination (R122). One that was ignored or is
void does nothing (R123). -/
def exchangeEnd (h : HostNo) (bytes : List Byte) (s : State) : State :=
  match (s.port h).exchange with
  | none => s
  | some x => handleFrame h bytes (removeSent h x bytes.length s)

end Sys2Proof.Machine
end

