-- ==== Sys2Proof/Machine/Clock.lean ====
section
/-! DEFINITION. One tick of the 25 ns reference clock, which the model takes when no command waits (notes/assumptions/7.md):
the timers count, the line lane moves by one word, and a timer that runs out acts as its command does. -/

namespace Sys2Proof.Machine

/-! ## Counting -/

/-- The lease of an ACTIVE host counts down in RUN (R111). -/
def countLease (h : HostNo) (s : State) : State :=
  if s.isActive h && s.inRun then s.setHost h { s.host h with lease := (s.host h).lease - 1 } else s

/-- The vote window counts down while the vote is OPEN in RUN (R158). -/
def countWindow (s : State) : State :=
  if s.conf.vote = .opened && s.inRun then s.setConf { s.conf with window := s.conf.window - 1 } else s

/-- The reply timer counts down while it runs (R148). -/
def countReply (s : State) : State := s.setPanel { s.panel with timer := s.panel.timer.map (· - 1) }

/-- The line timer counts down in RUN, and a word leaves the line lane (R51, R161). -/
def countLine (s : State) : State :=
  if s.inRun then s.setScan { s.scan with timer := s.scan.timer - 1, lane := s.scan.lane.tail } else s

/-- Every timer counts one tick. -/
def countTick (s : State) : State := countLine (countReply (countWindow (forEach allHosts countLease s)))

/-! ## Running out -/

/-- Host `h`'s lease after a tick: expiry at 0, the warning at one quarter (R112, R113). -/
def leaseDue (h : HostNo) (s : State) : State :=
  if s.isActive h && s.inRun then
    if (s.host h).lease = 0 then leaseExpiry h s
    else if (s.host h).lease ≤ quarterLease s then leaseWarn h s
    else s
  else s

/-- The vote window after a tick (R158). -/
def windowDue (s : State) : State :=
  if s.conf.vote = .opened && s.inRun && s.conf.window = 0 then windowExpiry s else s

/-- The reply timer after a tick (R148). -/
def replyDue (s : State) : State := if s.panel.timer = some 0 then replyTimerExpiry s else s

/-- The line timer after a tick (R51). -/
def lineDue (s : State) : State := if s.inRun && s.scan.timer = 0 then lineMark s else s

/-- One tick: the timers count, and those that have run out act, in an order the manual leaves open. -/
def tick (s : State) : State := lineDue (forEach allHosts leaseDue (windowDue (replyDue (countTick s))))

end Sys2Proof.Machine
end

