-- ==== Sys2Proof/Machine/Events.lean ====
section
/-! DEFINITION. The meaning of each event row: exchanges, pins, line marks, completions of store accesses, expiries of timers
and panel replies. An event that cannot occur in a state changes nothing there (notes/assumptions/6.md). -/

namespace Sys2Proof.Machine

/-- The completion of a store access, which stops by name when the access names places the store does not have (R2). -/
def completion (f : State → State) (s : State) : Host.Outcome State Fault Refusal :=
  if accessInStore s then .next (f s) else .fault .outsideStore

/-- EXCHANGE_START (R121). -/
def execExchangeStart (h : HostNo) (s : State) : Host.Outcome State Fault Refusal := .next (exchangeStart h s)

/-- EXCHANGE_END (R122). -/
def execExchangeEnd (h : HostNo) (bytes : List Byte) (s : State) : Host.Outcome State Fault Refusal := .next (exchangeEnd h bytes s)

/-- HOST_PRESENT_DEASSERTED (R115). -/
def execHostPresentDeasserted (h : HostNo) (s : State) : Host.Outcome State Fault Refusal := .next (presentDeasserted h s)

/-- HOST_PRESENT_ASSERTED (R115, R123). -/
def execHostPresentAsserted (h : HostNo) (s : State) : Host.Outcome State Fault Refusal := .next (presentAsserted h s)

/-- POWER_ON: a part reset with cause POWER (R159). -/
def execPowerOn (s : State) : Host.Outcome State Fault Refusal := .next (partReset .power s)

/-- RESET_PIN: a part reset with cause PIN; the blocks are held while the pin stays asserted (R159). -/
def execResetPin (s : State) : Host.Outcome State Fault Refusal := .next (partReset .pin (s.setResetPin true))

/-- RESET_PIN_RELEASE: the part serves exchanges, in SETUP (R159). -/
def execResetPinRelease (s : State) : Host.Outcome State Fault Refusal := .next (s.setResetPin false)

/-- LINK_UP (R61). -/
def execLinkUp (s : State) : Host.Outcome State Fault Refusal := .next (linkUp s)

/-- LINK_DOWN (R61, R150). -/
def execLinkDown (s : State) : Host.Outcome State Fault Refusal := .next (linkDown s)

/-- LINE_MARK (R51). -/
def execLineMark (s : State) : Host.Outcome State Fault Refusal := .next (lineMark s)

/-- SEGMENT_READ_COMPLETE (R56). -/
def execSegmentReadComplete (s : State) : Host.Outcome State Fault Refusal := completion segmentReadComplete s

/-- WRITE_ACCESS_COMPLETE (R9). -/
def execWriteAccessComplete (s : State) : Host.Outcome State Fault Refusal := completion writeAccessComplete s

/-- READ_ACCESS_COMPLETE (R10). -/
def execReadAccessComplete (s : State) : Host.Outcome State Fault Refusal := completion readAccessComplete s

/-- LEASE_WARN (R112). -/
def execLeaseWarn (h : HostNo) (s : State) : Host.Outcome State Fault Refusal := .next (leaseWarn h s)

/-- LEASE_EXPIRY (R113). -/
def execLeaseExpiry (h : HostNo) (s : State) : Host.Outcome State Fault Refusal := .next (leaseExpiry h s)

/-- WINDOW_EXPIRY (R158). -/
def execWindowExpiry (s : State) : Host.Outcome State Fault Refusal := .next (windowExpiry s)

/-- PANEL_SEND_END (R148). -/
def execPanelSendEnd (s : State) : Host.Outcome State Fault Refusal := .next (panelSendEnd s)

/-- PANEL_ACK: the reply byte 06h (R148, R161). -/
def execPanelAck (s : State) : Host.Outcome State Fault Refusal := .next (panelByte 0x06#8 s)

/-- PANEL_NAK: the reply byte 15h (R148, R161). -/
def execPanelNak (s : State) : Host.Outcome State Fault Refusal := .next (panelByte 0x15#8 s)

/-- REPLY_TIMER_EXPIRY (R148). -/
def execReplyTimerExpiry (s : State) : Host.Outcome State Fault Refusal := .next (replyTimerExpiry s)

end Sys2Proof.Machine
end

