-- ==== Sys2Proof/Machine/Requests.lean ====
section
/-! DEFINITION. The meaning of each request row: a whole and intact request frame at its host's port, tested for the ceiling,
given a slot and taken (R107, R126, R128). -/

namespace Sys2Proof.Machine

/-- ATTACH (R108). -/
def execAttach (h : HostNo) (tag : Byte) (s : State) : Host.Outcome State Fault Refusal :=
  .next (request h .attach tag true (attachTaken h tag) s)

/-- DETACH (R116). -/
def execDetach (h : HostNo) (tag mode : Byte) (s : State) : Host.Outcome State Fault Refusal :=
  .next (request h .detach tag true (detachTaken h tag mode) s)

/-- STATUS (R110). -/
def execStatus (h : HostNo) (tag : Byte) (s : State) : Host.Outcome State Fault Refusal :=
  .next (request h .status tag true (statusTaken h tag) s)

/-- CONFIG_SET (R154). -/
def execConfigSet (h : HostNo) (tag field : Byte) (value : Half) (cell : Option RawCell) (s : State) :
    Host.Outcome State Fault Refusal :=
  .next (request h .configSet tag true (configSetTaken h tag field value cell) s)

/-- CONFIG_GET (R154). -/
def execConfigGet (h : HostNo) (tag field : Byte) (s : State) : Host.Outcome State Fault Refusal :=
  .next (request h .configGet tag true (configGetTaken h tag field) s)

/-- START (R155). -/
def execStart (h : HostNo) (tag : Byte) (s : State) : Host.Outcome State Fault Refusal :=
  .next (request h .start tag true (startTaken h tag) s)

/-- RESET_VOTE (R156). -/
def execResetVote (h : HostNo) (tag : Byte) (s : State) : Host.Outcome State Fault Refusal :=
  .next (request h .resetVote tag true (resetVoteTaken h tag) s)

/-- PANE_CLAIM (R16). -/
def execPaneClaim (h : HostNo) (tag : Byte) (rect : Rect) (buffering policy display : Byte) (s : State) :
    Host.Outcome State Fault Refusal :=
  .next (request h .paneClaim tag true (paneClaimTaken h tag rect buffering policy display) s)

/-- PANE_STAGE (R17). -/
def execPaneStage (h : HostNo) (tag pane : Byte) (arg : Half) (rect : Rect) (s : State) :
    Host.Outcome State Fault Refusal :=
  .next (request h .paneStage tag true (paneStageTaken h tag pane arg rect) s)

/-- PANE_GUEST (R20). -/
def execPaneGuest (h : HostNo) (tag pane : Byte) (arg : Half) (s : State) : Host.Outcome State Fault Refusal :=
  .next (request h .paneGuest tag true (paneGuestTaken h tag pane arg) s)

/-- PANE_COMMIT (R35). -/
def execPaneCommit (h : HostNo) (tag pane : Byte) (s : State) : Host.Outcome State Fault Refusal :=
  .next (request h .paneCommit tag true (paneCommitTaken h tag pane) s)

/-- PANE_RELEASE (R22). -/
def execPaneRelease (h : HostNo) (tag pane : Byte) (s : State) : Host.Outcome State Fault Refusal :=
  .next (request h .paneRelease tag true (paneReleaseTaken h tag pane) s)

/-- PANE_ADOPT (R30). -/
def execPaneAdopt (h : HostNo) (tag pane : Byte) (s : State) : Host.Outcome State Fault Refusal :=
  .next (request h .paneAdopt tag true (paneAdoptTaken h tag pane) s)

/-- PANE_QUERY (R32). -/
def execPaneQuery (h : HostNo) (tag pane : Byte) (s : State) : Host.Outcome State Fault Refusal :=
  .next (request h .paneQuery tag true (paneQueryTaken h tag pane) s)

/-- CELL_WRITE (R78); the port refuses a cell count outside 1 to 64 (R125). -/
def execCellWrite (h : HostNo) (tag pane : Byte) (px py : Nat) (cells : List RawCell) (s : State) :
    Host.Outcome State Fault Refusal :=
  .next (request h .cellWrite tag (cellCountOk cells.length) (cellWriteTaken h tag pane px py cells) s)

/-- CELL_FILL (R79); the port refuses a width or height of 0 (R125). -/
def execCellFill (h : HostNo) (tag pane : Byte) (rect : Rect) (cell : RawCell) (s : State) :
    Host.Outcome State Fault Refusal :=
  .next (request h .cellFill tag (fillAreaOk rect) (cellFillTaken h tag pane rect cell) s)

/-- CELL_READ (R80); the port refuses a count outside 1 to 64 (R125). -/
def execCellRead (h : HostNo) (tag pane : Byte) (px py : Nat) (count bank : Byte) (s : State) :
    Host.Outcome State Fault Refusal :=
  .next (request h .cellRead tag (cellCountOk count.toNat) (cellReadTaken h tag pane px py count bank) s)

/-- FAULT_READ (R140). -/
def execFaultRead (h : HostNo) (tag slot : Byte) (s : State) : Host.Outcome State Fault Refusal :=
  .next (request h .faultRead tag true (faultReadTaken h tag slot) s)

/-- FAULT_CLEAR (R141). -/
def execFaultClear (h : HostNo) (tag slot : Byte) (s : State) : Host.Outcome State Fault Refusal :=
  .next (request h .faultClear tag true (faultClearTaken h tag slot) s)

/-- FAULT_CLEAR naming OVERFLOW (R142). -/
def execFaultClearOverflow (h : HostNo) (tag : Byte) (s : State) : Host.Outcome State Fault Refusal :=
  .next (request h .faultClear tag true (faultClearOverflowTaken h tag) s)

/-- EVENT_FETCH (R144). -/
def execEventFetch (h : HostNo) (tag : Byte) (s : State) : Host.Outcome State Fault Refusal :=
  .next (request h .eventFetch tag true (eventFetchTaken h tag) s)

/-- PANEL_SEND (R146); the port refuses a data count outside 1 to 8 (R125). -/
def execPanelSend (h : HostNo) (tag address synced : Byte) (data : List Byte) (s : State) :
    Host.Outcome State Fault Refusal :=
  .next (request h .panelSend tag (dataCountOk data.length) (panelSendTaken h tag address synced data) s)

end Sys2Proof.Machine
end

