-- ==== Sys2Proof/Machine/Dispatch.lean ====
section
/-! DEFINITION. exec: the meaning of each command, one arm for each row of spec/opcode_table.json. It takes the state whose
queue holds what is left of the commands, and changes everything but that queue. -/

namespace Sys2Proof.Machine

def exec (i : Instr) (s : State) : Host.Outcome State Fault Refusal :=
  match i with
  | .attach h tag => Sys2Proof.Machine.execAttach h tag s
  | .detach h tag mode => Sys2Proof.Machine.execDetach h tag mode s
  | .status h tag => Sys2Proof.Machine.execStatus h tag s
  | .configSet h tag field value cell => Sys2Proof.Machine.execConfigSet h tag field value cell s
  | .configGet h tag field => Sys2Proof.Machine.execConfigGet h tag field s
  | .start h tag => Sys2Proof.Machine.execStart h tag s
  | .resetVote h tag => Sys2Proof.Machine.execResetVote h tag s
  | .paneClaim h tag rect buffering policy display => Sys2Proof.Machine.execPaneClaim h tag rect buffering policy display s
  | .paneStage h tag pane arg rect => Sys2Proof.Machine.execPaneStage h tag pane arg rect s
  | .paneGuest h tag pane arg => Sys2Proof.Machine.execPaneGuest h tag pane arg s
  | .paneCommit h tag pane => Sys2Proof.Machine.execPaneCommit h tag pane s
  | .paneRelease h tag pane => Sys2Proof.Machine.execPaneRelease h tag pane s
  | .paneAdopt h tag pane => Sys2Proof.Machine.execPaneAdopt h tag pane s
  | .paneQuery h tag pane => Sys2Proof.Machine.execPaneQuery h tag pane s
  | .cellWrite h tag pane px py cells => Sys2Proof.Machine.execCellWrite h tag pane px py cells s
  | .cellFill h tag pane rect cell => Sys2Proof.Machine.execCellFill h tag pane rect cell s
  | .cellRead h tag pane px py count bank => Sys2Proof.Machine.execCellRead h tag pane px py count bank s
  | .faultRead h tag slot => Sys2Proof.Machine.execFaultRead h tag slot s
  | .faultClear h tag slot => Sys2Proof.Machine.execFaultClear h tag slot s
  | .faultClearOverflow h tag => Sys2Proof.Machine.execFaultClearOverflow h tag s
  | .eventFetch h tag => Sys2Proof.Machine.execEventFetch h tag s
  | .panelSend h tag address synced data => Sys2Proof.Machine.execPanelSend h tag address synced data s
  | .exchangeStart h => Sys2Proof.Machine.execExchangeStart h s
  | .exchangeEnd h bytes => Sys2Proof.Machine.execExchangeEnd h bytes s
  | .hostPresentDeasserted h => Sys2Proof.Machine.execHostPresentDeasserted h s
  | .hostPresentAsserted h => Sys2Proof.Machine.execHostPresentAsserted h s
  | .powerOn => Sys2Proof.Machine.execPowerOn s
  | .resetPin => Sys2Proof.Machine.execResetPin s
  | .resetPinRelease => Sys2Proof.Machine.execResetPinRelease s
  | .linkUp => Sys2Proof.Machine.execLinkUp s
  | .linkDown => Sys2Proof.Machine.execLinkDown s
  | .lineMark => Sys2Proof.Machine.execLineMark s
  | .segmentReadComplete => Sys2Proof.Machine.execSegmentReadComplete s
  | .writeAccessComplete => Sys2Proof.Machine.execWriteAccessComplete s
  | .readAccessComplete => Sys2Proof.Machine.execReadAccessComplete s
  | .leaseWarn h => Sys2Proof.Machine.execLeaseWarn h s
  | .leaseExpiry h => Sys2Proof.Machine.execLeaseExpiry h s
  | .windowExpiry => Sys2Proof.Machine.execWindowExpiry s
  | .panelSendEnd => Sys2Proof.Machine.execPanelSendEnd s
  | .panelAck => Sys2Proof.Machine.execPanelAck s
  | .panelNak => Sys2Proof.Machine.execPanelNak s
  | .replyTimerExpiry => Sys2Proof.Machine.execReplyTimerExpiry s

end Sys2Proof.Machine
end

