-- ==== Sys2Proof/Safety.lean ====
section
/-! DEFINITION. The terms the statements are written in: when a command is served, what an answered request leaves, and the
conditions the manual says hold after every event. -/

namespace Sys2Proof.Machine

/-! ## When a request is served -/

/-- A request frame at port `h` finds the line present, the part not held in reset, a place below the ceiling and a slot
(R115, R126, R128, R159). -/
def State.admits (s : State) (h : HostNo) : Prop :=
  (s.port h).present = true ∧ s.resetPin = false ∧ outstanding s h < Config.hostCeiling ∧ slotFree s h = true

/-- A request frame of host `h` is admitted and the host is ACTIVE (R107). -/
def State.speaks (s : State) (h : HostNo) : Prop := s.admits h ∧ s.isActive h = true

/-- A request of the running part: `State.speaks` in RUN (R153). -/
def State.speaksInRun (s : State) (h : HostNo) : Prop := s.speaks h ∧ s.inRun = true

/-! ## What an answered request leaves -/

/-- Host `h`'s lease is full and its warned flag clear (R111). -/
def State.heard (s : State) (h : HostNo) : State :=
  s.setHost h { s.host h with lease := s.conf.settings.leasePeriod * 400000, warned := false }

/-- A response stands at the tail of host `h`'s response queue and HATN is asserted; nothing else differs (R127, R130,
R132). -/
def State.answered (s : State) (h : HostNo) (r : Response) : State :=
  s.setPort h { s.port h with responses := (s.port h).responses ++ [r], attention := true }

/-- One more of host `h`'s slots is in use (R126, R127). -/
def State.slotTaken (s : State) (h : HostNo) : State := s.setPort h { s.port h with slots := (s.port h).slots + 1 }

/-- The response of an answered request of kind `k`. -/
def responseTo (k : Kind) (tag : Byte) (status : Status) (payload : Payload) : Response := ⟨k.code, tag, status, payload⟩

/-! ## The Pane Table (Chapter 2) -/

/-- The fields of a record are present as Table 2-1 gives for its state; a DIRECT pane's front bank is A (R5); a held
request and a pending commit do not stand together (R37, R48); the tear count is 0 to 255. -/
def Pane.fieldsOk (q : Pane) : Prop :=
  q.tears ≤ 255 ∧ (q.held.isSome → q.commit = none) ∧ (∀ m, q.modes = some m → m.buffering = .direct → m.front = .a) ∧
  match q.state with
  | .free => q = .free q.tears
  | .pending =>
      q.owner.isSome ∧ q.former = none ∧ q.guest = none ∧ q.current = none ∧ q.staged.isSome ∧ q.modes.isSome ∧
        ∀ tag, q.held ≠ some (.stage tag none)
  | .live => q.owner.isSome ∧ q.former = none ∧ q.current.isSome ∧ q.modes.isSome
  | .retiring =>
      q.owner.isSome ∧ q.former = none ∧ q.guest = none ∧ q.current.isSome ∧ q.staged = none ∧ q.modes.isSome ∧
        q.commit = none ∧ q.held = none
  | .orphaned =>
      q.owner = none ∧ q.former.isSome ∧ q.guest = none ∧ q.current.isSome ∧ q.staged = none ∧ q.modes.isSome ∧
        q.commit = none ∧ q.held = none

/-- Owners of PENDING and LIVE panes and all guests are ACTIVE, and a guest differs from the owner (R13). -/
def Pane.rightsOk (s : State) (q : Pane) : Prop :=
  (∀ h, q.owner = some h → q.state ≠ .retiring → s.isActive h = true) ∧
  (∀ g, q.guest = some g → s.isActive g = true ∧ q.owner ≠ some g)

/-- The Pane Table as the manual says it stands after every event: Table 2-1, R13, and no pane in SETUP (R12, R15). -/
def State.paneTableOk (s : State) : Prop :=
  (∀ p, (s.pane p).fieldsOk ∧ Pane.rightsOk s (s.pane p)) ∧ (s.inRun = false → ∀ p, (s.pane p).state = .free)

/-- No two panes that are not FREE have rectangles, current or staged, that share a cell (R14). -/
def State.panesApart (s : State) : Prop :=
  ∀ p q, p ≠ q → (s.pane p).state ≠ .free → (s.pane q).state ≠ .free →
    ∀ a ∈ (s.pane p).rects, ∀ b ∈ (s.pane q).rects, ∀ x y, ¬(rectHolds a x y = true ∧ rectHolds b x y = true)

/-- An operation in service names its pane. Unless it waits for its access in progress to be stopped, it is the owner's, of a
PENDING or LIVE pane, or the guest's, of a LIVE one (R33, R86). -/
def State.workOk (s : State) : Prop :=
  ∀ h v, (s.lane h).service = some v →
    let q := s.pane v.pane
    v.op.pane.toNat = v.pane.val ∧ (v.stop.isSome → v.access = .inProgress) ∧
    (v.stop = none →
      (q.owner = some h ∧ (q.state = .pending ∨ q.state = .live)) ∨ (q.guest = some h ∧ q.state = .live))

/-! ## Ports, events, faults -/

/-- HATN of every port is asserted while a response or an event waits, and otherwise deasserted (R132). -/
def State.attentionOk (s : State) : Prop :=
  ∀ h, (s.port h).attention = true ↔ (s.port h).responses ≠ [] ∨ (s.queue h).events ≠ []

/-- Every event queue holds at most 8 events and every lost count is at most 255 (R143). -/
def State.eventQueuesOk (s : State) : Prop := ∀ h, (s.queue h).events.length ≤ 8 ∧ (s.queue h).lost ≤ 255

/-- No two HELD fault records share kind, host and pane; repeat counts are 1 to 255 (R135, Table 9-2). -/
def State.faultLogOk (s : State) : Prop :=
  (∀ i j : Fin 16, ∀ r q, s.faults.slots[i] = some r → s.faults.slots[j] = some q →
    r.kind = q.kind → r.host = q.host → r.pane = q.pane → i = j) ∧
  ∀ i : Fin 16, ∀ r, s.faults.slots[i] = some r → 1 ≤ r.repeats ∧ r.repeats ≤ 255

/-- The requests of host `h` that hold a slot beyond their taking: cell operations, held pane requests, panel transfers
that are not discarded, and delayed DETACH responses (R127). -/
def holdings (s : State) (h : HostNo) : Nat :=
  (s.lane h).queued.length + (s.lane h).service.toList.length
    + ((s.lane h).service.toList.flatMap (·.delayed)).length
    + (allPanes.filter fun p => (s.pane p).owner = some h && (s.pane p).held.isSome).length
    + (s.panel.fifo.filter fun t => t.host = h).length
    + (s.panel.inFlight.toList.filter fun f => f.transfer.host = h && !f.discard).length

/-- Every slot in use belongs to a request that still waits (R127), slots and responses never exceed 24 (R128), and a DETACH
response waits only for an access in progress (R117). -/
def State.slotsOk (s : State) : Prop :=
  ∀ h, (s.port h).slots = holdings s h ∧ (s.port h).slots + (s.port h).responses.length ≤ 24 ∧
    ∀ v, (s.lane h).service = some v → v.delayed ≠ [] → v.access = .inProgress ∧ v.stop.isSome

/-! ## The scan -/

/-- The line queue holds at most 4 lines, fewer while a latch is in flight (R54, R58), and the urgency follows its count and
the levels in force (R65). -/
def State.lineQueueOk (s : State) : Prop :=
  s.scan.queue.length ≤ 4 ∧ (s.scan.latch.isSome → s.scan.queue.length < 4) ∧
  s.arbiter.urgency = urgencyOf s.scan.queue.length s.conf.settings.panicLevel s.conf.settings.urgentLevel

/-- The Parked List holds at most 8 entries, all of the line of the latch in flight, and none without one (R95). -/
def State.parkedOk (s : State) : Prop :=
  s.parked.length ≤ 8 ∧ ∀ e ∈ s.parked, ∃ l, s.scan.latch = some l ∧ l.line = e.line

/-! ## Requests that join a lane or the panel FIFO -/

/-- The cell operation a cell request asks for, each channel byte reduced to its low six bits (R1, R78, R79, R80). -/
def requestedOp : Instr → Option CellOp
  | .cellWrite _ tag pane px py cells =>
      some ⟨tag, pane, .write px py (cells.map fun c => ⟨c.r.setWidth 6, c.g.setWidth 6, c.b.setWidth 6⟩)⟩
  | .cellFill _ tag pane rect c => some ⟨tag, pane, .fill rect ⟨c.r.setWidth 6, c.g.setWidth 6, c.b.setWidth 6⟩⟩
  | .cellRead _ tag pane px py count bank => some ⟨tag, pane, .read px py count.toNat bank⟩
  | _ => none

/-- The Panel Channel `p` once its head transfer has started, where none is in flight, the link is UP and the head is plain,
the part in SETUP or the frame in blanking (R147). -/
def State.panelStarted (s : State) (p : Panel) : Panel :=
  match p.inFlight, p.fifo with
  | none, t :: rest =>
    if s.scan.link = .up ∧ (t.synced = false ∨ s.inRun = false ∨ p.blanking = true) then
      { p with fifo := rest, inFlight := some ⟨t, .sending, 1, false⟩ }
    else p
  | _, _ => p

/-! ## Geometry: every place named lies in the store (R2, R3) -/

/-- The frame in force has a size Table 11-3 allows. -/
def Settings.frameOk (c : Settings) : Prop :=
  64 ≤ c.frameWidth ∧ c.frameWidth ≤ 800 ∧ 32 ≤ c.frameHeight ∧ c.frameHeight ≤ 480

/-- The rectangles of a pane, and the one of a held PANE_STAGE, are valid in a frame (R3). -/
def Pane.inFrame (c : Settings) (q : Pane) : Prop :=
  (∀ r ∈ q.rects, rectValidIn r c.frameWidth c.frameHeight = true) ∧
  ∀ tag r, q.held = some (.stage tag (some r)) → rectValidIn r c.frameWidth c.frameHeight = true

/-- An operation in service is on the pane it names, its next access lies in its frame area, and that area in the frame (R75,
R79). -/
def Service.inFrame (c : Settings) (v : Service) : Prop :=
  v.op.onPane v.pane = true ∧ v.area.x + v.area.w ≤ c.frameWidth ∧ v.area.y + v.area.h ≤ c.frameHeight ∧
  v.area.x ≤ v.col ∧ v.line < v.area.y + v.area.h ∧
  v.col ≤ v.area.x + v.area.w ∧
  ∀ px py cells, v.op.body = .write px py cells →
    v.col = v.area.x ∧ cells.length = v.area.w ∧ v.area.w ≤ 64 ∧ v.area.h ≤ 1

/-- What the machine holds names only places of the store: the frame is one Table 11-3 allows, panes and operations lie in
it, the latch and the cursor are of its lines, and so is the access in progress. In SETUP there are none (R3). -/
def State.geometryOk (s : State) : Prop :=
  s.conf.settings.frameOk ∧
  (s.inRun = false → (∀ p, (s.pane p).state = .free) ∧ (∀ h, (s.lane h).service = none) ∧ s.scan.latch = none ∧
    s.scan.cursorLine = 0) ∧
  (∀ p, (s.pane p).state ≠ .free → (s.pane p).inFrame s.conf.settings) ∧
  (∀ h v, (s.lane h).service = some v → v.inFrame s.conf.settings) ∧
  (∀ h, ∀ op ∈ (s.lane h).queued,
    (∀ px py cells, op.body = .write px py cells → cells.length ≤ 64) ∧
    ∀ r c, op.body = .fill r c → r.w ≠ 0 ∧ r.h ≠ 0) ∧
  s.scan.cursorLine < s.conf.settings.frameHeight ∧
  (∀ l, s.scan.latch = some l →
    l.line < s.conf.settings.frameHeight ∧ l.segment < segmentCount s.conf.settings.frameWidth) ∧
  accessInStore s = true

/-- The places the write access in progress will store to (R9). -/
def writtenPlaces (s : State) : List Nat :=
  match s.arbiter.access with
  | some (.write _ _ bank line first cells _) =>
      if runInStore line first cells.length then (List.range cells.length).map fun i => placeOf bank first line + i else []
  | _ => []

/-! ## The events of a tick -/

/-- The timers of a tick, in the order in which they act when they come due (DESIGN CHOICE, notes/assumptions/7.md). -/
def timers : List (State → State) := [replyDue, windowDue, leaseDue 0, leaseDue 1, leaseDue 2, leaseDue 3, lineDue]

/-- A tick once every timer has counted and the first `n` timers have acted, those that have come due. -/
def State.tickAfter (s : State) (n : Nat) : State := (timers.take n).foldl (fun x due => due x) (countTick s)

/-! ## Budgets (R81) -/

/-- Within a frame a host's granted cells never exceed 64 times its budget, nor would they with the access it offers; in SETUP
no host has granted cells or an operation in service (R81, R90). -/
def State.budgetsOk (s : State) : Prop :=
  ∀ h, ((s.host h).budget ≠ 0 → (s.host h).cells ≤ 64 * (s.host h).budget) ∧
    (∀ v, (s.lane h).service = some v → v.op.writes = true → v.access = .offered → (s.host h).budget ≠ 0 →
      (s.host h).cells + v.accessLen ≤ 64 * (s.host h).budget) ∧
    (s.inRun = false → (s.host h).cells = 0 ∧ (s.lane h).service = none)

/-! ## Frames and service starts -/

/-- A payload whose length and counts Table 12-3 and R125 allow for a request kind. -/
def payloadAllowed (k : Kind) (payload : List Byte) : Prop :=
  let at_ (i : Nat) : Nat := (payload.getD i 0x00#8).toNat
  match k with
  | .configSet => payload.length = 0 ∨ payload.length = 3
  | .paneClaim => payload.length = 11
  | .paneStage => payload.length = 8
  | .cellWrite => 5 ≤ payload.length ∧ 1 ≤ at_ 4 ∧ at_ 4 ≤ 64 ∧ payload.length = 5 + 3 * at_ 4
  | .cellFill => payload.length = 11 ∧ (at_ 4 ≠ 0 ∨ at_ 5 ≠ 0) ∧ (at_ 6 ≠ 0 ∨ at_ 7 ≠ 0)
  | .cellRead => payload.length = 6 ∧ 1 ≤ at_ 4 ∧ at_ 4 ≤ 64
  | .panelSend => 1 ≤ at_ 0 ∧ at_ 0 ≤ 8 ∧ payload.length = 1 + at_ 0
  | .attach | .detach | .status | .configGet | .start | .resetVote | .paneGuest | .paneCommit | .paneRelease | .paneAdopt
  | .paneQuery | .faultRead | .faultClear | .eventFetch => payload.length = 0

/-- Host `h`'s operation at its lane's head is not refused: it waits for a held PANE_STAGE or, a write, for a DOUBLE pane's
pending commit, or it passes the checks of its service start (R33, R73, R74, R75). -/
def State.servable (s : State) (h : HostNo) (op : CellOp) : Prop :=
  ∃ p : PaneNo, op.pane.toNat = p.val ∧
    let q := s.pane p
    ((∃ tag r, q.held = some (.stage tag r)) ∨
      (op.kind ≠ .cellRead ∧ q.modes.any (fun m => m.buffering = .double) = true ∧ q.commit ≠ none) ∨
      ((q.state = .pending ∨ q.state = .live) ∧ (q.owner = some h ∨ (q.guest = some h ∧ q.state = .live)) ∧
        ∃ r, q.staged.or q.current = some r ∧ op.inTarget r = true))

/-! ## What events leave -/

/-- Every block but the store stands at the reset values its chapter states; the input pins HPRES and PRDY are as they were
(R12, R50, R70, R90, R104, R106, R134, R135, R145, R152, R154, R159). -/
def State.resetFrom (cause : Cause) (s t : State) : Prop :=
  t.conf.part = .setup ∧ t.conf.cause = cause ∧ t.conf.vote = .idle ∧ t.conf.window = 0 ∧
  t.conf.settings =
    { frameWidth := 800, frameHeight := 480, blankLines := 12, linePeriod := 1000, backdrop := ⟨0, 0, 0⟩, urgentLevel := 2,
      panicLevel := 1, relatchLimit := 3, leasePeriod := 50, reserved := #v[8, 8, 8, 8], budget := #v[0, 0, 0, 0],
      panelTimeout := 20, panelRetries := 1 } ∧
  (∀ f : Fin 19, t.conf.writers[f] = none) ∧
  (∀ p, t.pane p = .free 0) ∧
  (∀ h, (t.host h).state = .absent ∧ (t.host h).lease = 0 ∧ (t.host h).warned = false ∧ (t.host h).vote = false ∧
    (t.host h).tickets = 0 ∧ (t.host h).cells = 0 ∧ (t.host h).overflow = 0 ∧ (t.host h).budgetHit = false) ∧
  (∀ h, t.port h = ⟨[], 0, false, true, false, none, false, (s.port h).present⟩) ∧
  (∀ h, t.queue h = ⟨[], 0⟩) ∧ (∀ h, t.lane h = ⟨none, []⟩) ∧ t.parked = [] ∧
  (∀ i : Fin 16, t.faults.slots[i] = none) ∧ t.faults.hostless = 0 ∧
  t.panel = ⟨[], none, none, false⟩ ∧
  t.scan = ⟨none, 0, 0, 0, 0, 0, none, [], .silent, s.scan.link, []⟩ ∧
  t.arbiter = ⟨.panic, .write, 3, none⟩

/-- Host `h`'s port after an exchange that shifted `n` bytes: a chosen response shifted out whole is gone, and with it DROP
when its header carried it; no exchange is in progress (R122, R131, R132). -/
def State.collected (s : State) (h : HostNo) (x : Exchange) (n : Nat) : State :=
  if x.carries = true ∧ x.queued = true ∧ x.frame.length ≤ n then
    s.setPort h { s.port h with
      responses := (s.port h).responses.tail,
      drop := (s.port h).drop && !x.drop,
      exchange := none,
      attention := decide ((s.port h).responses.tail ≠ [] ∨ (s.queue h).events ≠ []) }
  else s.setPort h { s.port h with exchange := none }

/-- What the events that follow at once from another (R66, R73) never change: what waits, the store, the configuration, the
Panel Channel, the scan but for the torn flag of the latch in flight, the standing of hosts and ports, and of each pane all
but what is staged, held and pending and its tear count. -/
def State.settledFrom (s t : State) : Prop :=
  t.pending = s.pending ∧ t.choices = s.choices ∧ t.resetPin = s.resetPin ∧ t.store = s.store ∧ t.conf = s.conf ∧
  t.panel = s.panel ∧ t.scan = { s.scan with latch := t.scan.latch } ∧
  (∀ l, s.scan.latch = some l → ∃ torn, t.scan.latch = some { l with torn := torn }) ∧
  (s.scan.latch = none → t.scan.latch = none) ∧ t.arbiter.urgency = s.arbiter.urgency ∧
  t.faults.hostless = s.faults.hostless ∧
  (∀ g, (t.host g).state = (s.host g).state ∧ (t.host g).reserved = (s.host g).reserved ∧
    (t.host g).budget = (s.host g).budget ∧ (t.host g).vote = (s.host g).vote) ∧
  (∀ g, (t.port g).present = (s.port g).present ∧ (t.port g).drop = (s.port g).drop ∧
    (t.port g).resetSeen = (s.port g).resetSeen ∧ (t.port g).lapsedSeen = (s.port g).lapsedSeen ∧
    (t.port g).exchange = (s.port g).exchange) ∧
  ∀ r, (t.pane r).state = (s.pane r).state ∧ (t.pane r).owner = (s.pane r).owner ∧
    (t.pane r).former = (s.pane r).former ∧ (t.pane r).guest = (s.pane r).guest ∧
    (t.pane r).current = (s.pane r).current ∧ (t.pane r).modes = (s.pane r).modes

/-- What a lapse or an abrupt departure of host `h` leaves of it, `after` being the host's state afterwards (R28, R88, R104,
R113, R115, R133, R145, R151): its record, port, queues, lane, Parked List entries and queued transfers, and no guest
rights. Panes of other owners stay. -/
def State.departed (s t : State) (h : HostNo) (after : HostState) : Prop :=
  (t.host h).state = after ∧ (t.host h).lease = 0 ∧ (t.host h).warned = false ∧ (t.host h).vote = false ∧
  (t.host h).tickets = (s.host h).tickets ∧ (t.host h).cells = (s.host h).cells ∧
  (t.port h).slots = 0 ∧ (t.port h).responses = [] ∧ (t.port h).attention = false ∧ t.queue h = ⟨[], 0⟩ ∧
  t.lane h = ⟨none, []⟩ ∧ (∀ e ∈ t.parked, e.host ≠ h) ∧ (∀ x ∈ t.panel.fifo, x.host ≠ h) ∧
  (∀ f, t.panel.inFlight = some f → f.transfer.host = h → s.panel.inFlight.any (fun g => g.transfer.host = h) = true →
    f.discard = true) ∧
  (∀ p, (t.pane p).guest ≠ some h) ∧
  (∀ p, (s.pane p).owner ≠ some h →
    (t.pane p).state = (s.pane p).state ∧ (t.pane p).owner = (s.pane p).owner ∧
    (t.pane p).current = (s.pane p).current ∧ (t.pane p).modes = (s.pane p).modes)

/-- What a departure of host `h` leaves of the panes it owns (R12, R25, R26, R27, Table 7-4): a PENDING one FREE, a RETIRING
one as it was, a LIVE one ORPHANED or, at DETACH(RELEASE), RETIRING, without guest, staged rectangle, pending commit and
held request. Tear counts are kept. -/
def State.panesLeft (s t : State) (h : HostNo) (kind : Departure) : Prop :=
  ∀ p, (s.pane p).owner = some h →
    (s.workOk → (t.pane p).tears = (s.pane p).tears) ∧
    ((s.pane p).state = .pending → t.pane p = .free (t.pane p).tears) ∧
    ((s.pane p).state = .retiring → t.pane p = { s.pane p with tears := (t.pane p).tears }) ∧
    ((s.pane p).state = .live → t.pane p =
      if kind = .detach .release
      then ⟨.retiring, some h, none, none, (s.pane p).current, none, (s.pane p).modes, none, none, (t.pane p).tears⟩
      else ⟨.orphaned, none, some h, none, (s.pane p).current, none, (s.pane p).modes, none, none, (t.pane p).tears⟩)

/-- An ACTIVE host's event queue once some events are posted in turn: each joins the tail, or at 8 is counted as lost
(R143). -/
def EventQueue.posted (q : EventQueue) : List Event → EventQueue
  | [] => q
  | e :: rest =>
    EventQueue.posted (if q.events.length < 8 then { q with events := q.events ++ [e] }
      else { q with lost := min (q.lost + 1) 255 }) rest

/-- What a departure of host `h` does to the other hosts (R21, R26, R27, R86, R87, R89). A guest's work on all the LIVE panes of
`h` ends at the one event: REVOKED, or CANCELLED at DETACH(RELEASE), the queued ones in lane order. An operation with its
access in progress is marked with that status. An ACTIVE host is told GUEST_REVOKED for each pane it guests and, unless the
panes are released, ORPHAN_NOTICE for each pane in ascending pane number; a lapse's FAULT_NOTE stands before.
Model's choices of notes/assumptions/15.md: the operation in service is answered before the queued ones, the GUEST_REVOKED
stand in ascending pane number and all before the ORPHAN_NOTICE, and what follows at once posts its BUDGET_REACHED and
FAULT_NOTE after. Of notes/assumptions/14.md: the mark replaces the one an earlier stop left. -/
def State.guestsTold (s t : State) (h : HostNo) (kind : Departure) : Prop :=
  let release : Bool := kind = .detach .release
  let lives := allPanes.filter fun p => (s.pane p).owner = some h ∧ (s.pane p).state = .live
  let status : Status := if release then .cancelled else .revoked
  let reason : OrphanReason := match kind with | .lapse => .lapse | .abrupt => .abrupt | .detach _ => .detach
  ∀ g, g ≠ h →
    let guested := lives.filter fun p => (s.pane p).guest = some g
    let work (op : CellOp) : Bool := guested.any fun p => op.pane.toNat = p.val
    let ended := ((s.lane g).service.toList.filter fun v => work v.op && v.access ≠ .inProgress).map
        (fun v => responseTo v.op.kind v.op.tag status (.count v.written))
      ++ ((s.lane g).queued.filter work).map fun op => responseTo op.kind op.tag status (.count 0)
    let told := guested.map (fun p => Event.guestRevoked p h (if release then .released else .orphaned))
      ++ if release then [] else lives.map fun p => Event.orphanNotice p h reason
    (∃ more, (t.port g).responses = (s.port g).responses ++ ended ++ more) ∧
    (∀ op ∈ (t.lane g).queued, work op = false) ∧ (s.workOk → ∀ e ∈ t.parked, e.host = g → e.pane ∉ guested) ∧
    (∀ v, (t.lane g).service = some v → work v.op = true → v.access = .inProgress ∧ v.stop = some status) ∧
    (s.isActive g = false → t.queue g = s.queue g) ∧
    (s.isActive g = true → ∃ before after, t.queue g = (s.queue g).posted (before ++ told ++ after) ∧
      before.length ≤ 1 ∧ (∀ e ∈ before, kind = .lapse ∧ ∃ i, e = .faultNote i .leaseLapse) ∧
      ∀ e ∈ after, (∃ p f, e = .budgetReached p f) ∨ ∃ i k, e = .faultNote i k)

/-! ## A departure while a vote is OPEN (R157) -/

/-- A host other than `h` is ACTIVE. -/
def State.othersActive (s : State) (h : HostNo) : Prop := ∃ g, g ≠ h ∧ s.isActive g = true

/-- The departure of host `h` completes an OPEN vote: some other host is ACTIVE, and every other ACTIVE host has voted
(R157). -/
def State.voteCompletes (s : State) (h : HostNo) : Prop :=
  s.conf.vote = .opened ∧ s.othersActive h ∧ ∀ g, g ≠ h → s.isActive g = true → (s.host g).vote = true

/-- What a departure of host `h` that completes no vote leaves of the Configuration Block: an OPEN vote is closed when no
host is ACTIVE any more, and otherwise stands (R157). -/
def State.voteAfter (s t : State) (h : HostNo) : Prop :=
  (s.conf.vote = .idle ∨ s.othersActive h → t.conf = s.conf) ∧
  (s.conf.vote = .opened → ¬s.othersActive h → t.conf = { s.conf with vote := .idle, window := 0 })

/-- A part reset with cause VOTE that keeps the stored cells, but for those of a write access in progress (R11, R157). -/
def State.voteReset (s t : State) : Prop :=
  s.resetFrom .vote t ∧ ∀ a, a ∉ writtenPlaces s → t.store.read a = s.store.read a

/-! ## The end of an operation and the release of the Parked List -/

/-- What the end of host `h`'s operation in service `v`, answered with `r`, does to a request held on its pane `p` (R18, R37,
R84). The owner's held PANE_COMMIT is taken when no earlier operation remains, its ACCEPTED directly after `r`, and
otherwise has one operation less to wait for, where the host's next operation, which may start at the same event, is not
refused and so does not end there too. A held PANE_STAGE is taken when no operation on the pane is in service or
parked any more, its answer directly after `r` when the owner is `h`; an overlap refuses it. That this holds at the end of a
stopped operation too, for a request placed on the pane since, is the model's choice (notes/assumptions/13.md). -/
def State.heldTaken (s t : State) (h : HostNo) (v : Service) (r : Response) : Prop :=
  ∀ p : PaneNo, v.op.pane.toNat = p.val → v.delayed = [] →
    (∀ tag n, (s.pane p).held = some (.commit tag n) → (s.pane p).owner = some h →
      (n ≤ 1 → (t.pane p).held = none ∧ (t.pane p).commit = some (s.host h).tickets ∧
        ∃ more, (t.port h).responses = (s.port h).responses ++
          r :: responseTo .paneCommit tag .accepted (.ticket (s.host h).tickets) :: more) ∧
      (2 ≤ n → (∀ op, (s.lane h).queued.head? = some op → s.servable h op) →
        (t.pane p).held = some (.commit tag (n - 1)) ∧ (t.pane p).commit = (s.pane p).commit ∧
        ∀ op rest, (s.lane h).queued = op :: rest → t.lane h = ⟨none, op :: rest⟩ ∨
          ∃ w, t.lane h = ⟨some w, rest⟩ ∧ w.op = op ∧ w.written = 0 ∧ w.stop = none)) ∧
    ∀ tag rect o, (s.pane p).held = some (.stage tag rect) → (s.pane p).owner = some o →
      (∀ g w, g ≠ h → (s.lane g).service = some w → w.pane ≠ p) → (∀ e ∈ s.parked, e.pane ≠ p) →
      let before := if o = h then (s.port o).responses ++ [r] else (s.port o).responses
      let answered (status : Status) : Prop :=
        ∃ more, (t.port o).responses = before ++ responseTo .paneStage tag status .empty :: more
      (t.pane p).held = none ∧
      ((∃ q, rect = some q ∧ s.overlapsPanes (some p) q = true) →
        (t.pane p).staged = (s.pane p).staged ∧ answered .overlap) ∧
      ((∀ q, rect = some q → s.overlapsPanes (some p) q = false) → (t.pane p).staged = rect ∧ answered .ok)

/-- What the frame boundary made by the latch start of line 0 leaves (R12, R43 to R47, R55, R83). The frame number rises by one
and line 0 is in flight. RETIRING panes are FREE, pending commits have applied and their owners have been told, other panes
stay. Budgets start again, and an access that waited for budget or for a commit waits no longer. -/
def State.boundaryDone (s t : State) : Prop :=
  t.scan.frame = s.scan.frame + 1 ∧
  (∃ l, t.scan.latch = some l ∧ l.frame = s.scan.frame + 1 ∧ l.line = 0 ∧ l.gathered = [] ∧ l.segment = 0 ∧ l.restarts = 0) ∧
  (∀ p, (s.pane p).state = .retiring → t.pane p = .free (t.pane p).tears ∧
    (s.workOk → (t.pane p).tears = (s.pane p).tears)) ∧
  (∀ p tk, ((s.pane p).state = .pending ∨ (s.pane p).state = .live) → (s.pane p).commit = some tk →
    (t.pane p).state = .live ∧ (t.pane p).owner = (s.pane p).owner ∧ (t.pane p).guest = (s.pane p).guest ∧
    (t.pane p).staged = none ∧ (t.pane p).commit = none ∧
    (t.pane p).current = (s.pane p).staged.or (s.pane p).current ∧
    (t.pane p).modes = (s.pane p).modes.map (fun m =>
      if m.buffering = .double then { m with front := if m.front = .a then .b else .a } else m) ∧
    ∀ o, (s.pane p).owner = some o →
      Event.commitDone p tk (s.scan.frame + 1) ∈ (t.queue o).events ∨ (s.queue o).lost < (t.queue o).lost ∨
        255 ≤ (t.queue o).lost) ∧
  (∀ p, (s.pane p).state ≠ .retiring → (s.pane p).commit = none →
    (t.pane p).state = (s.pane p).state ∧ (t.pane p).owner = (s.pane p).owner ∧ (t.pane p).guest = (s.pane p).guest ∧
    (t.pane p).current = (s.pane p).current ∧ (t.pane p).modes = (s.pane p).modes) ∧
  (∀ g, (t.host g).budgetHit = false ∧ ((t.host g).cells = 0 ∨
    ((t.host g).cells ≤ 64 ∧ ∃ bank y x cs re, t.arbiter.access = some (.write true g bank y x cs re)))) ∧
  ∀ g v, (s.lane g).service = some v → v.access = .made →
    (∀ tag n, (s.pane v.pane).held ≠ some (.commit tag n)) →
    ∃ a, a ≠ AccessState.made ∧ (t.lane g).service = some { v with access := a }

/-- What the release of the Parked List leaves of each parked write access of an operation in service on a DIRECT pane, the
next latch being of line `next`, another line, and `boundary` saying whether it makes a frame boundary at the same event
(R81, R82, R97, R98, R102). The entry is gone. The access is OFFERED, or granted at once, when the budget test allows it or
the boundary refills the budget; otherwise it is MADE and BUDGET_REACHED posted once in the frame. -/
def State.releasedInto (s t : State) (boundary : Prop) (next : Nat) : Prop :=
  ∀ e ∈ s.parked, ∀ v, (s.lane e.host).service = some v → v.access = .parked → v.op.kind ≠ .cellRead →
    (∀ m, (s.pane v.pane).modes = some m → m.buffering = .direct) → v.line ≠ next →
    let k := s.host e.host
    let allowed : Prop :=
      boundary ∨ k.budget = 0 ∨ k.cells + min 64 (v.area.x + v.area.w - v.col) ≤ 64 * k.budget
    (∀ x ∈ t.parked, x.host ≠ e.host) ∧
    (allowed → (t.lane e.host).service = some { v with access := .offered } ∨
      ((t.lane e.host).service = some { v with access := .inProgress } ∧
        ∃ bank, t.arbiter.access = some (.write true e.host bank v.line v.col v.accessCells none))) ∧
    (¬allowed → (t.lane e.host).service = some { v with access := .made } ∧ (t.host e.host).budgetHit = true ∧
      (k.budgetHit = false → s.isActive e.host = true → (s.queue e.host).events.length < 7 →
        Event.budgetReached v.pane s.scan.frame ∈ (t.queue e.host).events))

end Sys2Proof.Machine
end

