-- ==== Sys2Proof/Certificates/Slice0/Obligations.lean ====
section
/-! DEFINITION. The statements for the provers. Each docstring names the rules of spec/ a statement formalises. -/

section Obligations
open Sys2Proof Sys2Proof.Machine

/-! ## The queue, the clock and resets -/

/-- Each step takes the command at the front of the queue and gives it to `exec` with the rest of the queue. -/
def Obligations.StepRunsTheOldestCommand : Prop :=
  ∀ (c : Instr) (rest : List Instr) (s : State), s.pending = c :: rest → step s = exec c (s.setPending rest)

/-- Every command answers a next state, but for the completion of an access outside the 800 by 480 cells of a bank: R2 says there
is no such place, and that the model stops there by name is the MODEL'S CHOICE (notes/assumptions/24.md). No command is refused. The queue is left alone, the RESET pin but by its own commands, and in RUN the settings
and their writers until a part reset (R154). -/
def Obligations.EveryCommandCompletes : Prop :=
  ∀ (c : Instr) (s : State),
    (∃ t, exec c s = .next t ∧ t.pending = s.pending ∧
      (c ≠ .resetPin → c ≠ .resetPinRelease → t.resetPin = s.resetPin) ∧
      (s.inRun = true → t.inRun = true → t.conf.settings = s.conf.settings ∧ t.conf.writers = s.conf.writers ∧
        t.conf.cause = s.conf.cause)) ∨
    (exec c s = .fault .outsideStore ∧ accessInStore s = false ∧
      (c = .segmentReadComplete ∨ c = .writeAccessComplete ∨ c = .readAccessComplete))

/-- MODEL'S CHOICE (notes/assumptions/7.md, 28.md): with no command waiting a step is one tick of 25 ns. In RUN the leases
of ACTIVE hosts, the line timer, the lane and an OPEN vote's window move (R111, R51, R60, R158); a running reply timer counts in
either part state (R148). A tick at which nothing comes due changes nothing else. At one where timers come due, each
does what its command does, in this order: reply timer (R148), vote window (R158), the leases by host number, at 0 the expiry
(R113) and down to a quarter the warning (R112), line timer (R51). -/
def Obligations.EmptyQueueTicks : Prop :=
  ∀ (s : State), s.pending = [] →
    let u : State := { s with
      hosts := .ofFn fun h =>
        if s.isActive h = true ∧ s.inRun = true then { s.host h with lease := (s.host h).lease - 1 } else s.host h
      scan := if s.inRun = true then { s.scan with timer := s.scan.timer - 1, lane := s.scan.lane.tail } else s.scan
      panel := { s.panel with timer := s.panel.timer.map (· - 1) }
      conf := { s.conf with window := if s.conf.vote = .opened ∧ s.inRun = true then s.conf.window - 1
        else s.conf.window } }
    let act (c : Instr) (x : State) : State := match exec c x with | .next y => y | _ => x
    let reply (x : State) : State := if x.panel.timer = some 0 then act .replyTimerExpiry x else x
    let window (x : State) : State := if x.conf.window = 0 ∧ x.inRun = true then act .windowExpiry x else x
    let lease (h : HostNo) (x : State) : State :=
      if (x.host h).lease = 0 then act (.leaseExpiry h) x
      else if (x.host h).lease ≤ x.conf.settings.leasePeriod * 100000 then act (.leaseWarn h) x else x
    let line (x : State) : State := if x.scan.timer = 0 then act .lineMark x else x
    step s = .next (line (lease 3 (lease 2 (lease 1 (lease 0 (window (reply u))))))) ∧
    ((s.conf.vote = .opened → s.inRun = true → 2 ≤ s.conf.window) → (∀ n, s.panel.timer = some n → 2 ≤ n) →
      (s.inRun = true → 2 ≤ s.scan.timer ∧ ∀ h, s.isActive h = true →
        2 ≤ (s.host h).lease ∧ ((s.host h).warned = true ∨ s.conf.settings.leasePeriod * 100000 < (s.host h).lease - 1)) →
      step s = .next u)

/-- POWER_ON puts every block at its reset values with cause POWER; every stored cell is again the unknown cell of a new
power-on (R11, R159). -/
def Obligations.PowerOnResets : Prop :=
  ∀ (s : State), ∃ t, exec .powerOn s = .next t ∧ s.resetFrom .power t ∧ t.resetPin = s.resetPin ∧
    t.store = ⟨[], s.store.powerOns + 1⟩

/-- RESET_PIN puts every block at its reset values with cause PIN and holds the part; stored cells keep their values, but for
those of a write access in progress, which is carried out whole (R11, R159). The pin's release changes nothing else. -/
def Obligations.ResetPinResets : Prop :=
  ∀ (s : State),
    (∃ t, exec .resetPin s = .next t ∧ s.resetFrom .pin t ∧ t.resetPin = true ∧
      (∀ a, a ∉ writtenPlaces s → t.store.read a = s.store.read a) ∧
      ∀ live h bank line first cells restart,
        s.arbiter.access = some (.write live h bank line first cells restart) →
        runInStore line first cells.length = true →
        ∀ i c, cells[i]? = some c → t.store.read (placeOf bank first line + i) = c) ∧
    exec .resetPinRelease s = .next { s with resetPin := false }

/-- While a port's present line is down, or the RESET pin is asserted, its requests and the start of an exchange do nothing
(R115, R123, R159; notes/assumptions/10.md). -/
def Obligations.UnservedPortTakesNothing : Prop :=
  ∀ (s : State) (h : HostNo), ((s.port h).present = false ∨ s.resetPin = true) →
    exec (.exchangeStart h) s = .next s ∧
    ∀ i tag, requestSource i = some (h, tag) → exec i s = .next s

/-- The state right after power-on meets every condition the statements below say each step keeps. -/
def Obligations.InvariantsAtReset : Prop :=
  State.reset.store.wf ∧ State.reset.paneTableOk ∧ State.reset.workOk ∧ State.reset.panesApart ∧ State.reset.attentionOk ∧
  State.reset.eventQueuesOk ∧ State.reset.faultLogOk ∧ State.reset.slotsOk ∧ State.reset.lineQueueOk ∧
  State.reset.parkedOk ∧ State.reset.geometryOk ∧ State.reset.budgetsOk ∧
  State.resetFrom .power State.reset State.reset

/-! ## Ports, slots and frames (Chapters 8 and 12) -/

/-- What becomes of a request frame before its block sees it (R125, R126, R128). At 24 requests and responses it is dropped,
DROP is set and DROPPED_REQUEST reported. Below, a count Table 12-3 does not allow is refused with BAD_REQUEST. With the
host's reserved slots in use and the shared part (64 less all reserved slots) in use it is refused with NO_SLOT. With either
free it is admitted. `R` is each host's reserved slots: the host record's in RUN, the field in SETUP (R106, R126). -/
def Obligations.PortAdmission : Prop :=
  ∀ (s : State) (h : HostNo) (R : HostNo → Nat), (s.port h).present = true → s.resetPin = false →
    (∀ g, R g = if s.inRun = true then (s.host g).reserved else s.conf.settings.reserved[g]) →
    let inUse := ((s.port 0).slots - R 0) + ((s.port 1).slots - R 1) + ((s.port 2).slots - R 2) + ((s.port 3).slots - R 3)
    (∀ i tag, requestSource i = some (h, tag) → 24 ≤ (s.port h).slots + (s.port h).responses.length →
      exec i s = .next (reportFault ⟨.droppedRequest, some h, none, none, s.scan.frame, s.scan.frame, 1⟩
        (s.setPort h { s.port h with drop := true }))) ∧
    ((s.port h).slots + (s.port h).responses.length < 24 →
      (∀ tag pane px py cells, (cells.length = 0 ∨ 64 < cells.length) →
        exec (.cellWrite h tag pane px py cells) s = .next (s.answered h (responseTo .cellWrite tag .badRequest .empty))) ∧
      (∀ tag pane rect cell, (rect.w = 0 ∨ rect.h = 0) →
        exec (.cellFill h tag pane rect cell) s = .next (s.answered h (responseTo .cellFill tag .badRequest .empty))) ∧
      (∀ tag pane px py count bank, (count.toNat = 0 ∨ 64 < count.toNat) →
        exec (.cellRead h tag pane px py count bank) s =
          .next (s.answered h (responseTo .cellRead tag .badRequest .empty))) ∧
      (∀ tag address synced data, (data.length = 0 ∨ 8 < data.length) →
        exec (.panelSend h tag address synced data) s =
          .next (s.answered h (responseTo .panelSend tag .badRequest .empty))) ∧
      (R h ≤ (s.port h).slots → 64 - (R 0 + R 1 + R 2 + R 3) ≤ inUse →
        ∀ i tag k, requestSource i = some (h, tag) → (requestFields i).map (·.1) = some k → i.wellFormed = true →
          exec i s = .next (s.answered h (responseTo k tag .noSlot .empty))) ∧
      ((s.port h).slots < R h ∨ inUse < 64 - (R 0 + R 1 + R 2 + R 3) → s.admits h))

/-- A request other than ATTACH and STATUS from a host that is not ACTIVE is refused, with NOT_ATTACHED when it is ABSENT and
LAPSED when it is LAPSED, and changes nothing else (R107). -/
def Obligations.RequestsNeedAnActiveHost : Prop :=
  ∀ (s : State) (h : HostNo) (i : Instr) (tag : Byte) (k : Kind),
    s.admits h → requestSource i = some (h, tag) → (requestFields i).map (·.1) = some k → i.wellFormed = true →
    k ≠ .attach → k ≠ .status →
    ((s.host h).state = .absent → exec i s = .next (s.answered h (responseTo k tag .notAttached .empty))) ∧
    ((s.host h).state = .lapsed → exec i s = .next (s.answered h (responseTo k tag .lapsed .empty)))

/-- The start of an exchange fixes the response frame: the head response or an idle one, the port flags, the events waiting
and the credits as they stand, and the check byte (R121, R129, R131, R160, Table 12-4). Nothing else changes. -/
def Obligations.ExchangeStartFixesTheFrame : Prop :=
  ∀ (s : State) (h : HostNo) (R : HostNo → Nat), (s.port h).present = true → s.resetPin = false →
    (s.port h).exchange = none →
    (∀ g, R g = if s.inRun = true then (s.host g).reserved else s.conf.settings.reserved[g]) →
    let p := s.port h
    let inUse := ((s.port 0).slots - R 0) + ((s.port 1).slots - R 1) + ((s.port 2).slots - R 2) + ((s.port 3).slots - R 3)
    let credits := min (24 - (p.slots + p.responses.length))
      ((R h - p.slots) + (64 - (R 0 + R 1 + R 2 + R 3) - inUse))
    let tail := [BitVec.ofNat 8 (p.drop.toNat + 2 * p.resetSeen.toNat + 4 * p.lapsedSeen.toNat),
      byteOf (s.queue h).events.length, byteOf credits]
    let covered := match p.responses with
      | [] => [0x00#8, 0x00#8, 0x00#8, 0x00#8, 0x00#8] ++ tail
      | r :: _ =>
        natBytes (payloadBytes r.payload).length ++ [r.kind, r.tag, r.status.code] ++ tail ++ payloadBytes r.payload
    exec (.exchangeStart h) s = .next (s.setPort h
      { p with exchange := some ⟨p.responses ≠ [], p.responses ≠ [], p.drop, covered ++ [crc8 covered]⟩ })

/-- The end of an exchange removes the response that was shifted out whole, and DROP with it when its header carried it
(R122, R131). An idle frame then asks nothing; a frame the tests of R124 and R125 refuse is answered with the status they
give and its kind and tag as received, below the ceiling. The end of an exchange that is void does nothing (R123). -/
def Obligations.ExchangeEndRemovesTheResponse : Prop :=
  ∀ (s : State) (h : HostNo) (bytes : List Byte),
    ((s.port h).exchange = none → exec (.exchangeEnd h bytes) s = .next s) ∧
    ∀ x, (s.port h).exchange = some x →
      (bytes.headD 0x00#8 = 0x00#8 → exec (.exchangeEnd h bytes) s = .next (s.collected h x bytes.length)) ∧
      ∀ kind tag status,
        ((examine h bytes = .badRequest kind tag ∧ status = .badRequest) ∨
          (examine h bytes = .badCheck kind tag ∧ status = .badCheck)) →
        (outstanding (s.collected h x bytes.length) h < 24 →
          exec (.exchangeEnd h bytes) s =
            .next ((s.collected h x bytes.length).answered h ⟨kind, tag, status, .empty⟩)) ∧
        (24 ≤ outstanding (s.collected h x bytes.length) h →
          exec (.exchangeEnd h bytes) s =
            .next (reportFault ⟨.droppedRequest, some h, none, none, s.scan.frame, s.scan.frame, 1⟩
              ((s.collected h x bytes.length).setPort h
                { (s.collected h x bytes.length).port h with drop := true })))

/-- An exchange that shifts in the whole frame of a well-formed request of its port, with any bytes after it, removes the
response it collected and then does what the request does (R122, R124, R126). -/
def Obligations.ExchangeEndTakesTheRequest : Prop :=
  ∀ (s : State) (h : HostNo) (i : Instr) (tag : Byte) (frame filler : List Byte) (x : Exchange),
    (s.port h).exchange = some x → (s.port h).present = true → s.resetPin = false →
    requestSource i = some (h, tag) → i.wellFormed = true → encode i = some frame →
    exec (.exchangeEnd h (frame ++ filler)) s = exec i (s.collected h x (frame ++ filler).length)

/-- Reading a frame and writing it agree: every well-formed request has a frame of 7 to 204 bytes, and the port reads that
frame, whatever follows it, as that request with every operand as it was (Tables 12-1 to 12-3, R124, R125, R160). -/
def Obligations.FrameRoundTrip : Prop :=
  ∀ (h : HostNo) (tag : Byte) (i : Instr), requestSource i = some (h, tag) → i.wellFormed = true →
    ∃ frame, encode i = some frame ∧ 7 ≤ frame.length ∧ frame.length ≤ 204 ∧
      ∀ filler, examine h (frame ++ filler) = .request i

/-- The port's tests of a frame, in their order (R124, R125): a first byte 00h is an idle frame; fewer than seven bytes, a
payload length above 197 or an end before the check byte is BAD_REQUEST; a wrong check byte is BAD_CHECK; a kind code outside
Table 12-2 is BAD_REQUEST, and so is a payload whose length or counts Table 12-3 does not allow for the kind. A frame that passes
spells a well-formed request of its kind and tag on this port. -/
def Obligations.FrameTests : Prop :=
  ∀ (h : HostNo),
    (∀ bytes, bytes.headD 0x00#8 = 0x00#8 → examine h bytes = .idle) ∧
    (∀ kind rest, kind ≠ 0x00#8 → (kind :: rest).length < 7 →
      examine h (kind :: rest) = .badRequest kind (rest.headD 0x00#8)) ∧
    (∀ kind tag len sel a1 a0 body, kind ≠ 0x00#8 →
      let bytes := kind :: tag :: len :: sel :: a1 :: a0 :: body
      (197 < len.toNat ∨ body.length < len.toNat + 1 → examine h bytes = .badRequest kind tag) ∧
      (len.toNat ≤ 197 → len.toNat + 1 ≤ body.length →
        (body[len.toNat]? ≠ some (crc8 (bytes.take (6 + len.toNat))) → examine h bytes = .badCheck kind tag) ∧
        (body[len.toNat]? = some (crc8 (bytes.take (6 + len.toNat))) → (∀ k : Kind, k.code ≠ kind) →
          examine h bytes = .badRequest kind tag) ∧
        (body[len.toNat]? = some (crc8 (bytes.take (6 + len.toNat))) → ∀ k : Kind, k.code = kind →
          (¬payloadAllowed k (body.take len.toNat) → examine h bytes = .badRequest kind tag) ∧
          (payloadAllowed k (body.take len.toNat) → ∃ i, examine h bytes = .request i ∧
            requestSource i = some (h, tag) ∧ (requestFields i).map (·.1) = some k)))) ∧
    ∀ bytes i, examine h bytes = .request i → i.wellFormed = true ∧ ∃ tag, requestSource i = some (h, tag)

/-! ## Hosts and leases (Chapter 7) -/

/-- HATN's partner HPRES: its assertion changes nothing but the line (R115). Its deassertion clears the response queue, DROP
and the exchange, and takes a LAPSED host to ABSENT; an ABSENT host's record keeps its values (R115, R123, R133). The port's
slots, flags RESET_SEEN and LAPSED_SEEN and every other part of the state stay. MODEL'S CHOICE: a deassertion of a line that is
down already does nothing (notes/assumptions/6.md). -/
def Obligations.PresentLineOfAHostThatIsNotActive : Prop :=
  ∀ (s : State) (h : HostNo),
    exec (.hostPresentAsserted h) s = .next (s.setPort h { s.port h with present := true }) ∧
    ((s.port h).present = false → exec (.hostPresentDeasserted h) s = .next s) ∧
    ((s.port h).present = true → (s.host h).state ≠ .active →
      exec (.hostPresentDeasserted h) s = .next
        ((s.setPort h
          { s.port h with
            present := false, drop := false, exchange := none, responses := [],
            attention := (s.queue h).events ≠ [] }).setHost h { s.host h with state := .absent }))

/-- A lapse and an abrupt departure of an ACTIVE host (R113, R115, R118, R133, R157). The host becomes LAPSED or ABSENT, its port,
event queue, lane, parked accesses and transfers are cleared, and it guests no pane. Its PENDING panes become FREE, its LIVE
panes ORPHANED, and RETIRING ones stay, tear counts kept (R12, R25, R26, R27). A guest's work on the orphaned panes ends
REVOKED, the queued operations in lane order (R87); the guest is told GUEST_REVOKED and every other ACTIVE host ORPHAN_NOTICE
(R26, R89), the lapse's FAULT_NOTE before them (R113). MODEL'S CHOICES: the operation in service is answered first, and the
GUEST_REVOKED stand in ascending pane number, all before the ORPHAN_NOTICEs (notes/assumptions/15.md); an operation that already
waits to stop takes the new status (DEDUCED, notes/assumptions/14.md); LEASE_EXPIRY acts whatever the lease holds
(notes/assumptions/21.md). A lapse sets LAPSED_SEEN and puts a LEASE_LAPSE record in the lowest FREE fault slot when none is HELD.
An OPEN vote stands, is closed when no host is ACTIVE any more, or is completed when every other ACTIVE host has voted: the part is
reset with cause VOTE, the stored cells kept. -/
def Obligations.SilentDeparture : Prop :=
  ∀ (s : State) (h : HostNo), s.paneTableOk → s.isActive h = true →
    (¬s.voteCompletes h →
      ((s.port h).present = true → ∃ t, exec (.hostPresentDeasserted h) s = .next t ∧ s.departed t h .absent ∧
        s.panesLeft t h .abrupt ∧ s.guestsTold t h .abrupt ∧ s.voteAfter t h ∧
        t.port h = { s.port h with
          present := false, drop := false, exchange := none, responses := [], slots := 0, attention := false }) ∧
      (s.inRun = true → ∃ t, exec (.leaseExpiry h) s = .next t ∧ s.departed t h .lapsed ∧
        s.panesLeft t h .lapse ∧ s.guestsTold t h .lapse ∧ s.voteAfter t h ∧
        t.port h = { s.port h with
          exchange := (s.port h).exchange.map fun x => { x with queued := false }, responses := [], slots := 0,
          lapsedSeen := true, attention := false } ∧
        ∀ i : Fin 16, (∀ j : Fin 16, ∀ r, s.faults.slots[j] = some r →
            ¬(r.kind = .leaseLapse ∧ r.host = some h ∧ r.pane = none)) →
          s.faults.slots[i] = none → (∀ j : Fin 16, j < i → s.faults.slots[j] ≠ none) →
          t.faults.slots[i] = some ⟨.leaseLapse, some h, none, none, s.scan.frame, s.scan.frame, 1⟩)) ∧
    (s.voteCompletes h →
      ((s.port h).present = true → ∃ t, exec (.hostPresentDeasserted h) s = .next t ∧
        (s.setPort h { s.port h with present := false }).voteReset t) ∧
      (s.inRun = true → ∃ t, exec (.leaseExpiry h) s = .next t ∧ s.voteReset t))

/-- ATTACH from a host in any state (R108, R111, R131): it is ACTIVE with a full lease, a host that was not ACTIVE with its
vote flag clear; RESET_SEEN and LAPSED_SEEN are cleared; OK carries the host number, its state before, its reserved slots,
LEASE_PERIOD and the part state. -/
def Obligations.AttachAnswers : Prop :=
  ∀ (s : State) (h : HostNo) (tag : Byte), s.admits h →
    exec (.attach h tag) s = .next
      (((((s.setHost h { s.host h with
            state := .active, vote := if s.isActive h = true then (s.host h).vote else false }).heard h).setPort h
          { s.port h with resetSeen := false, lapsedSeen := false }).answered h
        (responseTo .attach tag .ok
          (.attach h (s.host h).state (if s.inRun = true then (s.host h).reserved else s.conf.settings.reserved[h])
            s.conf.settings.leasePeriod s.conf.part))))

/-- STATUS from a host in any state (R110, R71): OK with the part's and the host's state as they stand, the request's own
slot among those in use; an ACTIVE host's lease is loaded first and nothing else changes. The payload is 19 bytes that begin
with the part code 84h and the revision 1. -/
def Obligations.StatusReports : Prop :=
  (∀ (s : State) (h : HostNo) (tag : Byte), s.admits h →
    exec (.status h tag) s = .next
      ((if s.isActive h = true then s.heard h else s).answered h (responseTo .status tag .ok (.status
        { part := s.conf.part, cause := s.conf.cause, frame := s.scan.frame, queueCount := s.scan.queue.length,
          urgency := s.arbiter.urgency, hostState := (s.host h).state,
          lease := if s.isActive h = true ∧ s.inRun = true then s.conf.settings.leasePeriod else 0,
          slots := (s.port h).slots + 1,
          reserved := if s.inRun = true then (s.host h).reserved else s.conf.settings.reserved[h],
          overflow := (s.host h).overflow, link := s.scan.link, vote := s.conf.vote,
          window := if s.conf.vote = .opened then s.conf.window / 400000 else 0, ownVote := (s.host h).vote })))) ∧
  ∀ r, (payloadBytes (.status r)).length = 19 ∧ (payloadBytes (.status r)).take 2 = [0x84#8, 0x01#8]

/-- DETACH from an ACTIVE host (R116, R117, R26, R27, R145, R157). RANGE refuses a mode above 1. In mode 0 the host's LIVE panes
become RETIRING, in mode 1 ORPHANED; its PENDING panes become FREE and RETIRING ones stay, tear counts kept; it guests no pane,
and its lane, parked accesses and transfers are gone; its event queue stays. A guest's work on its LIVE panes ends CANCELLED or
REVOKED, the queued operations in lane order (R87), the guest is told GUEST_REVOKED, and in mode 1 every other ACTIVE host
ORPHAN_NOTICE (R26, R27, R89). MODEL'S CHOICES: a guest's operation in service is answered first, the GUEST_REVOKED stand in
ascending pane number, all before the ORPHAN_NOTICEs, and the answers of requests held on several panes in ascending pane
number (notes/assumptions/15.md); an operation that already waits to stop takes the new status (DEDUCED,
notes/assumptions/14.md). Its held requests, cell operations and transfers are answered CANCELLED, in each block's own order; then the response
to DETACH with its three counts, which waits only for an access in progress. An OPEN vote stands, is closed when no host
is ACTIVE any more, or is completed when every other ACTIVE host has voted: the part is reset with cause VOTE. -/
def Obligations.DetachDeparts : Prop :=
  ∀ (s : State) (h : HostNo) (tag : Byte), s.speaks h →
    (∀ mode, 2 ≤ mode.toNat →
      exec (.detach h tag mode) s = .next ((s.heard h).answered h (responseTo .detach tag .range .empty))) ∧
    ∀ m : DetachMode, s.paneTableOk →
      (s.voteCompletes h → ∃ t, exec (.detach h tag m.code) s = .next t ∧ s.voteReset t) ∧
      (¬s.voteCompletes h →
      let pendings := (allPanes.filter fun p => (s.pane p).owner = some h ∧ (s.pane p).state = .pending).length
      let lives := (allPanes.filter fun p => (s.pane p).owner = some h ∧ (s.pane p).state = .live).length
      let own := responseTo .detach tag .ok
        (.detach m (if m = .release then lives else 0) (if m = .orphan then lives else 0) pendings)
      let held := allPanes.flatMap fun p =>
        if (s.pane p).owner = some h then
          match (s.pane p).held with
          | some (.stage t _) => [responseTo .paneStage t .cancelled .empty]
          | some (.commit t _) => [responseTo .paneCommit t .cancelled .empty]
          | none => []
        else []
      let ops := ((s.lane h).service.toList.filter fun v => v.access ≠ .inProgress).map
          (fun v => responseTo v.op.kind v.op.tag .cancelled (.count v.written))
        ++ (s.lane h).queued.map fun op => responseTo op.kind op.tag .cancelled (.count 0)
      let transfers := (s.panel.fifo.filter fun t => t.host = h).map fun t => responseTo .panelSend t.tag .cancelled .empty
      ∃ t, exec (.detach h tag m.code) s = .next t ∧ s.voteAfter t h ∧
        (t.host h).state = .absent ∧ (t.host h).lease = 0 ∧ (t.host h).vote = false ∧ (t.lane h).queued = [] ∧
        (∀ e ∈ t.parked, e.host ≠ h) ∧ (∀ x ∈ t.panel.fifo, x.host ≠ h) ∧ (∀ p, (t.pane p).guest ≠ some h) ∧
        t.queue h = s.queue h ∧ s.panesLeft t h (.detach m) ∧ s.guestsTold t h (.detach m) ∧
        ∃ answers, held.Sublist answers ∧ ops.Sublist answers ∧ transfers.Sublist answers ∧
          answers.length = held.length + ops.length + transfers.length ∧
          ((∀ v, (s.lane h).service = some v → v.access ≠ .inProgress) →
            (t.port h).responses = (s.port h).responses ++ answers ++ [own] ∧ t.lane h = ⟨none, []⟩) ∧
          ∀ v, (s.lane h).service = some v → v.access = .inProgress →
            (t.port h).responses = (s.port h).responses ++ answers ∧
            (t.lane h).service = some { v with stop := some .cancelled, delayed := v.delayed ++ [own] })

/-- When an ACTIVE host's lease in RUN comes down to one quarter of the period, LEASE_PERIOD × 100,000 ticks, and its warned
flag is clear, the flag is set and one LEASE_WARN with the frame number is posted; a full event queue counts it as lost
(R112, R143). MODEL'S CHOICES: a LEASE_WARN that comes above one quarter brings the lease down to it (notes/assumptions/21.md),
and with the flag set it does nothing (notes/assumptions/6.md). -/
def Obligations.LeaseWarnsOnce : Prop :=
  ∀ (s : State) (h : HostNo), s.isActive h = true → s.inRun = true →
    let warned := s.setHost h
      { s.host h with warned := true, lease := min (s.host h).lease (s.conf.settings.leasePeriod * 100000) }
    ((s.host h).warned = false → (s.queue h).events.length < 8 →
      exec (.leaseWarn h) s = .next
        ((warned.setQueue h { s.queue h with events := (s.queue h).events ++ [.leaseWarn s.scan.frame] }).setPort h
          { s.port h with attention := true })) ∧
    ((s.host h).warned = false → 8 ≤ (s.queue h).events.length →
      exec (.leaseWarn h) s = .next (warned.setQueue h { s.queue h with lost := min ((s.queue h).lost + 1) 255 })) ∧
    ((s.host h).warned = true → exec (.leaseWarn h) s = .next s)

/-! ## Configuration, START and the reset vote (Chapter 11) -/

/-- CONFIG_SET in SETUP writes the field it names when the value is one Table 11-3 allows, with the requester as the field's
writer, and OK carries field, value and writer; the urgency follows the levels as they stand (R154, R65). A number outside
01h to 13h, a value outside the range, a FRAME_WIDTH that is no multiple of 16, and a payload of the wrong kind are refused
with RANGE. CONFIG_GET in either part state answers the value and the last writer and changes nothing but the lease. -/
def Obligations.ConfigurationFields : Prop :=
  ∀ (s : State) (h : HostNo) (tag : Byte), s.speaks h →
    let ranges : List (Nat × Nat × Nat) :=
      [(1, 64, 800), (2, 32, 480), (3, 4, 60), (4, 480, 4095), (6, 1, 4), (7, 0, 3), (8, 1, 7), (9, 1, 255), (10, 0, 16),
        (11, 0, 16), (12, 0, 16), (13, 0, 16), (14, 0, 6000), (15, 0, 6000), (16, 0, 6000), (17, 0, 6000), (18, 1, 255),
        (19, 0, 3)]
    let outcome (field : Byte) (value : Half) (cell : Option RawCell) (f : Fin 19) (v : FieldValue) : Prop :=
      ∃ c : Settings, fieldValue c f = v ∧ (∀ g, g ≠ f → fieldValue c g = fieldValue s.conf.settings g) ∧
        exec (.configSet h tag field value cell) s = .next
          ((((s.heard h).setConf { s.conf with settings := c, writers := s.conf.writers.set f (some h) }).setArbiter
            { s.arbiter with urgency := urgencyOf s.scan.queue.length c.panicLevel c.urgentLevel }).answered h
            (responseTo .configSet tag .ok (.config field v (some h))))
    let refused (field : Byte) (value : Half) (cell : Option RawCell) : Prop :=
      exec (.configSet h tag field value cell) s = .next ((s.heard h).answered h (responseTo .configSet tag .range .empty))
    (s.inRun = false →
      (∀ f : Fin 19, ∀ n lo hi, (n, lo, hi) ∈ ranges → f.val + 1 = n → ∀ value : Half,
        (lo ≤ value.toNat → value.toNat ≤ hi → (n = 1 → value.toNat % 16 = 0) →
          outcome (byteOf n) value none f (.number value.toNat)) ∧
        ((value.toNat < lo ∨ hi < value.toNat ∨ (n = 1 ∧ value.toNat % 16 ≠ 0)) → refused (byteOf n) value none) ∧
        ∀ cell, refused (byteOf n) value (some cell)) ∧
      (∀ value, ∀ c : RawCell,
        outcome 0x05#8 value (some c) 4 (.cell ⟨c.r.setWidth 6, c.g.setWidth 6, c.b.setWidth 6⟩) ∧
        refused 0x05#8 value none) ∧
      (∀ field value cell, (field.toNat = 0 ∨ 19 < field.toNat) → refused field value cell)) ∧
    (∀ f : Fin 19, exec (.configGet h tag (byteOf (f.val + 1))) s = .next ((s.heard h).answered h
      (responseTo .configGet tag .ok
        (.config (byteOf (f.val + 1)) (fieldValue s.conf.settings f) s.conf.writers[f])))) ∧
    ∀ field, (field.toNat = 0 ∨ 19 < field.toNat) →
      exec (.configGet h tag field) s = .next ((s.heard h).answered h (responseTo .configGet tag .range .empty))

/-- START in SETUP (R155): LINE_PERIOD below FRAME_WIDTH + 64 is refused naming field 04h, then PANIC_LEVEL not below
URGENT_LEVEL naming 07h. Otherwise the part is in RUN: the vote IDLE, the per-host fields copied, the leases of ACTIVE hosts
full, the first mark four line periods ahead (R51), the emitter sending when the link is UP (R61), and frame 0's line 0
latched, its first segment, all BACKDROP, granted at once (R54, R55, R66). -/
def Obligations.StartEntersRun : Prop :=
  ∀ (s : State) (h : HostNo) (tag : Byte), s.speaks h → s.inRun = false →
    (s.conf.settings.linePeriod < s.conf.settings.frameWidth + 64 →
      exec (.start h tag) s = .next
        ((s.heard h).answered h (responseTo .start tag .configInvalid (.configInvalid 0x04#8)))) ∧
    (s.conf.settings.frameWidth + 64 ≤ s.conf.settings.linePeriod →
      s.conf.settings.urgentLevel ≤ s.conf.settings.panicLevel →
      exec (.start h tag) s = .next
        ((s.heard h).answered h (responseTo .start tag .configInvalid (.configInvalid 0x07#8)))) ∧
    (s.conf.settings.frameWidth + 64 ≤ s.conf.settings.linePeriod →
      s.conf.settings.panicLevel < s.conf.settings.urgentLevel →
      (∀ p, (s.pane p).state = .free) → (∀ g, s.lane g = ⟨none, []⟩) → s.scan.latch = none → s.scan.queue = [] →
      s.scan.cursorLine = 0 → s.arbiter.access = none →
      ∃ t, exec (.start h tag) s = .next t ∧ t.conf = { s.conf with part := .run, vote := .idle, window := 0 } ∧
        (∀ g, t.host g = { s.host g with
          reserved := s.conf.settings.reserved[g], budget := s.conf.settings.budget[g], cells := 0, budgetHit := false,
          lease := if s.isActive g = true then s.conf.settings.leasePeriod * 400000 else (s.host g).lease,
          warned := if s.isActive g = true then false else (s.host g).warned }) ∧
        t.scan = { s.scan with
          mark := none, emission := 0, timer := 4 * s.conf.settings.linePeriod,
          emitter := if s.scan.link = .up then .sending else .silent, frame := 0, cursorFrame := 0,
          latch := some ⟨0, 0, 0, [], false, 0⟩ } ∧
        t.arbiter = { s.arbiter with
          urgency := urgencyOf 0 s.conf.settings.panicLevel s.conf.settings.urgentLevel, lastGrant := .latch,
          access := some (.segment true 0 0
            (List.replicate (min 32 s.conf.settings.frameWidth) s.conf.settings.backdrop)) } ∧
        t.port h = ((s.answered h (responseTo .start tag .ok (.started 0))).port h) ∧ t.panes = s.panes ∧
        t.lanes = s.lanes ∧ t.store = s.store ∧ t.panel = s.panel ∧ t.faults = s.faults ∧ t.events = s.events ∧
        ∀ g, g ≠ h → t.port g = s.port g)

/-- RESET_VOTE in RUN (R156, R157): the voter's flag is set and ACCEPTED placed. At an IDLE vote it opens the vote, loads the
window with LEASE_PERIOD × 400,000 ticks and posts VOTE_OPENED to every other ACTIVE host. When every other ACTIVE host has
voted, the part is reset with cause VOTE, the stored cells kept (R11). -/
def Obligations.ResetVoteOpensJoinsAndResets : Prop :=
  ∀ (s : State) (h : HostNo) (tag : Byte), s.speaksInRun h →
    let voted := ((s.heard h).setHost h { (s.heard h).host h with vote := true }).answered h
      (responseTo .resetVote tag .accepted .empty)
    ((∃ g, g ≠ h ∧ s.isActive g = true ∧ (s.host g).vote = false) →
      (s.conf.vote = .opened → exec (.resetVote h tag) s = .next voted) ∧
      (s.conf.vote = .idle → ∃ t, exec (.resetVote h tag) s = .next t ∧
        t.conf = { s.conf with vote := .opened, window := s.conf.settings.leasePeriod * 400000 } ∧
        t.hosts = voted.hosts ∧ t.port h = voted.port h ∧ t.queue h = s.queue h ∧
        (∀ g, g ≠ h → t.queue g =
          if s.isActive g = true then
            (if (s.queue g).events.length < 8 then
              { s.queue g with events := (s.queue g).events ++ [.voteOpened s.scan.frame h] }
            else { s.queue g with lost := min ((s.queue g).lost + 1) 255 })
          else s.queue g) ∧
        t.panes = s.panes ∧ t.lanes = s.lanes ∧ t.store = s.store ∧ t.scan = s.scan ∧ t.arbiter = s.arbiter ∧
        t.faults = s.faults ∧ t.panel = s.panel ∧ t.parked = s.parked)) ∧
    ((∀ g, g ≠ h → s.isActive g = true → (s.host g).vote = true) →
      ∃ t, exec (.resetVote h tag) s = .next t ∧ s.resetFrom .vote t ∧
        ∀ a, a ∉ writtenPlaces s → t.store.read a = s.store.read a)

/-- The vote window runs out while the vote is OPEN: VOTE_FAILED to every host whose flag is set and that is ACTIVE, every
flag cleared, the vote IDLE, its window stopped (R158, R143). Nothing else changes but the attention lines (R132). MODEL'S CHOICES: an
expiry at an IDLE vote does nothing (notes/assumptions/6.md), and one at an OPEN vote counts whatever the window holds
(notes/assumptions/21.md). -/
def Obligations.VoteWindowExpires : Prop :=
  ∀ (s : State),
    (s.conf.vote = .idle → exec .windowExpiry s = .next s) ∧
    (s.conf.vote = .opened → ∃ t, exec .windowExpiry s = .next t ∧
      t.conf = { s.conf with vote := .idle, window := 0 } ∧ (∀ h, t.host h = { s.host h with vote := false }) ∧
      (∀ h, t.queue h =
        if (s.host h).vote = true ∧ s.isActive h = true then
          (if (s.queue h).events.length < 8 then
            { s.queue h with events := (s.queue h).events ++ [.voteFailed s.scan.frame] }
          else { s.queue h with lost := min ((s.queue h).lost + 1) 255 })
        else s.queue h) ∧
      (∀ h, t.port h = { s.port h with attention :=
        if (s.host h).vote = true ∧ s.isActive h = true ∧ (s.queue h).events.length < 8 then true
        else (s.port h).attention }) ∧
      t.panes = s.panes ∧ t.lanes = s.lanes ∧ t.store = s.store ∧ t.scan = s.scan ∧ t.arbiter = s.arbiter ∧
      t.faults = s.faults ∧ t.panel = s.panel ∧ t.parked = s.parked ∧ t.choices = s.choices)

/-- A request of the wrong part state, or that names no pane, is refused and changes nothing but the lease (R153, R15, R72):
STATE for the pane requests, the cell requests and RESET_VOTE in SETUP, and for CONFIG_SET and START in RUN; RANGE in RUN for
the pane requests whose pane number is above 15. -/
def Obligations.RefusedByPartStateOrPaneNumber : Prop :=
  ∀ (s : State) (h : HostNo) (i : Instr) (tag : Byte) (k : Kind), s.speaks h →
    requestSource i = some (h, tag) → (requestFields i).map (·.1) = some k → i.wellFormed = true →
    (s.inRun = false → k ∈ [Kind.resetVote, .paneClaim, .paneStage, .paneGuest, .paneCommit, .paneRelease, .paneAdopt,
        .paneQuery] →
      exec i s = .next ((s.heard h).answered h (responseTo k tag .state .empty))) ∧
    (s.inRun = false → k ∈ [Kind.cellWrite, .cellFill, .cellRead] →
      exec i s = .next ((s.heard h).answered h (responseTo k tag .state .empty))) ∧
    (s.inRun = true → k ∈ [Kind.configSet, .start] →
      exec i s = .next ((s.heard h).answered h (responseTo k tag .state .empty))) ∧
    (s.inRun = true →
      ∀ sel arg rect, 16 ≤ sel.toNat →
        i ∈ [Instr.paneStage h tag sel arg rect, .paneGuest h tag sel arg, .paneCommit h tag sel,
          .paneRelease h tag sel, .paneAdopt h tag sel, .paneQuery h tag sel] →
        exec i s = .next ((s.heard h).answered h (responseTo k tag .range .empty)))

/-! ## Panes (Chapters 2 and 3) -/

/-- PANE_CLAIM in RUN (R16, R14, R3), checked in order: NO_PANE without a FREE record; RANGE for a code outside Table 12-6;
RANGE for a rectangle not valid in the frame; OVERLAP when it shares a cell with a rectangle of a pane that is not FREE.
Otherwise the lowest FREE record is PENDING, owned by the requester, with the rectangle staged, front bank A and a tear count
of 0, and OK carries its number. -/
def Obligations.PaneClaim : Prop :=
  ∀ (s : State) (h : HostNo) (tag : Byte) (rect : Rect), s.speaksInRun h → s.geometryOk →
    let refused (b p d : Byte) (status : Status) : Prop :=
      exec (.paneClaim h tag rect b p d) s = .next ((s.heard h).answered h (responseTo .paneClaim tag status .empty))
    let valid := 1 ≤ rect.w ∧ 1 ≤ rect.h ∧ rect.x + rect.w ≤ s.conf.settings.frameWidth ∧
      rect.y + rect.h ≤ s.conf.settings.frameHeight
    let shares := ∃ q a x y, (s.pane q).state ≠ .free ∧ a ∈ (s.pane q).rects ∧ rectHolds rect x y = true ∧
      rectHolds a x y = true
    ((∀ n, (s.pane n).state ≠ .free) → ∀ b p d, refused b p d .noPane) ∧
    ∀ n : PaneNo, (s.pane n).state = .free → (∀ m : PaneNo, m < n → (s.pane m).state ≠ .free) →
      (∀ b p d : Byte, (2 ≤ b.toNat ∨ 3 ≤ p.toNat ∨ 2 ≤ d.toNat) → refused b p d .range) ∧
      ∀ (b : Buffering) (p : Policy) (d : Display),
        (¬valid → refused b.code p.code d.code .range) ∧
        (valid → shares → refused b.code p.code d.code .overlap) ∧
        (valid → ¬shares → exec (.paneClaim h tag rect b.code p.code d.code) s = .next
          (((s.heard h).setPane n
            ⟨.pending, some h, none, none, none, some rect, some ⟨b, .a, p, d⟩, none, none, 0⟩).answered h
            (responseTo .paneClaim tag .ok (.claimed n))))

/-- PANE_STAGE in RUN (R17, R15, R14), checked in order: PANE_STATE, NOT_OWNER, PANE_STATE for a RETIRING pane, COMMIT_PENDING,
PANE_BUSY, RANGE for an argument other than 0 and 1, PANE_STATE for "none" on a PENDING pane, RANGE, OVERLAP. While a cell
operation on the pane is in service or parked the request is held with its slot; otherwise the rectangle is staged and OK
placed. -/
def Obligations.PaneStage : Prop :=
  ∀ (s : State) (h : HostNo) (tag : Byte) (p : PaneNo) (arg : Half) (rect : Rect), s.speaksInRun h →
    let q := s.pane p
    let named : Option Rect := if arg = 0x0000#16 then some rect else none
    let refuse (status : Status) := (s.heard h).answered h (responseTo .paneStage tag status .empty)
    let busy : Bool := (allHosts.any fun g => (s.lane g).service.any fun v => v.pane = p) ||
      s.parked.any fun e => e.pane = p
    exec (.paneStage h tag (byteOf p.val) arg rect) s = .next
      (if q.state = .free ∨ q.state = .orphaned then refuse .paneState
      else if q.owner ≠ some h then refuse .notOwner
      else if q.state = .retiring then refuse .paneState
      else if q.commit ≠ none then refuse .commitPending
      else if q.held ≠ none then refuse .paneBusy
      else if arg ≠ 0x0000#16 ∧ arg ≠ 0x0001#16 then refuse .range
      else if named = none ∧ q.state = .pending then refuse .paneState
      else if named = some rect ∧ s.rectValid rect = false then refuse .range
      else if named = some rect ∧ s.overlapsPanes (some p) rect = true then refuse .overlap
      else if busy = true then ((s.heard h).setPane p { q with held := some (.stage tag named) }).slotTaken h
      else ((s.heard h).setPane p { q with staged := named }).answered h (responseTo .paneStage tag .ok .empty))

/-- PANE_GUEST in RUN (R20, R21). The checks in order: PANE_STATE, NOT_OWNER, PANE_STATE for a pane that is not LIVE, RANGE for
an argument that names no host, the owner or a host that is not ACTIVE. Naming the guest the pane has changes nothing. Another
name replaces the guest: the old one's cell operations on the pane are ended, REVOKED, and it is told REPLACED or WITHDRAWN;
the new one is told GUEST_GRANTED. MODEL'S CHOICE (DEDUCED, notes/assumptions/14.md): an operation with its access in progress
that already waits to stop with another status is answered REVOKED. -/
def Obligations.PaneGuest : Prop :=
  ∀ (s : State) (h : HostNo) (tag : Byte) (p : PaneNo), s.speaksInRun h → s.geometryOk →
    let q := s.pane p
    let refused (arg : Half) (status : Status) : Prop :=
      exec (.paneGuest h tag (byteOf p.val) arg) s =
        .next ((s.heard h).answered h (responseTo .paneGuest tag status .empty))
    let argOf (g : Option HostNo) : Half := match g with
      | none => 0xFFFF#16
      | some n => BitVec.ofNat 16 n.val
    ((q.state = .free ∨ q.state = .orphaned) → ∀ arg, refused arg .paneState) ∧
    (q.state ≠ .free → q.state ≠ .orphaned → q.owner ≠ some h → ∀ arg, refused arg .notOwner) ∧
    (q.owner = some h → (q.state = .pending ∨ q.state = .retiring) → ∀ arg, refused arg .paneState) ∧
    (q.owner = some h → q.state = .live →
      (∀ arg : Half, 4 ≤ arg.toNat → arg ≠ 0xFFFF#16 → refused arg .range) ∧
      (∀ g, (g = h ∨ s.isActive g = false) → refused (argOf (some g)) .range) ∧
      ∀ named : Option HostNo, (∀ g, named = some g → g ≠ h ∧ s.isActive g = true) →
        (q.guest = named → refused (argOf named) .ok) ∧
        (q.guest ≠ named → ∃ t, exec (.paneGuest h tag (byteOf p.val) (argOf named)) s = .next t ∧
          (s.setPane p { q with guest := named }).settledFrom t ∧
          responseTo .paneGuest tag .ok .empty ∈ (t.port h).responses ∧
          (∀ g, named = some g → (s.queue g).events.length < 8 →
            Event.guestGranted p h ∈ (t.queue g).events) ∧
          ∀ g, q.guest = some g → g ≠ h →
            (∀ op ∈ (t.lane g).queued, op.pane.toNat ≠ p.val) ∧ (∀ e ∈ t.parked, e.pane = p → e.host ≠ g) ∧
            (∀ v, (t.lane g).service = some v → v.op.pane.toNat = p.val →
              v.access = .inProgress ∧ v.stop = some .revoked) ∧
            (∀ op ∈ (s.lane g).queued, op.pane.toNat = p.val →
              responseTo op.kind op.tag .revoked (.count 0) ∈ (t.port g).responses) ∧
            (∀ v, (s.lane g).service = some v → v.op.pane.toNat = p.val → v.access ≠ .inProgress →
              responseTo v.op.kind v.op.tag .revoked (.count v.written) ∈ (t.port g).responses) ∧
            (s.isActive g = true → (s.queue g).events.length < 8 →
              Event.guestRevoked p h (if named = none then .withdrawn else .replaced) ∈ (t.queue g).events)))

/-- PANE_COMMIT in RUN (R35, R36, R39, R34, R85), checked in order: PANE_STATE, NOT_OWNER, PANE_STATE for a RETIRING pane,
COMMIT_PENDING, PANE_BUSY. Behind unfinished cell operations of the owner on the pane it is held with its slot. Otherwise the
owner's next ticket is the pane's pending commit and ACCEPTED carries it; on a DOUBLE pane offered writes wait again. -/
def Obligations.PaneCommit : Prop :=
  ∀ (s : State) (h : HostNo) (tag : Byte) (p : PaneNo), s.speaksInRun h →
    let q := s.pane p
    let refused (status : Status) : Prop :=
      exec (.paneCommit h tag (byteOf p.val)) s =
        .next ((s.heard h).answered h (responseTo .paneCommit tag status .empty))
    let unfinished := ((s.lane h).service.toList.filter fun v => v.op.pane.toNat = p.val).length +
      ((s.lane h).queued.filter fun op => op.pane.toNat = p.val).length
    ((q.state = .free ∨ q.state = .orphaned) → refused .paneState) ∧
    (q.state ≠ .free → q.state ≠ .orphaned → q.owner ≠ some h → refused .notOwner) ∧
    (q.owner = some h → q.state = .retiring → refused .paneState) ∧
    (q.owner = some h → (q.state = .pending ∨ q.state = .live) →
      (q.commit ≠ none → refused .commitPending) ∧
      (q.commit = none → q.held ≠ none → refused .paneBusy) ∧
      (q.commit = none → q.held = none → unfinished ≠ 0 →
        exec (.paneCommit h tag (byteOf p.val)) s = .next
          (((s.heard h).setPane p { q with held := some (.commit tag unfinished) }).slotTaken h)) ∧
      (q.commit = none → q.held = none → unfinished = 0 →
        ∃ t, exec (.paneCommit h tag (byteOf p.val)) s = .next t ∧
          t.panes = ((s.setPane p { q with commit := some (s.host h).tickets }).panes) ∧
          t.hosts = ((s.heard h).setHost h
            { (s.heard h).host h with tickets := (s.host h).tickets + 1 }).hosts ∧
          t.ports = (s.answered h (responseTo .paneCommit tag .accepted (.ticket (s.host h).tickets))).ports ∧
          (∀ g, t.lane g =
            { s.lane g with service := (s.lane g).service.map fun v =>
              if q.modes.any (fun m => m.buffering = .double) = true ∧ v.pane = p ∧ v.access = .offered ∧
                v.op.kind ≠ .cellRead
              then { v with access := .made } else v }) ∧
          t.store = s.store ∧ t.scan = s.scan ∧ t.arbiter = s.arbiter ∧ t.parked = s.parked ∧ t.events = s.events ∧
          t.faults = s.faults ∧ t.panel = s.panel ∧ t.conf = s.conf))

/-- PANE_RELEASE in RUN (R22, R23, R24), checked in order: PANE_STATE, NOT_OWNER, PANE_STATE for a RETIRING pane. A PENDING pane
becomes FREE; a LIVE one RETIRING, without staged rectangle, pending commit, guest and held request. The owner's responses
stand in R24's order: held request, operation in service that stops at once, queued operations, OK with the discarded ticket.
The guest's operations end CANCELLED, the one in service first (model's choice, notes/assumptions/15.md), and it is told
RELEASED. Of the owner's and the guest's work on the pane only an operation with its access in progress goes on, marked
CANCELLED (R86), also one that already waits to stop with another status (MODEL'S CHOICE, DEDUCED, notes/assumptions/14.md);
the tear count is kept (R12). -/
def Obligations.PaneRelease : Prop :=
  ∀ (s : State) (h : HostNo) (tag : Byte) (p : PaneNo), s.speaksInRun h → s.geometryOk →
    let q := s.pane p
    let refused (status : Status) : Prop :=
      exec (.paneRelease h tag (byteOf p.val)) s =
        .next ((s.heard h).answered h (responseTo .paneRelease tag status .empty))
    let held := match q.held with
      | some (.stage t _) => [responseTo .paneStage t .cancelled .empty]
      | some (.commit t _) => [responseTo .paneCommit t .cancelled .empty]
      | none => []
    let ended (g : HostNo) := ((s.lane g).service.toList.filter fun v =>
          v.op.pane.toNat = p.val ∧ v.access ≠ .inProgress).map
        (fun v => responseTo v.op.kind v.op.tag .cancelled (.count v.written))
      ++ ((s.lane g).queued.filter fun op => op.pane.toNat = p.val).map
        fun op => responseTo op.kind op.tag .cancelled (.count 0)
    ((q.state = .free ∨ q.state = .orphaned) → refused .paneState) ∧
    (q.state ≠ .free → q.state ≠ .orphaned → q.owner ≠ some h → refused .notOwner) ∧
    (q.owner = some h → q.state = .retiring → refused .paneState) ∧
    (q.owner = some h → (q.state = .pending ∨ q.state = .live) →
      ∃ t, exec (.paneRelease h tag (byteOf p.val)) s = .next t ∧
        (s.workOk → (t.pane p).tears = q.tears) ∧
        (q.state = .pending → t.pane p = .free (t.pane p).tears ∧ (s.setPane p (.free q.tears)).settledFrom t) ∧
        (q.state = .live → (t.pane p).staged = none ∧ (t.pane p).commit = none ∧ (t.pane p).held = none ∧
          (s.setPane p { q with state := .retiring, guest := none }).settledFrom t) ∧
        (∃ more, (t.port h).responses = (s.port h).responses ++ held ++ ended h ++
          responseTo .paneRelease tag .ok (.released q.commit) :: more) ∧
        (∀ g, (g = h ∨ q.guest = some g) → (∀ op ∈ (t.lane g).queued, op.pane.toNat ≠ p.val) ∧
          (∀ e ∈ t.parked, e.pane = p → e.host ≠ g) ∧
          ∀ v, (t.lane g).service = some v → v.op.pane.toNat = p.val →
            v.access = .inProgress ∧ v.stop = some .cancelled) ∧
        ∀ g, q.guest = some g → g ≠ h →
          (∃ more, (t.port g).responses = (s.port g).responses ++ ended g ++ more) ∧
          (s.isActive g = true → (s.queue g).events.length < 8 →
            Event.guestRevoked p h .released ∈ (t.queue g).events))

/-- PANE_ADOPT in RUN is open to any ACTIVE host (R30): NOT_ORPHANED unless the pane is ORPHANED, which then is LIVE, owned by the
requester, with current rectangle, modes and tear count kept; OK carries buffering, front bank and rectangle. PANE_QUERY of
any pane answers OK with its record and changes nothing but the lease (R32). -/
def Obligations.PaneAdoptAndQuery : Prop :=
  ∀ (s : State) (h : HostNo) (tag : Byte) (p : PaneNo), s.speaksInRun h →
    ((s.pane p).state ≠ .orphaned →
      exec (.paneAdopt h tag (byteOf p.val)) s =
        .next ((s.heard h).answered h (responseTo .paneAdopt tag .notOrphaned .empty))) ∧
    (∀ m r, (s.pane p).state = .orphaned → (s.pane p).modes = some m → (s.pane p).current = some r →
      exec (.paneAdopt h tag (byteOf p.val)) s = .next
        (((s.heard h).setPane p
          ⟨.live, some h, none, none, some r, none, some m, none, none, (s.pane p).tears⟩).answered h
          (responseTo .paneAdopt tag .ok (.adopted m.buffering m.front r)))) ∧
    exec (.paneQuery h tag (byteOf p.val)) s =
      .next ((s.heard h).answered h (responseTo .paneQuery tag .ok (.queried p (s.pane p))))

/-- The latch start of line 0 makes the frame boundary (R54, R55, R43 to R47): at the completion of the latch of line H − 1 with
room in the line queue, whatever is parked (R57, R97); at a line mark that takes an entry while the cursor stands at line 0
(R53, R59, the usual case of Table 4-8); and at an underrun of line H − 1 (R62, R63). The frame number rises by one and line 0
is latched. A RETIRING pane becomes FREE, its tear count kept (R12). A pane with a pending commit is LIVE with its target
rectangle current, nothing staged, no commit, a DOUBLE pane's front bank exchanged, and its owner's COMMIT_DONE posted or
counted as lost. Any other pane keeps its state, owner, guest, rectangle and modes. Every host's granted cells start again at
0, but for an access granted at this event, every budget-hit flag is clear, and an access that waited for budget or for a commit
is tested again and is no longer MADE (R83). The parked accesses are released and ready for budget (R97, R98). -/
def Obligations.BoundaryAppliesCommits : Prop :=
  ∀ (s : State), s.paneTableOk → s.inRun = true →
    let H := s.conf.settings.frameHeight
    let k := match s.scan.mark with
      | none => 0
      | some m => if m + 1 < H + s.conf.settings.blankLines then m + 1 else 0
    let E := if s.scan.mark ≠ none ∧ k = 0 then s.scan.emission + 1 else s.scan.emission
    (∀ line first cells l, s.arbiter.access = some (.segment true line first cells) →
      runInStore line first cells.length = true → s.scan.latch = some l →
      l.segment + 1 = segmentCount s.conf.settings.frameWidth → s.scan.cursorLine + 1 = H → s.scan.queue.length < 3 →
      ∃ t, exec .segmentReadComplete s = .next t ∧ s.boundaryDone t ∧ s.releasedInto t True 0) ∧
    (∀ e rest, k < H → s.scan.queue = e :: rest → e.line = k → e.frame = E → rest.length < 4 → s.scan.cursorLine = 0 →
      s.scan.latch = none → ∃ t, exec .lineMark s = .next t ∧ s.boundaryDone t ∧ t.scan.queue = rest) ∧
    (k + 1 = H → (∀ e, s.scan.queue.head? = some e → e.line ≠ k ∨ e.frame ≠ E) → s.scan.queue.length < 4 →
      (∀ l, s.scan.latch = some l → l.line = k ∧ l.frame = E) →
      ∃ t, exec .lineMark s = .next t ∧ s.boundaryDone t ∧ (s.scan.latch ≠ none → s.releasedInto t True 0))

/-! ## Scanning (Chapters 1 and 4) -/

/-- What a segment read composes (R4, R6, R7): one cell for each of 32 columns, fewer at the frame's right edge; each is the
stored front-bank cell of the shown pane whose current rectangle holds it, and BACKDROP where there is none. Shown are LIVE
and RETIRING panes, and ORPHANED ones whose display is KEEP. A bank's cell (x, y) is at place 800 y + x, bank B behind A. -/
def Obligations.SegmentComposition : Prop :=
  ∀ (s : State) (line segment : Nat), s.panesApart →
    let shown (p : PaneNo) (x : Nat) : Prop :=
      ((s.pane p).state = .live ∨ (s.pane p).state = .retiring ∨
        ((s.pane p).state = .orphaned ∧ ∃ m, (s.pane p).modes = some m ∧ m.display = .keep)) ∧
      ∃ r, (s.pane p).current = some r ∧ r.x ≤ x ∧ x < r.x + r.w ∧ r.y ≤ line ∧ line < r.y + r.h
    (composeSegment s line segment).length = min 32 (s.conf.settings.frameWidth - 32 * segment) ∧
    ∀ i, i < min 32 (s.conf.settings.frameWidth - 32 * segment) →
      (∀ p m, shown p (32 * segment + i) → (s.pane p).modes = some m →
        (composeSegment s line segment)[i]? = some (s.store.read
          ((match m.front with | .a => 0 | .b => 384000) + 800 * line + (32 * segment + i)))) ∧
      ((∀ p, ¬shown p (32 * segment + i)) → (composeSegment s line segment)[i]? = some s.conf.settings.backdrop)

/-- The completion of a segment read (R56, R57, R63). Its cells are gathered and the next segment follows; after the last
segment the line joins the tail of the line queue with its torn flag, the urgency follows the count, and the latch record is
gone; in RUN the Parked List is released (R97, R102), each access OFFERED or MADE by the budget test, or granted at once. With
nothing but parked accesses the list is empty afterwards. A read whose latch was abandoned gives its cells to no one. -/
def Obligations.SegmentReadGathers : Prop :=
  ∀ (s : State) (live : Bool) (line first : Nat) (cells : List Cell) (l : Latch),
    s.arbiter.access = some (.segment live line first cells) → runInStore line first cells.length = true →
    s.scan.latch = some l →
    ∃ t, exec .segmentReadComplete s = .next t ∧
      (live = true → l.segment + 1 < segmentCount s.conf.settings.frameWidth →
        (s.setScan { s.scan with latch := t.scan.latch }).settledFrom t ∧
        ∃ l', t.scan.latch = some l' ∧ l'.gathered = l.gathered ++ [cells] ∧
          l'.segment = l.segment + 1 ∧ l'.line = l.line ∧ l'.frame = l.frame ∧ l'.restarts = l.restarts) ∧
      (live = true → segmentCount s.conf.settings.frameWidth ≤ l.segment + 1 →
        t.scan.queue = s.scan.queue ++ [⟨l.frame, l.line, l.torn, (l.gathered ++ [cells]).flatten⟩] ∧
        t.arbiter.urgency = urgencyOf (s.scan.queue.length + 1) s.conf.settings.panicLevel s.conf.settings.urgentLevel ∧
        (s.inRun = true → s.scan.queue.length < 3 → ∃ l', t.scan.latch = some l' ∧ l'.gathered = [] ∧
          l'.segment = 0 ∧ l'.restarts = 0 ∧
          l'.line = if s.scan.cursorLine + 1 < s.conf.settings.frameHeight then s.scan.cursorLine + 1 else 0) ∧
        ((s.inRun = false ∨ 3 ≤ s.scan.queue.length) → t.scan.latch = none) ∧
        let next := if s.scan.cursorLine + 1 < s.conf.settings.frameHeight then s.scan.cursorLine + 1 else 0
        (s.inRun = true → s.releasedInto t (next = 0 ∧ s.scan.queue.length < 3) next) ∧
        (s.inRun = true → (∀ g, (s.lane g).queued = []) →
          (∀ g v, (s.lane g).service = some v → v.access = .parked ∧ v.line ≠ next) → t.parked = [])) ∧
      (live = false → s.settledFrom t)

/-- A line mark in RUN (R51, R52, R59 to R61, R161). The mark's position and the emission frame advance, the line timer is
loaded, a RESUMING emitter sends from mark 0. At a visible mark whose line stands at the head of the queue the line leaves it
and is sent, with a FRAME packet before line 0. Mark H starts blanking, mark 0 after the first ends it. -/
def Obligations.LineMarkSendsTheLineDue : Prop :=
  ∀ (s : State), s.inRun = true → 0 < s.conf.settings.frameHeight →
    let H := s.conf.settings.frameHeight
    let k := match s.scan.mark with
      | none => 0
      | some m => if m + 1 < H + s.conf.settings.blankLines then m + 1 else 0
    let E := if s.scan.mark ≠ none ∧ k = 0 then s.scan.emission + 1 else s.scan.emission
    let mode := if k = 0 ∧ s.scan.emitter = .resuming then EmitterMode.sending else s.scan.emitter
    ∃ t, exec .lineMark s = .next t ∧ t.scan.mark = some k ∧ t.scan.emission = E ∧
      t.scan.timer = s.conf.settings.linePeriod ∧ t.scan.emitter = mode ∧ t.scan.link = s.scan.link ∧
      t.panel = (if k = H then s.panelStarted { s.panel with blanking := true }
        else if k = 0 ∧ s.scan.mark ≠ none then { s.panel with blanking := false } else s.panel) ∧
      (H ≤ k → t.scan.queue = s.scan.queue ∧ t.scan.lane = [] ∧ t.arbiter.urgency = s.arbiter.urgency) ∧
      ∀ e rest, k < H → s.scan.queue = e :: rest → e.line = k → e.frame = E →
        t.scan.queue = rest ∧
        t.arbiter.urgency = urgencyOf rest.length s.conf.settings.panicLevel s.conf.settings.urgentLevel ∧
        (s.scan.latch = none → rest.length < 4 → ∃ l', t.scan.latch = some l' ∧ l'.line = s.scan.cursorLine) ∧
        t.scan.lane = if mode = .sending then
            (if k = 0 then [0x3F001#18, E.setWidth 18] else []) ++
            [0x3F002#18, BitVec.ofNat 18 k, BitVec.ofNat 18 ((if k = 0 then 1 else 0) + if e.torn = true then 2 else 0)] ++
            e.cells.map (fun c => c.r ++ c.g ++ c.b)
          else []

/-- A visible mark whose line does not stand at the head of the queue is an underrun (R62, R63, R98): a line of BACKDROP with the
UNDERRUN flag is sent, the UNDERRUN fault is recorded or merged where a slot allows, and the cursor goes past the line. A latch
of that line is abandoned, its read in progress reaches no latch, and the Parked List is released, each access OFFERED or MADE by
the budget test (R81, R82, R102); while the store is busy, as it is whenever a latch is in flight, the list is then empty.
DEDUCED, not the rules' words (notes/assumptions/16.md): a mark whose line is not at the head is an underrun even if the queue
holds other lines, the queue keeps them, and the cursor goes past the line wherever it stood. -/
def Obligations.LineMarkUnderrun : Prop :=
  ∀ (s : State), s.inRun = true → s.conf.settings.frameOk →
    let H := s.conf.settings.frameHeight
    let k := match s.scan.mark with
      | none => 0
      | some m => if m + 1 < H + s.conf.settings.blankLines then m + 1 else 0
    let E := if s.scan.mark ≠ none ∧ k = 0 then s.scan.emission + 1 else s.scan.emission
    let mode := if k = 0 ∧ s.scan.emitter = .resuming then EmitterMode.sending else s.scan.emitter
    let underrunRecord (r : FaultRecord) : Prop := r.kind = .underrun ∧ r.host = none ∧ r.pane = none
    k < H → (∀ e, s.scan.queue.head? = some e → e.line ≠ k ∨ e.frame ≠ E) →
    ∃ t, exec .lineMark s = .next t ∧ t.scan.queue = s.scan.queue ∧
      t.scan.lane = (if mode = .sending then
          (if k = 0 then [0x3F001#18, E.setWidth 18] else []) ++
          [0x3F002#18, BitVec.ofNat 18 k, BitVec.ofNat 18 ((if k = 0 then 1 else 0) + 4)] ++
          List.replicate s.conf.settings.frameWidth
            (s.conf.settings.backdrop.r ++ s.conf.settings.backdrop.g ++ s.conf.settings.backdrop.b)
        else []) ∧
      t.scan.cursorLine = (if k + 1 < H then k + 1 else 0) ∧
      (k + 1 < H → t.scan.cursorFrame = E) ∧
      ((∃ i : Fin 16, s.faults.slots[i] = none ∨ ∃ r, s.faults.slots[i] = some r ∧ underrunRecord r) →
        ∃ i : Fin 16, ∃ r, t.faults.slots[i] = some r ∧ underrunRecord r ∧ r.lastFrame = E) ∧
      ((∀ i : Fin 16, ∃ r, s.faults.slots[i] = some r ∧ ¬underrunRecord r) →
        t.faults.hostless = min (s.faults.hostless + 1) 255) ∧
      ∀ l, s.scan.latch = some l → l.line = k → l.frame = E →
        (∀ l', t.scan.latch = some l' → l'.line ≠ k) ∧
        s.releasedInto t (k + 1 = H ∧ s.scan.queue.length < 4) (if k + 1 < H then k + 1 else 0) ∧
        (s.arbiter.access.isSome = true → t.parked = []) ∧
        ∀ live line first cells, s.arbiter.access = some (.segment live line first cells) →
          t.arbiter.access = some (.segment false line first cells)

/-- The scan link (R61, R147, R150). An assertion of PRDY takes the link UP and the emitter to RESUMING, and the head transfer
may start. A deassertion takes the link DOWN and the emitter to SILENT with its packets cut off, and ends a transfer in flight
with LINK_DOWN, its attempts and its slot freed, unless it carries the discard mark. MODEL'S CHOICES: a change to the level the line
has does nothing (notes/assumptions/6.md), and while RESET is asserted the emitter stays as it is (DEDUCED,
notes/assumptions/19.md). -/
def Obligations.LinkChanges : Prop :=
  ∀ (s : State),
    (s.scan.link = .up → exec .linkUp s = .next s) ∧
    (s.scan.link = .down → s.resetPin = false →
      let u := s.setScan { s.scan with link := .up, emitter := .resuming }
      exec .linkUp s = .next (u.setPanel (u.panelStarted s.panel))) ∧
    (s.scan.link = .down → s.resetPin = true →
      let u := s.setScan { s.scan with link := .up }
      exec .linkUp s = .next (u.setPanel (u.panelStarted s.panel))) ∧
    (s.scan.link = .down → exec .linkDown s = .next s) ∧
    (s.scan.link = .up →
      let u := s.setScan { s.scan with link := .down, emitter := .silent, lane := [] }
      (s.panel.inFlight = none → exec .linkDown s = .next u) ∧
      ∀ f, s.panel.inFlight = some f →
        let v := u.setPanel { s.panel with inFlight := none, timer := none }
        let h := f.transfer.host
        (f.discard = true → exec .linkDown s = .next v) ∧
        (f.discard = false → exec .linkDown s = .next ((v.setPort h
            { s.port h with slots := (s.port h).slots - 1 }).answered h
          (responseTo .panelSend f.transfer.tag .linkDown (.panel f.transfer.address f.attempts)))))

/-! ## The Store Arbiter (Chapters 4 and 6) -/

/-- The grant decision (R66, R67, R69, R76, R81), seen at the completion of a read whose operation is gone, with no operation
queued. With a latch in flight its segment read is granted, unless the urgency is NORMAL, the last grant was the latch's and a
host has an access ready. Without one, no grant is made when no host is ready, or in PANIC. Otherwise the first ready host after
the rotation pointer is served: without a line conflict its access is granted, a write charged to its cells of the frame. With
one (R91, R68) the state is the conflict's outcome as ConflictOutcomes gives it when that outcome grants the access, and
otherwise the access is parked and the arbiter decides again at once. -/
def Obligations.GrantDecision : Prop :=
  ∀ (s : State) (h : HostNo) (bank : Bank) (line first : Nat) (cells : List Cell), s.inRun = true →
    (∀ g, (s.lane g).queued = []) → s.arbiter.access = some (.read false h bank line first cells) →
    runInStore line first cells.length = true →
    let free := s.setArbiter { s.arbiter with access := none }
    let ready (g : HostNo) : Prop := ∃ v, (s.lane g).service = some v ∧ v.access = .offered
    let served (g : HostNo) : Prop := ready g ∧ ∃ k : Fin 4, g = s.arbiter.rotation + 1 + k ∧
      ∀ j : Fin 4, j < k → ¬ready (s.arbiter.rotation + 1 + j)
    (∀ l, s.scan.latch = some l →
      ((∀ g, ¬ready g) ∨ s.arbiter.urgency ≠ .normal ∨ s.arbiter.lastGrant = .write) →
      exec .readAccessComplete s = .next (s.setArbiter
        { s.arbiter with
          lastGrant := .latch,
          access := some (.segment true l.line (32 * l.segment) (composeSegment s l.line l.segment)) })) ∧
    (s.scan.latch = none → ((∀ g, ¬ready g) ∨ s.arbiter.urgency = .panic) →
      exec .readAccessComplete s = .next free) ∧
    ∀ g v, served g → (s.lane g).service = some v →
      ((s.scan.latch = none ∧ s.arbiter.urgency ≠ .panic) ∨
        (s.arbiter.urgency = .normal ∧ s.arbiter.lastGrant = .latch)) →
      let q := s.pane v.pane
      let front : Bank := (q.modes.map fun m => m.front).getD .a
      let back : Bank := if q.modes.any (fun m => m.buffering = .double) = true then
          (if front = .a then Bank.b else .a) else front
      let granted := s.setLane g { s.lane g with service := some { v with access := .inProgress } }
      (∀ px py n sel, v.op.body = .read px py n sel →
        let from_ := if sel = 0x01#8 then back else front
        exec .readAccessComplete s = .next (granted.setArbiter
          { s.arbiter with
            lastGrant := .write, rotation := g,
            access := some (.read true g from_ v.line v.col
              ((List.range v.accessLen).map fun i => s.store.at from_ (v.col + i) v.line)) })) ∧
      ((∀ px py n sel, v.op.body ≠ .read px py n sel) →
        (back ≠ front ∨ ∀ l, s.scan.latch = some l → l.line ≠ v.line) →
        exec .readAccessComplete s = .next ((granted.setHost g
            { s.host g with cells := min ((s.host g).cells + v.accessLen) 384000 }).setArbiter
          { s.arbiter with
            lastGrant := .write, rotation := g,
            access := some (.write true g back v.line v.col v.accessCells none) })) ∧
      ∀ l m, (∀ px py n sel, v.op.body ≠ .read px py n sel) → s.scan.latch = some l → l.line = v.line →
        q.modes = some m → m.buffering = .direct →
        let grants : Prop := m.policy = .pass ∨ 8 ≤ s.parked.length ∨
          (m.policy = .relatch ∧ l.restarts < s.conf.settings.relatchLimit)
        (grants → exec .readAccessComplete s = .next (serveHost g free)) ∧
        (¬grants → exec .readAccessComplete s = exec .readAccessComplete (serveHost g s))

/-- The outcomes of a line conflict (R91 to R96, R99, Table 6-2), for the access a decision chose that writes the front bank of the
line in flight. PASS: granted, the latch torn, the tear count raised, TEAR. DEFER: parked without a fault, or granted with
PARK_OVERFLOW when 8 are parked. RELATCH below the limit in NORMAL: granted, the latch marked for restart; at the limit:
RELATCH_LIMIT and as DEFER; otherwise as DEFER. -/
def Obligations.ConflictOutcomes : Prop :=
  ∀ (s : State) (h : HostNo) (v : Service) (l : Latch) (m : PaneModes),
    (s.lane h).service = some v → (∀ px py n sel, v.op.body ≠ .read px py n sel) → s.scan.latch = some l →
    l.line = v.line → (s.pane v.pane).modes = some m → m.buffering = .direct →
    let t := serveHost h s
    let fault (kind : FaultKind) : FaultRecord := ⟨kind, some h, some v.pane, some l.line, l.frame, l.frame, 1⟩
    let granted (restart : Option (Half × Nat)) : Prop :=
      t.arbiter = { s.arbiter with
        lastGrant := .write, rotation := h,
        access := some (.write true h m.front v.line v.col v.accessCells restart) } ∧
      (t.lane h).service = some { v with access := .inProgress } ∧ t.parked = s.parked ∧
      (t.host h).cells = min ((s.host h).cells + v.accessLen) 384000
    let torn : Prop := t.scan = { s.scan with latch := some { l with torn := true } } ∧
      t.pane v.pane = { s.pane v.pane with tears := min ((s.pane v.pane).tears + 1) 255 }
    let whole : Prop := t.scan = s.scan ∧ t.panes = s.panes
    let parks : Prop := t.arbiter = { s.arbiter with rotation := h } ∧ whole ∧
      (t.lane h).service = some { v with access := .parked } ∧ (t.host h).cells = (s.host h).cells ∧
      t.parked = s.parked ++ [⟨h, v.pane, v.line, v.col, v.accessCells, v.op.kind.code, v.op.tag⟩]
    (m.policy = .pass → granted none ∧ torn ∧ t.faults = (reportFault (fault .tear) s).faults) ∧
    (m.policy = .defer → s.parked.length < 8 → parks ∧ t.faults = s.faults) ∧
    (m.policy = .defer → 8 ≤ s.parked.length →
      granted none ∧ torn ∧ t.faults = (reportFault (fault .parkOverflow) s).faults) ∧
    (m.policy = .relatch → l.restarts < s.conf.settings.relatchLimit → s.arbiter.urgency = .normal →
      granted (some (l.frame, l.line)) ∧ whole ∧ t.faults = s.faults) ∧
    (m.policy = .relatch → s.conf.settings.relatchLimit ≤ l.restarts → s.parked.length < 8 →
      parks ∧ t.faults = (reportFault (fault .relatchLimit) s).faults) ∧
    (m.policy = .relatch → s.conf.settings.relatchLimit ≤ l.restarts → 8 ≤ s.parked.length →
      granted none ∧ torn ∧
        t.faults = (reportFault (fault .parkOverflow) (reportFault (fault .relatchLimit) s)).faults) ∧
    (m.policy = .relatch → l.restarts < s.conf.settings.relatchLimit → s.arbiter.urgency ≠ .normal →
      (s.parked.length < 8 → parks ∧ t.faults = s.faults) ∧
      (8 ≤ s.parked.length → granted none ∧ torn ∧ t.faults = (reportFault (fault .parkOverflow) s).faults))

/-! ## Cell operations (Chapter 5) -/

/-- A cell request in RUN (R72 to R76, R33, R78 to R82, Table 5-4). Behind an operation in service it joins the tail of its host's
lane. At the head of an idle lane it waits for a held PANE_STAGE, or, a write, for a DOUBLE pane's pending commit; otherwise it
starts: RANGE, PANE_STATE, NOT_OWNER or RANGE ends it with count 0, or it is in service with its frame area resolved against the
target rectangle. A write the frame budget does not allow waits, and BUDGET_REACHED is posted once a frame. -/
def Obligations.CellRequestStarts : Prop :=
  ∀ (s : State) (h : HostNo) (i : Instr) (op : CellOp), s.speaksInRun h → requestSource i = some (h, op.tag) →
    requestedOp i = some op → i.wellFormed = true →
    (∀ v, (s.lane h).service = some v → ∃ t v', exec i s = .next t ∧
      s.settledFrom t ∧ (t.lane h).queued = (s.lane h).queued ++ [op] ∧ (t.lane h).service = some v' ∧ v'.op = v.op ∧
      v'.line = v.line ∧ v'.col = v.col ∧ v'.written = v.written) ∧
    (s.lane h = ⟨none, []⟩ → (∀ g, (s.lane g).queued = []) →
      let refused (status : Status) : Prop := ∃ t more, exec i s = .next t ∧ s.settledFrom t ∧ t.lane h = ⟨none, []⟩ ∧
        (t.port h).responses = (s.port h).responses ++ responseTo op.kind op.tag status (.count 0) :: more
      (16 ≤ op.pane.toNat → refused .range) ∧
      ∀ p : PaneNo, op.pane.toNat = p.val →
        let q := s.pane p
        let double : Bool := q.modes.any fun m => m.buffering = .double
        let waits : Prop := (∃ tag r, q.held = some (.stage tag r)) ∨
          (op.kind ≠ .cellRead ∧ double = true ∧ q.commit ≠ none)
        let righted : Prop := q.owner = some h ∨ (q.guest = some h ∧ q.state = .live)
        (waits → ∃ t, exec i s = .next t ∧ s.settledFrom t ∧ t.lane h = ⟨none, [op]⟩) ∧
        (¬waits → q.state ≠ .pending → q.state ≠ .live → refused .paneState) ∧
        (¬waits → (q.state = .pending ∨ q.state = .live) → ¬righted → refused .notOwner) ∧
        ∀ tgt, q.staged.or q.current = some tgt → ¬waits → (q.state = .pending ∨ q.state = .live) → righted →
          let area : Rect := match op.body with
            | .write px py cells => ⟨tgt.x + px, tgt.y + py, cells.length, 1⟩
            | .fill r _ => ⟨tgt.x + r.x, tgt.y + r.y, r.w, r.h⟩
            | .read px py n _ => ⟨tgt.x + px, tgt.y + py, n, 1⟩
          let fits : Prop := area.x + area.w ≤ tgt.x + tgt.w ∧ area.y + area.h ≤ tgt.y + tgt.h ∧
            (∀ px py n sel, op.body = .read px py n sel → sel.toNat < 2)
          (¬fits → refused .range) ∧
          (fits → ∃ t v, exec i s = .next t ∧ s.settledFrom t ∧ t.lane h = ⟨some v, []⟩ ∧ v.op = op ∧ v.pane = p ∧
            v.area = area ∧ v.line = area.y ∧ v.col = area.x ∧ v.written = 0 ∧ v.stop = none ∧ v.delayed = [] ∧
            (op.kind ≠ .cellRead → (s.host h).budget ≠ 0 →
              64 * (s.host h).budget < (s.host h).cells + min 64 area.w →
              v.access = .made ∧ (t.host h).cells = (s.host h).cells ∧
              ((s.host h).budgetHit = false → (s.queue h).events.length < 8 →
                Event.budgetReached p s.scan.frame ∈ (t.queue h).events))))

/-- The completion of a read access (R10, R80, R86, R88): its operation ends OK with the cells granted, or, stopped, with the
status of the stop and no cells, and a request held on its pane is taken as the end allows (R18, R37, R84). A read whose operation
is gone answers no one: where no operation is queued, every response queue, slot count and operation stays as it was. The store
keeps every cell. MODEL'S CHOICE (DEDUCED, notes/assumptions/13.md): R86 says that the end of an operation stopped by a
PANE_RELEASE or a DETACH takes no held request, since that event answered it; a request placed on the pane since then is taken. -/
def Obligations.ReadAccessCompletes : Prop :=
  ∀ (s : State) (live : Bool) (h : HostNo) (bank : Bank) (line first : Nat) (cells : List Cell),
    s.arbiter.access = some (.read live h bank line first cells) → runInStore line first cells.length = true →
    ∃ t, exec .readAccessComplete s = .next t ∧ s.settledFrom t ∧
      (live = false → (∀ g, (s.lane g).queued = []) → ∀ g,
        (t.port g).responses = (s.port g).responses ∧ (t.port g).slots = (s.port g).slots ∧ (t.lane g).queued = [] ∧
        ((s.lane g).service = none → (t.lane g).service = none) ∧
        ∀ v, (s.lane g).service = some v → ∃ a, (t.lane g).service = some { v with access := a }) ∧
      ∀ v, live = true → (s.lane h).service = some v →
        (v.stop = none → s.heldTaken t h v (responseTo v.op.kind v.op.tag .ok (.cells cells)) ∧
          ∃ more, (t.port h).responses =
            (s.port h).responses ++ responseTo v.op.kind v.op.tag .ok (.cells cells) :: more) ∧
        (∀ status, v.stop = some status →
          s.heldTaken t h v (responseTo v.op.kind v.op.tag status (.count v.written)) ∧
          ∃ more, (t.port h).responses =
            (s.port h).responses ++ responseTo v.op.kind v.op.tag status (.count v.written) :: more)

/-- The completion of a write access (R9, R76, R79, R84, R86, R100, R101): its cells are stored in column order at the places of its
bank and line and no other place changes; a latch marked for restart and still in flight begins again, and any other latch in
flight goes on, but for its torn flag. The operation makes its next access, or ends OK or with the status of its stop and its
cells written, and a request held on its pane is taken as the end allows (R18, R37). MODEL'S CHOICES: an access outside the store
stops by name (notes/assumptions/24.md), a write whose operation was dropped still restarts its latch (DEDUCED,
notes/assumptions/20.md), and the end of a stopped operation takes a request placed on its pane since the stop, where R86 says
of a PANE_RELEASE and a DETACH that the report takes none (DEDUCED, notes/assumptions/13.md). -/
def Obligations.WriteAccessCompletes : Prop :=
  ∀ (s : State) (live : Bool) (h : HostNo) (bank : Bank) (line first : Nat) (cells : List Cell)
    (restart : Option (Half × Nat)), s.arbiter.access = some (.write live h bank line first cells restart) →
    let base := (match bank with | .a => 0 | .b => 384000) + 800 * line + first
    ((480 ≤ line ∨ 800 < first + cells.length) → exec .writeAccessComplete s = .fault .outsideStore) ∧
    (line < 480 → first + cells.length ≤ 800 →
      ∃ t, exec .writeAccessComplete s = .next t ∧
        ((s.setStore t.store).setScan { s.scan with latch := t.scan.latch }).settledFrom t ∧
        (∀ i c, cells[i]? = some c → t.store.read (base + i) = c) ∧
        (∀ a, (a < base ∨ base + cells.length ≤ a) → t.store.read a = s.store.read a) ∧
        (∀ l, s.scan.latch = some l → restart = some (l.frame, l.line) → ∃ l', t.scan.latch = some l' ∧
          l'.frame = l.frame ∧ l'.line = l.line ∧ l'.segment = 0 ∧ l'.gathered = [] ∧ l'.restarts = l.restarts + 1) ∧
        (∀ l, s.scan.latch = some l → restart ≠ some (l.frame, l.line) →
          ∃ torn, t.scan.latch = some { l with torn := torn }) ∧
        (s.scan.latch = none → t.scan.latch = none) ∧
        ∀ v, live = true → (s.lane h).service = some v →
          let run := min 64 (v.area.x + v.area.w - v.col)
          (∀ status, v.stop = some status →
            s.heldTaken t h v (responseTo v.op.kind v.op.tag status (.count (v.written + cells.length))) ∧
            ∃ more, (t.port h).responses = (s.port h).responses ++
              responseTo v.op.kind v.op.tag status (.count (v.written + cells.length)) :: more) ∧
          (v.stop = none → v.col + run < v.area.x + v.area.w → ∃ v', (t.lane h).service = some v' ∧ v'.op = v.op ∧
            v'.line = v.line ∧ v'.col = v.col + run ∧ v'.written = v.written + cells.length) ∧
          (v.stop = none → v.area.x + v.area.w ≤ v.col + run → v.line + 1 < v.area.y + v.area.h →
            ∃ v', (t.lane h).service = some v' ∧ v'.op = v.op ∧ v'.line = v.line + 1 ∧ v'.col = v.area.x ∧
              v'.written = v.written + cells.length) ∧
          (v.stop = none → v.area.x + v.area.w ≤ v.col + run → v.area.y + v.area.h ≤ v.line + 1 →
            s.heldTaken t h v (responseTo v.op.kind v.op.tag .ok (.count (v.written + cells.length))) ∧
            ∃ more, (t.port h).responses = (s.port h).responses ++
              responseTo v.op.kind v.op.tag .ok (.count (v.written + cells.length)) :: more))

/-! ## Faults and events (Chapter 9) -/

/-- R140: FAULT_READ from an ACTIVE host answers RANGE for a slot number above 15, NO_FAULT for a FREE slot, and for a HELD one OK
with slot, record and the two overflow counts; it changes no record and no count. -/
def Obligations.FaultRead : Prop :=
  ∀ (s : State) (h : HostNo) (tag : Byte), s.speaks h →
    (∀ slot : Byte, 15 < slot.toNat →
      exec (.faultRead h tag slot) s = .next ((s.heard h).answered h (responseTo .faultRead tag .range .empty))) ∧
    ∀ i : Fin 16,
      (s.faults.slots[i] = none → exec (.faultRead h tag (byteOf i.val)) s =
        .next ((s.heard h).answered h (responseTo .faultRead tag .noFault .empty))) ∧
      ∀ r, s.faults.slots[i] = some r → exec (.faultRead h tag (byteOf i.val)) s =
        .next ((s.heard h).answered h
          (responseTo .faultRead tag .ok (.fault i r (s.host h).overflow s.faults.hostless)))

/-- FAULT_CLEAR naming a slot (R141): RANGE above 15 (255 names OVERFLOW), NO_FAULT for a FREE slot, NOT_YOURS for a record that
names another host; otherwise the slot is FREE and OK carries the record and the two overflow counts. MODEL'S CHOICE (DEDUCED from
Table 12-3, notes/assumptions/11.md): the row with selector FFh acts as FAULT_CLEAR_OVERFLOW (FaultClearOverflow). -/
def Obligations.FaultClear : Prop :=
  ∀ (s : State) (h : HostNo) (tag : Byte), s.speaks h →
    exec (.faultClear h tag 0xFF#8) s = exec (.faultClearOverflow h tag) s ∧
    (∀ slot : Byte, 15 < slot.toNat → slot ≠ 0xFF#8 →
      exec (.faultClear h tag slot) s = .next ((s.heard h).answered h (responseTo .faultClear tag .range .empty))) ∧
    ∀ i : Fin 16,
      (s.faults.slots[i] = none → exec (.faultClear h tag (byteOf i.val)) s =
        .next ((s.heard h).answered h (responseTo .faultClear tag .noFault .empty))) ∧
      ∀ r, s.faults.slots[i] = some r →
        ((∃ g, r.host = some g ∧ g ≠ h) → exec (.faultClear h tag (byteOf i.val)) s =
          .next ((s.heard h).answered h (responseTo .faultClear tag .notYours .empty))) ∧
        ((r.host = none ∨ r.host = some h) → exec (.faultClear h tag (byteOf i.val)) s = .next
          (((s.heard h).setFaults { s.faults with slots := s.faults.slots.set i none }).answered h
            (responseTo .faultClear tag .ok (.fault i r (s.host h).overflow s.faults.hostless))))

/-- R142: FAULT_CLEAR naming OVERFLOW, from any ACTIVE host, zeroes the requester's and the host-less overflow count and answers
with both as they stood; nothing else changes. A selector that names neither a slot nor OVERFLOW is refused with RANGE. An
overflow counted afterwards is counted from 0. -/
def Obligations.FaultClearOverflow : Prop :=
  ∀ (s : State) (h : HostNo) (tag : Byte), s.speaks h →
    let cleared := ((s.heard h).setHost h { (s.heard h).host h with overflow := 0 }).setFaults
      { s.faults with hostless := 0 }
    let t := cleared.answered h (responseTo .faultClear tag .ok (.overflow (s.host h).overflow s.faults.hostless))
    exec (.faultClearOverflow h tag) s = .next t ∧
    (∀ slot : Byte, 15 < slot.toNat → slot ≠ 0xFF#8 →
      exec (.faultClear h tag slot) s = .next ((s.heard h).answered h (responseTo .faultClear tag .range .empty))) ∧
    ∀ r : FaultRecord,
      (∀ i : Fin 16, ∃ q, s.faults.slots[i] = some q ∧ ¬(q.kind = r.kind ∧ q.host = r.host ∧ q.pane = r.pane)) →
      (r.host = some h → ((reportFault r t).host h).overflow = 1) ∧
      (r.host = none → (reportFault r t).faults.hostless = 1)

/-- R144: EVENT_FETCH from an ACTIVE host, in SETUP and in RUN, answers OK with up to four of the oldest events, the lost count
and the number left; they leave the head of the queue and the lost count becomes 0. An event posted before or after it stands
behind those already queued, or is counted as lost at a full queue, and is then counted in the next fetch. -/
def Obligations.EventFetch : Prop :=
  ∀ (s : State) (h : HostNo) (tag : Byte), s.speaks h →
    exec (.eventFetch h tag) s = .next
      (((s.heard h).setQueue h ⟨(s.queue h).events.drop 4, 0⟩).answered h (responseTo .eventFetch tag .ok
        (.events ((s.queue h).events.take 4) (s.queue h).lost ((s.queue h).events.length - 4)))) ∧
    ∀ e, (postEvent h e s).queue h = if (s.queue h).events.length < 8
      then { s.queue h with events := (s.queue h).events ++ [e] }
      else { s.queue h with lost := min ((s.queue h).lost + 1) 255 }

/-- How the Fault Log takes a report (R136 to R139). It merges into the one HELD record of its kind, host and pane: repeat count
and last frame. Otherwise it becomes a record in the lowest FREE slot, and FAULT_NOTE goes to every ACTIVE host for UNDERRUN, to
every ACTIVE host but the lapsed one for LEASE_LAPSE, and to the named host for the others. With every slot HELD it raises the
named host's overflow count, or the host-less one, to 255 at most. -/
def Obligations.FaultReports : Prop :=
  ∀ (s : State) (r : FaultRecord), s.faultLogOk →
    let same (q : FaultRecord) : Prop := q.kind = r.kind ∧ q.host = r.host ∧ q.pane = r.pane
    let noted (h : HostNo) : Prop := s.isActive h = true ∧
      (r.kind = .underrun ∨ (r.kind = .leaseLapse ∧ r.host ≠ some h) ∨
        (r.kind ≠ .underrun ∧ r.kind ≠ .leaseLapse ∧ r.host = some h))
    (∀ i : Fin 16, ∀ q, s.faults.slots[i] = some q → same q →
      let merged : FaultRecord := { q with repeats := min (q.repeats + 1) 255, lastFrame := r.firstFrame }
      reportFault r s = s.setFaults { s.faults with slots := s.faults.slots.set i (some merged) }) ∧
    ((∀ i : Fin 16, ∀ q, s.faults.slots[i] = some q → ¬same q) →
      (∀ i : Fin 16, s.faults.slots[i] = none → (∀ j : Fin 16, j < i → s.faults.slots[j] ≠ none) →
        let t := reportFault r s
        t.faults = { s.faults with slots := s.faults.slots.set i (some r) } ∧ t.hosts = s.hosts ∧
        t.panes = s.panes ∧ t.scan = s.scan ∧
        ∀ h, (t.port h).responses = (s.port h).responses ∧
          (¬noted h → t.queue h = s.queue h) ∧
          (noted h → (s.queue h).events.length < 8 →
            t.queue h = { s.queue h with events := (s.queue h).events ++ [.faultNote i r.kind] }) ∧
          (noted h → 8 ≤ (s.queue h).events.length →
            t.queue h = { s.queue h with lost := min ((s.queue h).lost + 1) 255 })) ∧
      ((∀ i : Fin 16, s.faults.slots[i] ≠ none) →
        (∀ h, r.host = some h →
          reportFault r s = s.setHost h { s.host h with overflow := min ((s.host h).overflow + 1) 255 }) ∧
        (r.host = none →
          reportFault r s = s.setFaults { s.faults with hostless := min (s.faults.hostless + 1) 255 })))

/-! ## The Panel Channel (Chapter 10) -/

/-- PANEL_SEND of 1 to 8 data bytes in either part state (R146, R147): PANEL_FULL behind four queued transfers; otherwise it joins
the tail of the FIFO with its slot, unanswered, and the head starts when it may. -/
def Obligations.PanelSend : Prop :=
  ∀ (s : State) (h : HostNo) (tag address synced : Byte) (data : List Byte), s.speaks h →
    1 ≤ data.length → data.length ≤ 8 →
    (4 ≤ s.panel.fifo.length → exec (.panelSend h tag address synced data) s =
      .next ((s.heard h).answered h (responseTo .panelSend tag .panelFull .empty))) ∧
    (s.panel.fifo.length < 4 → exec (.panelSend h tag address synced data) s =
      .next (((s.heard h).slotTaken h).setPanel (s.panelStarted
        { s.panel with fifo := s.panel.fifo ++ [⟨h, tag, address, data, synced ≠ 0x00#8⟩] })))

/-- The transfer in flight (R148, R151). The end of its sending starts the reply timer, PANEL_TIMEOUT × 4,000 ticks. In AWAITING an
ACK ends it OK; a NAK or the timer's expiry sends it again while attempts stand at PANEL_RETRIES or below, and otherwise ends it
with PANEL_NAK, or with PANEL_TIMEOUT and its fault. An end answers with address and attempts and frees the slot, unless the
transfer carries the discard mark, and the next transfer may start. With the discard mark the fault is recorded or counted and no
note is posted: R151's words, DEDUCED to hold also for a host that has attached again (notes/assumptions/22.md). That 100 µs are
4,000 ticks is DEDUCED (notes/assumptions/28.md). MODEL'S CHOICE: REPLY_TIMER_EXPIRY in AWAITING acts whatever the reply timer
counts (notes/assumptions/21.md). -/
def Obligations.PanelTransfer : Prop :=
  ∀ (s : State) (f : InFlight), s.panel.inFlight = some f →
    let h := f.transfer.host
    let done (status : Status) : State := if f.discard = true then s
      else (s.setPort h { s.port h with slots := (s.port h).slots - 1 }).answered h
        (responseTo .panelSend f.transfer.tag status (.panel f.transfer.address f.attempts))
    let next : Panel := s.panelStarted { s.panel with inFlight := none, timer := none }
    let fault : FaultRecord := ⟨.panelTimeout, some h, none, none, s.scan.frame, s.scan.frame, 1⟩
    let again : State := s.setPanel
      { s.panel with inFlight := some { f with phase := .sending, attempts := f.attempts + 1 }, timer := none }
    (f.phase = .sending → exec .panelSendEnd s = .next (s.setPanel
      { s.panel with
        inFlight := some { f with phase := .awaiting }, timer := some (s.conf.settings.panelTimeout * 4000) })) ∧
    (f.phase = .awaiting →
      exec .panelAck s = .next ((done .ok).setPanel next) ∧
      (f.attempts ≤ s.conf.settings.panelRetries →
        exec .panelNak s = .next again ∧ exec .replyTimerExpiry s = .next again) ∧
      (s.conf.settings.panelRetries < f.attempts →
        exec .panelNak s = .next ((done .panelNak).setPanel next) ∧
        (f.discard = false →
          exec .replyTimerExpiry s = .next ((reportFault fault (done .panelTimeout)).setPanel next)) ∧
        (f.discard = true → ∀ noted, reportFault fault s = noted →
          exec .replyTimerExpiry s = .next
            (State.setPanel { s with faults := noted.faults, hosts := noted.hosts } next))))

/-- R149: a reply is considered only while a transfer is in AWAITING. A reply taken first stops the timer and the expiry does not
happen; after an expiry taken first the reply is ignored; a late ACK that arrives while a retry is AWAITING is taken as that
retry's reply. -/
def Obligations.PanelReplyOnlyWhileAwaiting : Prop :=
  ∀ (s : State),
    ((∀ f, s.panel.inFlight = some f → f.phase = .sending) →
      exec .panelAck s = .next s ∧ exec .panelNak s = .next s) ∧
    ∀ f, s.panel.inFlight = some f → f.phase = .awaiting →
      (∀ t, (exec .panelAck s = .next t ∨ exec .panelNak s = .next t) →
        t.panel.timer = none ∧ exec .replyTimerExpiry t = .next t) ∧
      ∀ t, exec .replyTimerExpiry s = .next t →
        exec .panelAck t = .next t ∧ exec .panelNak t = .next t ∧
        (f.attempts ≤ s.conf.settings.panelRetries → f.discard = false →
          ∃ u w, exec .panelSendEnd t = .next u ∧ exec .panelAck u = .next w ∧
            (w.port f.transfer.host).responses = (s.port f.transfer.host).responses ++
              [responseTo .panelSend f.transfer.tag .ok (.panel f.transfer.address (f.attempts + 1))])

/-! ## What every step keeps -/

/-- The store's list keeps its one form, places strictly rising and inside the two banks of 800 by 480 cells (R2). -/
def Obligations.StoreKeepsItsForm : Prop := ∀ (s t : State), s.store.wf → step s = .next t → t.store.wf

/-- At one event a stored cell changes only where the write access in progress stores it, or at a power-on (R9, R11). With a
command waiting the step is that command's event. A tick is a run of events, one for each timer in turn, each nothing or what
a command other than POWER_ON does (MODEL'S CHOICE, notes/assumptions/7.md); the claim holds at each of them, for the access in
progress as it stands there, since one lapse of a tick may let a write be granted that the VOTE reset of a later one carries
out whole. -/
def Obligations.StoredCellsChangeOnlyByWrites : Prop :=
  ∀ (s t : State) (a : Nat), step s = .next t →
    (∀ c rest, s.pending = c :: rest → t.store.read a ≠ s.store.read a → c = .powerOn ∨ a ∈ writtenPlaces s) ∧
    (s.pending = [] →
      (s.tickAfter 0).store = s.store ∧ writtenPlaces (s.tickAfter 0) = writtenPlaces s ∧ s.tickAfter 7 = t ∧
      ∀ n, let x := s.tickAfter n
        let y := s.tickAfter (n + 1)
        (y = x ∨ ∃ c, c ≠ .powerOn ∧ exec c x = .next y) ∧
        (y.store.read a ≠ x.store.read a → a ∈ writtenPlaces x))

/-- The rectangles of panes that are not FREE, current and staged, never share a cell between two panes (R14). -/
def Obligations.PanesStayApart : Prop := ∀ (s t : State), s.panesApart → step s = .next t → t.panesApart

/-- Every pane record keeps the fields Table 2-1 gives its state, a DIRECT pane its front bank A (R5, R42), and owners of PENDING
and LIVE panes and guests are ACTIVE hosts, a guest never the owner (R13). Operations in service keep to the panes their hosts
have rights on, but for one that its access in progress holds until it is stopped (R33, R86). -/
def Obligations.PaneTableStaysLawful : Prop :=
  ∀ (s t : State), s.paneTableOk → step s = .next t → t.paneTableOk ∧ (s.workOk → t.workOk)

/-- R132: HATN of each port is asserted while its host's response queue or event queue holds something and deasserted while both
are empty, after every event; the start of an exchange leaves it, and every part reset empties both queues and deasserts it. -/
def Obligations.AttentionFollowsTheQueues : Prop :=
  (∀ (s t : State), s.attentionOk → step s = .next t → t.attentionOk) ∧
  (∀ (s t : State) (h : HostNo), exec (.exchangeStart h) s = .next t →
    (t.port h).responses = (s.port h).responses ∧ (t.port h).attention = (s.port h).attention) ∧
  ∀ (cause : Cause) (s : State) (h : HostNo), ((partReset cause s).port h).responses = [] ∧
    ((partReset cause s).queue h).events = [] ∧ ((partReset cause s).port h).attention = false

/-- Event queues hold at most 8 events, lost counts stay at 255 (R143); no two HELD fault records share kind, host and pane
(R135), and repeat counts stay within 1 to 255 (R137). -/
def Obligations.EventsAndFaultsStayBounded : Prop :=
  ∀ (s t : State), s.eventQueuesOk → s.faultLogOk → step s = .next t → t.eventQueuesOk ∧ t.faultLogOk

/-- Each host's slots in use are those of its requests that wait, its requests and responses never exceed 24, and a DETACH response
waits only for an access in progress (R117, R127, R128). -/
def Obligations.SlotsMatchTheWaitingRequests : Prop :=
  ∀ (s t : State), s.paneTableOk → s.slotsOk → step s = .next t → t.slotsOk

/-- The line queue holds at most 4 lines, fewer while a latch is in flight (R54, R58), the urgency follows its count (R65), and the
Parked List holds at most 8 accesses, all of the line in flight (R95). -/
def Obligations.LineQueueAndParkedListLaws : Prop :=
  ∀ (s t : State), s.lineQueueOk → s.parkedOk → step s = .next t → t.lineQueueOk ∧ t.parkedOk

/-- Everything the part holds names only places of the store, and then no step stops: the frame, the panes, the operations, the
latch and the access in progress lie inside the bounds of R2, R3 and Table 11-3. -/
def Obligations.NoStepLeavesTheStore : Prop :=
  ∀ (s : State), s.geometryOk → ∃ t, step s = .next t ∧ t.geometryOk

/-- A host with a frame budget is never granted more than 64 times the budget of cells in one frame (R81). -/
def Obligations.BudgetsHold : Prop := ∀ (s t : State), s.budgetsOk → step s = .next t → t.budgetsOk

end Obligations
end

