-- ==== Sys2Proof/Laws/State.lean ====
section
/-! SUPPORT. One lemma per field per update of the state: what an update leaves is what stood before, and what it sets is
what was given. The records of hosts and panes are read through their accessors. -/

set_option Elab.async false

namespace Sys2Proof.Machine

variable (s : State)

/-! ## setPending -/

@[simp] theorem State.pending_setPending (v : List Instr) : (s.setPending v).pending = v := rfl
@[simp] theorem State.choices_setPending (v : List Instr) : (s.setPending v).choices = s.choices := rfl
@[simp] theorem State.resetPin_setPending (v : List Instr) : (s.setPending v).resetPin = s.resetPin := rfl
@[simp] theorem State.store_setPending (v : List Instr) : (s.setPending v).store = s.store := rfl
@[simp] theorem State.scan_setPending (v : List Instr) : (s.setPending v).scan = s.scan := rfl
@[simp] theorem State.arbiter_setPending (v : List Instr) : (s.setPending v).arbiter = s.arbiter := rfl
@[simp] theorem State.parked_setPending (v : List Instr) : (s.setPending v).parked = s.parked := rfl
@[simp] theorem State.faults_setPending (v : List Instr) : (s.setPending v).faults = s.faults := rfl
@[simp] theorem State.panel_setPending (v : List Instr) : (s.setPending v).panel = s.panel := rfl
@[simp] theorem State.conf_setPending (v : List Instr) : (s.setPending v).conf = s.conf := rfl
@[simp] theorem State.ports_setPending (v : List Instr) : (s.setPending v).ports = s.ports := rfl
@[simp] theorem State.port_setPending (v : List Instr) (i : HostNo) : (s.setPending v).port i = s.port i := rfl
@[simp] theorem State.hosts_setPending (v : List Instr) : (s.setPending v).hosts = s.hosts := rfl
@[simp] theorem State.host_setPending (v : List Instr) (i : HostNo) : (s.setPending v).host i = s.host i := rfl
@[simp] theorem State.lanes_setPending (v : List Instr) : (s.setPending v).lanes = s.lanes := rfl
@[simp] theorem State.lane_setPending (v : List Instr) (i : HostNo) : (s.setPending v).lane i = s.lane i := rfl
@[simp] theorem State.events_setPending (v : List Instr) : (s.setPending v).events = s.events := rfl
@[simp] theorem State.queue_setPending (v : List Instr) (i : HostNo) : (s.setPending v).queue i = s.queue i := rfl
@[simp] theorem State.panes_setPending (v : List Instr) : (s.setPending v).panes = s.panes := rfl
@[simp] theorem State.pane_setPending (v : List Instr) (i : PaneNo) : (s.setPending v).pane i = s.pane i := rfl
@[simp] theorem State.setPending_setPending (v w : List Instr) : (s.setPending v).setPending w = s.setPending w := rfl
@[simp] theorem State.setPending_self : s.setPending s.pending = s := rfl

/-! ## setChoices -/

@[simp] theorem State.choices_setChoices (v : Nat) : (s.setChoices v).choices = v := rfl
@[simp] theorem State.pending_setChoices (v : Nat) : (s.setChoices v).pending = s.pending := rfl
@[simp] theorem State.resetPin_setChoices (v : Nat) : (s.setChoices v).resetPin = s.resetPin := rfl
@[simp] theorem State.store_setChoices (v : Nat) : (s.setChoices v).store = s.store := rfl
@[simp] theorem State.scan_setChoices (v : Nat) : (s.setChoices v).scan = s.scan := rfl
@[simp] theorem State.arbiter_setChoices (v : Nat) : (s.setChoices v).arbiter = s.arbiter := rfl
@[simp] theorem State.parked_setChoices (v : Nat) : (s.setChoices v).parked = s.parked := rfl
@[simp] theorem State.faults_setChoices (v : Nat) : (s.setChoices v).faults = s.faults := rfl
@[simp] theorem State.panel_setChoices (v : Nat) : (s.setChoices v).panel = s.panel := rfl
@[simp] theorem State.conf_setChoices (v : Nat) : (s.setChoices v).conf = s.conf := rfl
@[simp] theorem State.ports_setChoices (v : Nat) : (s.setChoices v).ports = s.ports := rfl
@[simp] theorem State.port_setChoices (v : Nat) (i : HostNo) : (s.setChoices v).port i = s.port i := rfl
@[simp] theorem State.hosts_setChoices (v : Nat) : (s.setChoices v).hosts = s.hosts := rfl
@[simp] theorem State.host_setChoices (v : Nat) (i : HostNo) : (s.setChoices v).host i = s.host i := rfl
@[simp] theorem State.lanes_setChoices (v : Nat) : (s.setChoices v).lanes = s.lanes := rfl
@[simp] theorem State.lane_setChoices (v : Nat) (i : HostNo) : (s.setChoices v).lane i = s.lane i := rfl
@[simp] theorem State.events_setChoices (v : Nat) : (s.setChoices v).events = s.events := rfl
@[simp] theorem State.queue_setChoices (v : Nat) (i : HostNo) : (s.setChoices v).queue i = s.queue i := rfl
@[simp] theorem State.panes_setChoices (v : Nat) : (s.setChoices v).panes = s.panes := rfl
@[simp] theorem State.pane_setChoices (v : Nat) (i : PaneNo) : (s.setChoices v).pane i = s.pane i := rfl
@[simp] theorem State.setChoices_setChoices (v w : Nat) : (s.setChoices v).setChoices w = s.setChoices w := rfl
@[simp] theorem State.setChoices_self : s.setChoices s.choices = s := rfl

/-! ## setResetPin -/

@[simp] theorem State.resetPin_setResetPin (v : Bool) : (s.setResetPin v).resetPin = v := rfl
@[simp] theorem State.pending_setResetPin (v : Bool) : (s.setResetPin v).pending = s.pending := rfl
@[simp] theorem State.choices_setResetPin (v : Bool) : (s.setResetPin v).choices = s.choices := rfl
@[simp] theorem State.store_setResetPin (v : Bool) : (s.setResetPin v).store = s.store := rfl
@[simp] theorem State.scan_setResetPin (v : Bool) : (s.setResetPin v).scan = s.scan := rfl
@[simp] theorem State.arbiter_setResetPin (v : Bool) : (s.setResetPin v).arbiter = s.arbiter := rfl
@[simp] theorem State.parked_setResetPin (v : Bool) : (s.setResetPin v).parked = s.parked := rfl
@[simp] theorem State.faults_setResetPin (v : Bool) : (s.setResetPin v).faults = s.faults := rfl
@[simp] theorem State.panel_setResetPin (v : Bool) : (s.setResetPin v).panel = s.panel := rfl
@[simp] theorem State.conf_setResetPin (v : Bool) : (s.setResetPin v).conf = s.conf := rfl
@[simp] theorem State.ports_setResetPin (v : Bool) : (s.setResetPin v).ports = s.ports := rfl
@[simp] theorem State.port_setResetPin (v : Bool) (i : HostNo) : (s.setResetPin v).port i = s.port i := rfl
@[simp] theorem State.hosts_setResetPin (v : Bool) : (s.setResetPin v).hosts = s.hosts := rfl
@[simp] theorem State.host_setResetPin (v : Bool) (i : HostNo) : (s.setResetPin v).host i = s.host i := rfl
@[simp] theorem State.lanes_setResetPin (v : Bool) : (s.setResetPin v).lanes = s.lanes := rfl
@[simp] theorem State.lane_setResetPin (v : Bool) (i : HostNo) : (s.setResetPin v).lane i = s.lane i := rfl
@[simp] theorem State.events_setResetPin (v : Bool) : (s.setResetPin v).events = s.events := rfl
@[simp] theorem State.queue_setResetPin (v : Bool) (i : HostNo) : (s.setResetPin v).queue i = s.queue i := rfl
@[simp] theorem State.panes_setResetPin (v : Bool) : (s.setResetPin v).panes = s.panes := rfl
@[simp] theorem State.pane_setResetPin (v : Bool) (i : PaneNo) : (s.setResetPin v).pane i = s.pane i := rfl
@[simp] theorem State.setResetPin_setResetPin (v w : Bool) : (s.setResetPin v).setResetPin w = s.setResetPin w := rfl
@[simp] theorem State.setResetPin_self : s.setResetPin s.resetPin = s := rfl

/-! ## setStore -/

@[simp] theorem State.store_setStore (v : CellStore) : (s.setStore v).store = v := rfl
@[simp] theorem State.pending_setStore (v : CellStore) : (s.setStore v).pending = s.pending := rfl
@[simp] theorem State.choices_setStore (v : CellStore) : (s.setStore v).choices = s.choices := rfl
@[simp] theorem State.resetPin_setStore (v : CellStore) : (s.setStore v).resetPin = s.resetPin := rfl
@[simp] theorem State.scan_setStore (v : CellStore) : (s.setStore v).scan = s.scan := rfl
@[simp] theorem State.arbiter_setStore (v : CellStore) : (s.setStore v).arbiter = s.arbiter := rfl
@[simp] theorem State.parked_setStore (v : CellStore) : (s.setStore v).parked = s.parked := rfl
@[simp] theorem State.faults_setStore (v : CellStore) : (s.setStore v).faults = s.faults := rfl
@[simp] theorem State.panel_setStore (v : CellStore) : (s.setStore v).panel = s.panel := rfl
@[simp] theorem State.conf_setStore (v : CellStore) : (s.setStore v).conf = s.conf := rfl
@[simp] theorem State.ports_setStore (v : CellStore) : (s.setStore v).ports = s.ports := rfl
@[simp] theorem State.port_setStore (v : CellStore) (i : HostNo) : (s.setStore v).port i = s.port i := rfl
@[simp] theorem State.hosts_setStore (v : CellStore) : (s.setStore v).hosts = s.hosts := rfl
@[simp] theorem State.host_setStore (v : CellStore) (i : HostNo) : (s.setStore v).host i = s.host i := rfl
@[simp] theorem State.lanes_setStore (v : CellStore) : (s.setStore v).lanes = s.lanes := rfl
@[simp] theorem State.lane_setStore (v : CellStore) (i : HostNo) : (s.setStore v).lane i = s.lane i := rfl
@[simp] theorem State.events_setStore (v : CellStore) : (s.setStore v).events = s.events := rfl
@[simp] theorem State.queue_setStore (v : CellStore) (i : HostNo) : (s.setStore v).queue i = s.queue i := rfl
@[simp] theorem State.panes_setStore (v : CellStore) : (s.setStore v).panes = s.panes := rfl
@[simp] theorem State.pane_setStore (v : CellStore) (i : PaneNo) : (s.setStore v).pane i = s.pane i := rfl
@[simp] theorem State.setStore_setStore (v w : CellStore) : (s.setStore v).setStore w = s.setStore w := rfl
@[simp] theorem State.setStore_self : s.setStore s.store = s := rfl

/-! ## setScan -/

@[simp] theorem State.scan_setScan (v : Scan) : (s.setScan v).scan = v := rfl
@[simp] theorem State.pending_setScan (v : Scan) : (s.setScan v).pending = s.pending := rfl
@[simp] theorem State.choices_setScan (v : Scan) : (s.setScan v).choices = s.choices := rfl
@[simp] theorem State.resetPin_setScan (v : Scan) : (s.setScan v).resetPin = s.resetPin := rfl
@[simp] theorem State.store_setScan (v : Scan) : (s.setScan v).store = s.store := rfl
@[simp] theorem State.arbiter_setScan (v : Scan) : (s.setScan v).arbiter = s.arbiter := rfl
@[simp] theorem State.parked_setScan (v : Scan) : (s.setScan v).parked = s.parked := rfl
@[simp] theorem State.faults_setScan (v : Scan) : (s.setScan v).faults = s.faults := rfl
@[simp] theorem State.panel_setScan (v : Scan) : (s.setScan v).panel = s.panel := rfl
@[simp] theorem State.conf_setScan (v : Scan) : (s.setScan v).conf = s.conf := rfl
@[simp] theorem State.ports_setScan (v : Scan) : (s.setScan v).ports = s.ports := rfl
@[simp] theorem State.port_setScan (v : Scan) (i : HostNo) : (s.setScan v).port i = s.port i := rfl
@[simp] theorem State.hosts_setScan (v : Scan) : (s.setScan v).hosts = s.hosts := rfl
@[simp] theorem State.host_setScan (v : Scan) (i : HostNo) : (s.setScan v).host i = s.host i := rfl
@[simp] theorem State.lanes_setScan (v : Scan) : (s.setScan v).lanes = s.lanes := rfl
@[simp] theorem State.lane_setScan (v : Scan) (i : HostNo) : (s.setScan v).lane i = s.lane i := rfl
@[simp] theorem State.events_setScan (v : Scan) : (s.setScan v).events = s.events := rfl
@[simp] theorem State.queue_setScan (v : Scan) (i : HostNo) : (s.setScan v).queue i = s.queue i := rfl
@[simp] theorem State.panes_setScan (v : Scan) : (s.setScan v).panes = s.panes := rfl
@[simp] theorem State.pane_setScan (v : Scan) (i : PaneNo) : (s.setScan v).pane i = s.pane i := rfl
@[simp] theorem State.setScan_setScan (v w : Scan) : (s.setScan v).setScan w = s.setScan w := rfl
@[simp] theorem State.setScan_self : s.setScan s.scan = s := rfl

/-! ## setArbiter -/

@[simp] theorem State.arbiter_setArbiter (v : Arbiter) : (s.setArbiter v).arbiter = v := rfl
@[simp] theorem State.pending_setArbiter (v : Arbiter) : (s.setArbiter v).pending = s.pending := rfl
@[simp] theorem State.choices_setArbiter (v : Arbiter) : (s.setArbiter v).choices = s.choices := rfl
@[simp] theorem State.resetPin_setArbiter (v : Arbiter) : (s.setArbiter v).resetPin = s.resetPin := rfl
@[simp] theorem State.store_setArbiter (v : Arbiter) : (s.setArbiter v).store = s.store := rfl
@[simp] theorem State.scan_setArbiter (v : Arbiter) : (s.setArbiter v).scan = s.scan := rfl
@[simp] theorem State.parked_setArbiter (v : Arbiter) : (s.setArbiter v).parked = s.parked := rfl
@[simp] theorem State.faults_setArbiter (v : Arbiter) : (s.setArbiter v).faults = s.faults := rfl
@[simp] theorem State.panel_setArbiter (v : Arbiter) : (s.setArbiter v).panel = s.panel := rfl
@[simp] theorem State.conf_setArbiter (v : Arbiter) : (s.setArbiter v).conf = s.conf := rfl
@[simp] theorem State.ports_setArbiter (v : Arbiter) : (s.setArbiter v).ports = s.ports := rfl
@[simp] theorem State.port_setArbiter (v : Arbiter) (i : HostNo) : (s.setArbiter v).port i = s.port i := rfl
@[simp] theorem State.hosts_setArbiter (v : Arbiter) : (s.setArbiter v).hosts = s.hosts := rfl
@[simp] theorem State.host_setArbiter (v : Arbiter) (i : HostNo) : (s.setArbiter v).host i = s.host i := rfl
@[simp] theorem State.lanes_setArbiter (v : Arbiter) : (s.setArbiter v).lanes = s.lanes := rfl
@[simp] theorem State.lane_setArbiter (v : Arbiter) (i : HostNo) : (s.setArbiter v).lane i = s.lane i := rfl
@[simp] theorem State.events_setArbiter (v : Arbiter) : (s.setArbiter v).events = s.events := rfl
@[simp] theorem State.queue_setArbiter (v : Arbiter) (i : HostNo) : (s.setArbiter v).queue i = s.queue i := rfl
@[simp] theorem State.panes_setArbiter (v : Arbiter) : (s.setArbiter v).panes = s.panes := rfl
@[simp] theorem State.pane_setArbiter (v : Arbiter) (i : PaneNo) : (s.setArbiter v).pane i = s.pane i := rfl
@[simp] theorem State.setArbiter_setArbiter (v w : Arbiter) : (s.setArbiter v).setArbiter w = s.setArbiter w := rfl
@[simp] theorem State.setArbiter_self : s.setArbiter s.arbiter = s := rfl

/-! ## setParked -/

@[simp] theorem State.parked_setParked (v : List Parked) : (s.setParked v).parked = v := rfl
@[simp] theorem State.pending_setParked (v : List Parked) : (s.setParked v).pending = s.pending := rfl
@[simp] theorem State.choices_setParked (v : List Parked) : (s.setParked v).choices = s.choices := rfl
@[simp] theorem State.resetPin_setParked (v : List Parked) : (s.setParked v).resetPin = s.resetPin := rfl
@[simp] theorem State.store_setParked (v : List Parked) : (s.setParked v).store = s.store := rfl
@[simp] theorem State.scan_setParked (v : List Parked) : (s.setParked v).scan = s.scan := rfl
@[simp] theorem State.arbiter_setParked (v : List Parked) : (s.setParked v).arbiter = s.arbiter := rfl
@[simp] theorem State.faults_setParked (v : List Parked) : (s.setParked v).faults = s.faults := rfl
@[simp] theorem State.panel_setParked (v : List Parked) : (s.setParked v).panel = s.panel := rfl
@[simp] theorem State.conf_setParked (v : List Parked) : (s.setParked v).conf = s.conf := rfl
@[simp] theorem State.ports_setParked (v : List Parked) : (s.setParked v).ports = s.ports := rfl
@[simp] theorem State.port_setParked (v : List Parked) (i : HostNo) : (s.setParked v).port i = s.port i := rfl
@[simp] theorem State.hosts_setParked (v : List Parked) : (s.setParked v).hosts = s.hosts := rfl
@[simp] theorem State.host_setParked (v : List Parked) (i : HostNo) : (s.setParked v).host i = s.host i := rfl
@[simp] theorem State.lanes_setParked (v : List Parked) : (s.setParked v).lanes = s.lanes := rfl
@[simp] theorem State.lane_setParked (v : List Parked) (i : HostNo) : (s.setParked v).lane i = s.lane i := rfl
@[simp] theorem State.events_setParked (v : List Parked) : (s.setParked v).events = s.events := rfl
@[simp] theorem State.queue_setParked (v : List Parked) (i : HostNo) : (s.setParked v).queue i = s.queue i := rfl
@[simp] theorem State.panes_setParked (v : List Parked) : (s.setParked v).panes = s.panes := rfl
@[simp] theorem State.pane_setParked (v : List Parked) (i : PaneNo) : (s.setParked v).pane i = s.pane i := rfl
@[simp] theorem State.setParked_setParked (v w : List Parked) : (s.setParked v).setParked w = s.setParked w := rfl
@[simp] theorem State.setParked_self : s.setParked s.parked = s := rfl

/-! ## setFaults -/

@[simp] theorem State.faults_setFaults (v : FaultLog) : (s.setFaults v).faults = v := rfl
@[simp] theorem State.pending_setFaults (v : FaultLog) : (s.setFaults v).pending = s.pending := rfl
@[simp] theorem State.choices_setFaults (v : FaultLog) : (s.setFaults v).choices = s.choices := rfl
@[simp] theorem State.resetPin_setFaults (v : FaultLog) : (s.setFaults v).resetPin = s.resetPin := rfl
@[simp] theorem State.store_setFaults (v : FaultLog) : (s.setFaults v).store = s.store := rfl
@[simp] theorem State.scan_setFaults (v : FaultLog) : (s.setFaults v).scan = s.scan := rfl
@[simp] theorem State.arbiter_setFaults (v : FaultLog) : (s.setFaults v).arbiter = s.arbiter := rfl
@[simp] theorem State.parked_setFaults (v : FaultLog) : (s.setFaults v).parked = s.parked := rfl
@[simp] theorem State.panel_setFaults (v : FaultLog) : (s.setFaults v).panel = s.panel := rfl
@[simp] theorem State.conf_setFaults (v : FaultLog) : (s.setFaults v).conf = s.conf := rfl
@[simp] theorem State.ports_setFaults (v : FaultLog) : (s.setFaults v).ports = s.ports := rfl
@[simp] theorem State.port_setFaults (v : FaultLog) (i : HostNo) : (s.setFaults v).port i = s.port i := rfl
@[simp] theorem State.hosts_setFaults (v : FaultLog) : (s.setFaults v).hosts = s.hosts := rfl
@[simp] theorem State.host_setFaults (v : FaultLog) (i : HostNo) : (s.setFaults v).host i = s.host i := rfl
@[simp] theorem State.lanes_setFaults (v : FaultLog) : (s.setFaults v).lanes = s.lanes := rfl
@[simp] theorem State.lane_setFaults (v : FaultLog) (i : HostNo) : (s.setFaults v).lane i = s.lane i := rfl
@[simp] theorem State.events_setFaults (v : FaultLog) : (s.setFaults v).events = s.events := rfl
@[simp] theorem State.queue_setFaults (v : FaultLog) (i : HostNo) : (s.setFaults v).queue i = s.queue i := rfl
@[simp] theorem State.panes_setFaults (v : FaultLog) : (s.setFaults v).panes = s.panes := rfl
@[simp] theorem State.pane_setFaults (v : FaultLog) (i : PaneNo) : (s.setFaults v).pane i = s.pane i := rfl
@[simp] theorem State.setFaults_setFaults (v w : FaultLog) : (s.setFaults v).setFaults w = s.setFaults w := rfl
@[simp] theorem State.setFaults_self : s.setFaults s.faults = s := rfl

/-! ## setPanel -/

@[simp] theorem State.panel_setPanel (v : Panel) : (s.setPanel v).panel = v := rfl
@[simp] theorem State.pending_setPanel (v : Panel) : (s.setPanel v).pending = s.pending := rfl
@[simp] theorem State.choices_setPanel (v : Panel) : (s.setPanel v).choices = s.choices := rfl
@[simp] theorem State.resetPin_setPanel (v : Panel) : (s.setPanel v).resetPin = s.resetPin := rfl
@[simp] theorem State.store_setPanel (v : Panel) : (s.setPanel v).store = s.store := rfl
@[simp] theorem State.scan_setPanel (v : Panel) : (s.setPanel v).scan = s.scan := rfl
@[simp] theorem State.arbiter_setPanel (v : Panel) : (s.setPanel v).arbiter = s.arbiter := rfl
@[simp] theorem State.parked_setPanel (v : Panel) : (s.setPanel v).parked = s.parked := rfl
@[simp] theorem State.faults_setPanel (v : Panel) : (s.setPanel v).faults = s.faults := rfl
@[simp] theorem State.conf_setPanel (v : Panel) : (s.setPanel v).conf = s.conf := rfl
@[simp] theorem State.ports_setPanel (v : Panel) : (s.setPanel v).ports = s.ports := rfl
@[simp] theorem State.port_setPanel (v : Panel) (i : HostNo) : (s.setPanel v).port i = s.port i := rfl
@[simp] theorem State.hosts_setPanel (v : Panel) : (s.setPanel v).hosts = s.hosts := rfl
@[simp] theorem State.host_setPanel (v : Panel) (i : HostNo) : (s.setPanel v).host i = s.host i := rfl
@[simp] theorem State.lanes_setPanel (v : Panel) : (s.setPanel v).lanes = s.lanes := rfl
@[simp] theorem State.lane_setPanel (v : Panel) (i : HostNo) : (s.setPanel v).lane i = s.lane i := rfl
@[simp] theorem State.events_setPanel (v : Panel) : (s.setPanel v).events = s.events := rfl
@[simp] theorem State.queue_setPanel (v : Panel) (i : HostNo) : (s.setPanel v).queue i = s.queue i := rfl
@[simp] theorem State.panes_setPanel (v : Panel) : (s.setPanel v).panes = s.panes := rfl
@[simp] theorem State.pane_setPanel (v : Panel) (i : PaneNo) : (s.setPanel v).pane i = s.pane i := rfl
@[simp] theorem State.setPanel_setPanel (v w : Panel) : (s.setPanel v).setPanel w = s.setPanel w := rfl
@[simp] theorem State.setPanel_self : s.setPanel s.panel = s := rfl

/-! ## setConf -/

@[simp] theorem State.conf_setConf (v : ConfigBlock) : (s.setConf v).conf = v := rfl
@[simp] theorem State.pending_setConf (v : ConfigBlock) : (s.setConf v).pending = s.pending := rfl
@[simp] theorem State.choices_setConf (v : ConfigBlock) : (s.setConf v).choices = s.choices := rfl
@[simp] theorem State.resetPin_setConf (v : ConfigBlock) : (s.setConf v).resetPin = s.resetPin := rfl
@[simp] theorem State.store_setConf (v : ConfigBlock) : (s.setConf v).store = s.store := rfl
@[simp] theorem State.scan_setConf (v : ConfigBlock) : (s.setConf v).scan = s.scan := rfl
@[simp] theorem State.arbiter_setConf (v : ConfigBlock) : (s.setConf v).arbiter = s.arbiter := rfl
@[simp] theorem State.parked_setConf (v : ConfigBlock) : (s.setConf v).parked = s.parked := rfl
@[simp] theorem State.faults_setConf (v : ConfigBlock) : (s.setConf v).faults = s.faults := rfl
@[simp] theorem State.panel_setConf (v : ConfigBlock) : (s.setConf v).panel = s.panel := rfl
@[simp] theorem State.ports_setConf (v : ConfigBlock) : (s.setConf v).ports = s.ports := rfl
@[simp] theorem State.port_setConf (v : ConfigBlock) (i : HostNo) : (s.setConf v).port i = s.port i := rfl
@[simp] theorem State.hosts_setConf (v : ConfigBlock) : (s.setConf v).hosts = s.hosts := rfl
@[simp] theorem State.host_setConf (v : ConfigBlock) (i : HostNo) : (s.setConf v).host i = s.host i := rfl
@[simp] theorem State.lanes_setConf (v : ConfigBlock) : (s.setConf v).lanes = s.lanes := rfl
@[simp] theorem State.lane_setConf (v : ConfigBlock) (i : HostNo) : (s.setConf v).lane i = s.lane i := rfl
@[simp] theorem State.events_setConf (v : ConfigBlock) : (s.setConf v).events = s.events := rfl
@[simp] theorem State.queue_setConf (v : ConfigBlock) (i : HostNo) : (s.setConf v).queue i = s.queue i := rfl
@[simp] theorem State.panes_setConf (v : ConfigBlock) : (s.setConf v).panes = s.panes := rfl
@[simp] theorem State.pane_setConf (v : ConfigBlock) (i : PaneNo) : (s.setConf v).pane i = s.pane i := rfl
@[simp] theorem State.setConf_setConf (v w : ConfigBlock) : (s.setConf v).setConf w = s.setConf w := rfl
@[simp] theorem State.setConf_self : s.setConf s.conf = s := rfl

/-! ## setPort -/

@[simp] theorem State.ports_setPort (i : HostNo) (v : Port) : (s.setPort i v).ports = s.ports.set i v := rfl
@[simp] theorem State.port_setPort_same (i : HostNo) (v : Port) : (s.setPort i v).port i = v := by
  simp [State.port, State.setPort]
@[simp] theorem State.port_setPort_ne (i j : HostNo) (v : Port) (h : i ≠ j) : (s.setPort i v).port j = s.port j := by
  simp [State.port, State.setPort, Fin.val_inj, h]
theorem State.port_setPort (i j : HostNo) (v : Port) : (s.setPort i v).port j = if i = j then v else s.port j := by
  by_cases h : i = j
  · subst h; simp
  · simp [h]
@[simp] theorem State.setPort_setPort (i : HostNo) (v w : Port) : (s.setPort i v).setPort i w = s.setPort i w := by
  simp [State.setPort]
@[simp] theorem State.setPort_self (i : HostNo) : s.setPort i (s.port i) = s := by
  simp [State.setPort, State.port]
@[simp] theorem State.pending_setPort (i : HostNo) (v : Port) : (s.setPort i v).pending = s.pending := rfl
@[simp] theorem State.choices_setPort (i : HostNo) (v : Port) : (s.setPort i v).choices = s.choices := rfl
@[simp] theorem State.resetPin_setPort (i : HostNo) (v : Port) : (s.setPort i v).resetPin = s.resetPin := rfl
@[simp] theorem State.store_setPort (i : HostNo) (v : Port) : (s.setPort i v).store = s.store := rfl
@[simp] theorem State.scan_setPort (i : HostNo) (v : Port) : (s.setPort i v).scan = s.scan := rfl
@[simp] theorem State.arbiter_setPort (i : HostNo) (v : Port) : (s.setPort i v).arbiter = s.arbiter := rfl
@[simp] theorem State.parked_setPort (i : HostNo) (v : Port) : (s.setPort i v).parked = s.parked := rfl
@[simp] theorem State.faults_setPort (i : HostNo) (v : Port) : (s.setPort i v).faults = s.faults := rfl
@[simp] theorem State.panel_setPort (i : HostNo) (v : Port) : (s.setPort i v).panel = s.panel := rfl
@[simp] theorem State.conf_setPort (i : HostNo) (v : Port) : (s.setPort i v).conf = s.conf := rfl
@[simp] theorem State.hosts_setPort (i : HostNo) (v : Port) : (s.setPort i v).hosts = s.hosts := rfl
@[simp] theorem State.host_setPort (i : HostNo) (v : Port) (j : HostNo) : (s.setPort i v).host j = s.host j := rfl
@[simp] theorem State.lanes_setPort (i : HostNo) (v : Port) : (s.setPort i v).lanes = s.lanes := rfl
@[simp] theorem State.lane_setPort (i : HostNo) (v : Port) (j : HostNo) : (s.setPort i v).lane j = s.lane j := rfl
@[simp] theorem State.events_setPort (i : HostNo) (v : Port) : (s.setPort i v).events = s.events := rfl
@[simp] theorem State.queue_setPort (i : HostNo) (v : Port) (j : HostNo) : (s.setPort i v).queue j = s.queue j := rfl
@[simp] theorem State.panes_setPort (i : HostNo) (v : Port) : (s.setPort i v).panes = s.panes := rfl
@[simp] theorem State.pane_setPort (i : HostNo) (v : Port) (j : PaneNo) : (s.setPort i v).pane j = s.pane j := rfl

/-! ## setHost -/

@[simp] theorem State.hosts_setHost (i : HostNo) (v : HostRecord) : (s.setHost i v).hosts = s.hosts.set i v := rfl
@[simp] theorem State.host_setHost_same (i : HostNo) (v : HostRecord) : (s.setHost i v).host i = v := by
  simp [State.host, State.setHost]
@[simp] theorem State.host_setHost_ne (i j : HostNo) (v : HostRecord) (h : i ≠ j) : (s.setHost i v).host j = s.host j := by
  simp [State.host, State.setHost, Fin.val_inj, h]
theorem State.host_setHost (i j : HostNo) (v : HostRecord) : (s.setHost i v).host j = if i = j then v else s.host j := by
  by_cases h : i = j
  · subst h; simp
  · simp [h]
@[simp] theorem State.setHost_setHost (i : HostNo) (v w : HostRecord) : (s.setHost i v).setHost i w = s.setHost i w := by
  simp [State.setHost]
@[simp] theorem State.setHost_self (i : HostNo) : s.setHost i (s.host i) = s := by
  simp [State.setHost, State.host]
@[simp] theorem State.pending_setHost (i : HostNo) (v : HostRecord) : (s.setHost i v).pending = s.pending := rfl
@[simp] theorem State.choices_setHost (i : HostNo) (v : HostRecord) : (s.setHost i v).choices = s.choices := rfl
@[simp] theorem State.resetPin_setHost (i : HostNo) (v : HostRecord) : (s.setHost i v).resetPin = s.resetPin := rfl
@[simp] theorem State.store_setHost (i : HostNo) (v : HostRecord) : (s.setHost i v).store = s.store := rfl
@[simp] theorem State.scan_setHost (i : HostNo) (v : HostRecord) : (s.setHost i v).scan = s.scan := rfl
@[simp] theorem State.arbiter_setHost (i : HostNo) (v : HostRecord) : (s.setHost i v).arbiter = s.arbiter := rfl
@[simp] theorem State.parked_setHost (i : HostNo) (v : HostRecord) : (s.setHost i v).parked = s.parked := rfl
@[simp] theorem State.faults_setHost (i : HostNo) (v : HostRecord) : (s.setHost i v).faults = s.faults := rfl
@[simp] theorem State.panel_setHost (i : HostNo) (v : HostRecord) : (s.setHost i v).panel = s.panel := rfl
@[simp] theorem State.conf_setHost (i : HostNo) (v : HostRecord) : (s.setHost i v).conf = s.conf := rfl
@[simp] theorem State.ports_setHost (i : HostNo) (v : HostRecord) : (s.setHost i v).ports = s.ports := rfl
@[simp] theorem State.port_setHost (i : HostNo) (v : HostRecord) (j : HostNo) : (s.setHost i v).port j = s.port j := rfl
@[simp] theorem State.lanes_setHost (i : HostNo) (v : HostRecord) : (s.setHost i v).lanes = s.lanes := rfl
@[simp] theorem State.lane_setHost (i : HostNo) (v : HostRecord) (j : HostNo) : (s.setHost i v).lane j = s.lane j := rfl
@[simp] theorem State.events_setHost (i : HostNo) (v : HostRecord) : (s.setHost i v).events = s.events := rfl
@[simp] theorem State.queue_setHost (i : HostNo) (v : HostRecord) (j : HostNo) : (s.setHost i v).queue j = s.queue j := rfl
@[simp] theorem State.panes_setHost (i : HostNo) (v : HostRecord) : (s.setHost i v).panes = s.panes := rfl
@[simp] theorem State.pane_setHost (i : HostNo) (v : HostRecord) (j : PaneNo) : (s.setHost i v).pane j = s.pane j := rfl

/-! ## setLane -/

@[simp] theorem State.lanes_setLane (i : HostNo) (v : Lane) : (s.setLane i v).lanes = s.lanes.set i v := rfl
@[simp] theorem State.lane_setLane_same (i : HostNo) (v : Lane) : (s.setLane i v).lane i = v := by
  simp [State.lane, State.setLane]
@[simp] theorem State.lane_setLane_ne (i j : HostNo) (v : Lane) (h : i ≠ j) : (s.setLane i v).lane j = s.lane j := by
  simp [State.lane, State.setLane, Fin.val_inj, h]
theorem State.lane_setLane (i j : HostNo) (v : Lane) : (s.setLane i v).lane j = if i = j then v else s.lane j := by
  by_cases h : i = j
  · subst h; simp
  · simp [h]
@[simp] theorem State.setLane_setLane (i : HostNo) (v w : Lane) : (s.setLane i v).setLane i w = s.setLane i w := by
  simp [State.setLane]
@[simp] theorem State.setLane_self (i : HostNo) : s.setLane i (s.lane i) = s := by
  simp [State.setLane, State.lane]
@[simp] theorem State.pending_setLane (i : HostNo) (v : Lane) : (s.setLane i v).pending = s.pending := rfl
@[simp] theorem State.choices_setLane (i : HostNo) (v : Lane) : (s.setLane i v).choices = s.choices := rfl
@[simp] theorem State.resetPin_setLane (i : HostNo) (v : Lane) : (s.setLane i v).resetPin = s.resetPin := rfl
@[simp] theorem State.store_setLane (i : HostNo) (v : Lane) : (s.setLane i v).store = s.store := rfl
@[simp] theorem State.scan_setLane (i : HostNo) (v : Lane) : (s.setLane i v).scan = s.scan := rfl
@[simp] theorem State.arbiter_setLane (i : HostNo) (v : Lane) : (s.setLane i v).arbiter = s.arbiter := rfl
@[simp] theorem State.parked_setLane (i : HostNo) (v : Lane) : (s.setLane i v).parked = s.parked := rfl
@[simp] theorem State.faults_setLane (i : HostNo) (v : Lane) : (s.setLane i v).faults = s.faults := rfl
@[simp] theorem State.panel_setLane (i : HostNo) (v : Lane) : (s.setLane i v).panel = s.panel := rfl
@[simp] theorem State.conf_setLane (i : HostNo) (v : Lane) : (s.setLane i v).conf = s.conf := rfl
@[simp] theorem State.ports_setLane (i : HostNo) (v : Lane) : (s.setLane i v).ports = s.ports := rfl
@[simp] theorem State.port_setLane (i : HostNo) (v : Lane) (j : HostNo) : (s.setLane i v).port j = s.port j := rfl
@[simp] theorem State.hosts_setLane (i : HostNo) (v : Lane) : (s.setLane i v).hosts = s.hosts := rfl
@[simp] theorem State.host_setLane (i : HostNo) (v : Lane) (j : HostNo) : (s.setLane i v).host j = s.host j := rfl
@[simp] theorem State.events_setLane (i : HostNo) (v : Lane) : (s.setLane i v).events = s.events := rfl
@[simp] theorem State.queue_setLane (i : HostNo) (v : Lane) (j : HostNo) : (s.setLane i v).queue j = s.queue j := rfl
@[simp] theorem State.panes_setLane (i : HostNo) (v : Lane) : (s.setLane i v).panes = s.panes := rfl
@[simp] theorem State.pane_setLane (i : HostNo) (v : Lane) (j : PaneNo) : (s.setLane i v).pane j = s.pane j := rfl

/-! ## setQueue -/

@[simp] theorem State.events_setQueue (i : HostNo) (v : EventQueue) : (s.setQueue i v).events = s.events.set i v := rfl
@[simp] theorem State.queue_setQueue_same (i : HostNo) (v : EventQueue) : (s.setQueue i v).queue i = v := by
  simp [State.queue, State.setQueue]
@[simp] theorem State.queue_setQueue_ne (i j : HostNo) (v : EventQueue) (h : i ≠ j) : (s.setQueue i v).queue j = s.queue j := by
  simp [State.queue, State.setQueue, Fin.val_inj, h]
theorem State.queue_setQueue (i j : HostNo) (v : EventQueue) : (s.setQueue i v).queue j = if i = j then v else s.queue j := by
  by_cases h : i = j
  · subst h; simp
  · simp [h]
@[simp] theorem State.setQueue_setQueue (i : HostNo) (v w : EventQueue) : (s.setQueue i v).setQueue i w = s.setQueue i w := by
  simp [State.setQueue]
@[simp] theorem State.setQueue_self (i : HostNo) : s.setQueue i (s.queue i) = s := by
  simp [State.setQueue, State.queue]
@[simp] theorem State.pending_setQueue (i : HostNo) (v : EventQueue) : (s.setQueue i v).pending = s.pending := rfl
@[simp] theorem State.choices_setQueue (i : HostNo) (v : EventQueue) : (s.setQueue i v).choices = s.choices := rfl
@[simp] theorem State.resetPin_setQueue (i : HostNo) (v : EventQueue) : (s.setQueue i v).resetPin = s.resetPin := rfl
@[simp] theorem State.store_setQueue (i : HostNo) (v : EventQueue) : (s.setQueue i v).store = s.store := rfl
@[simp] theorem State.scan_setQueue (i : HostNo) (v : EventQueue) : (s.setQueue i v).scan = s.scan := rfl
@[simp] theorem State.arbiter_setQueue (i : HostNo) (v : EventQueue) : (s.setQueue i v).arbiter = s.arbiter := rfl
@[simp] theorem State.parked_setQueue (i : HostNo) (v : EventQueue) : (s.setQueue i v).parked = s.parked := rfl
@[simp] theorem State.faults_setQueue (i : HostNo) (v : EventQueue) : (s.setQueue i v).faults = s.faults := rfl
@[simp] theorem State.panel_setQueue (i : HostNo) (v : EventQueue) : (s.setQueue i v).panel = s.panel := rfl
@[simp] theorem State.conf_setQueue (i : HostNo) (v : EventQueue) : (s.setQueue i v).conf = s.conf := rfl
@[simp] theorem State.ports_setQueue (i : HostNo) (v : EventQueue) : (s.setQueue i v).ports = s.ports := rfl
@[simp] theorem State.port_setQueue (i : HostNo) (v : EventQueue) (j : HostNo) : (s.setQueue i v).port j = s.port j := rfl
@[simp] theorem State.hosts_setQueue (i : HostNo) (v : EventQueue) : (s.setQueue i v).hosts = s.hosts := rfl
@[simp] theorem State.host_setQueue (i : HostNo) (v : EventQueue) (j : HostNo) : (s.setQueue i v).host j = s.host j := rfl
@[simp] theorem State.lanes_setQueue (i : HostNo) (v : EventQueue) : (s.setQueue i v).lanes = s.lanes := rfl
@[simp] theorem State.lane_setQueue (i : HostNo) (v : EventQueue) (j : HostNo) : (s.setQueue i v).lane j = s.lane j := rfl
@[simp] theorem State.panes_setQueue (i : HostNo) (v : EventQueue) : (s.setQueue i v).panes = s.panes := rfl
@[simp] theorem State.pane_setQueue (i : HostNo) (v : EventQueue) (j : PaneNo) : (s.setQueue i v).pane j = s.pane j := rfl

/-! ## setPane -/

@[simp] theorem State.panes_setPane (i : PaneNo) (v : Pane) : (s.setPane i v).panes = s.panes.set i v := rfl
@[simp] theorem State.pane_setPane_same (i : PaneNo) (v : Pane) : (s.setPane i v).pane i = v := by
  simp [State.pane, State.setPane]
@[simp] theorem State.pane_setPane_ne (i j : PaneNo) (v : Pane) (h : i ≠ j) : (s.setPane i v).pane j = s.pane j := by
  simp [State.pane, State.setPane, Fin.val_inj, h]
theorem State.pane_setPane (i j : PaneNo) (v : Pane) : (s.setPane i v).pane j = if i = j then v else s.pane j := by
  by_cases h : i = j
  · subst h; simp
  · simp [h]
@[simp] theorem State.setPane_setPane (i : PaneNo) (v w : Pane) : (s.setPane i v).setPane i w = s.setPane i w := by
  simp [State.setPane]
@[simp] theorem State.setPane_self (i : PaneNo) : s.setPane i (s.pane i) = s := by
  simp [State.setPane, State.pane]
@[simp] theorem State.pending_setPane (i : PaneNo) (v : Pane) : (s.setPane i v).pending = s.pending := rfl
@[simp] theorem State.choices_setPane (i : PaneNo) (v : Pane) : (s.setPane i v).choices = s.choices := rfl
@[simp] theorem State.resetPin_setPane (i : PaneNo) (v : Pane) : (s.setPane i v).resetPin = s.resetPin := rfl
@[simp] theorem State.store_setPane (i : PaneNo) (v : Pane) : (s.setPane i v).store = s.store := rfl
@[simp] theorem State.scan_setPane (i : PaneNo) (v : Pane) : (s.setPane i v).scan = s.scan := rfl
@[simp] theorem State.arbiter_setPane (i : PaneNo) (v : Pane) : (s.setPane i v).arbiter = s.arbiter := rfl
@[simp] theorem State.parked_setPane (i : PaneNo) (v : Pane) : (s.setPane i v).parked = s.parked := rfl
@[simp] theorem State.faults_setPane (i : PaneNo) (v : Pane) : (s.setPane i v).faults = s.faults := rfl
@[simp] theorem State.panel_setPane (i : PaneNo) (v : Pane) : (s.setPane i v).panel = s.panel := rfl
@[simp] theorem State.conf_setPane (i : PaneNo) (v : Pane) : (s.setPane i v).conf = s.conf := rfl
@[simp] theorem State.ports_setPane (i : PaneNo) (v : Pane) : (s.setPane i v).ports = s.ports := rfl
@[simp] theorem State.port_setPane (i : PaneNo) (v : Pane) (j : HostNo) : (s.setPane i v).port j = s.port j := rfl
@[simp] theorem State.hosts_setPane (i : PaneNo) (v : Pane) : (s.setPane i v).hosts = s.hosts := rfl
@[simp] theorem State.host_setPane (i : PaneNo) (v : Pane) (j : HostNo) : (s.setPane i v).host j = s.host j := rfl
@[simp] theorem State.lanes_setPane (i : PaneNo) (v : Pane) : (s.setPane i v).lanes = s.lanes := rfl
@[simp] theorem State.lane_setPane (i : PaneNo) (v : Pane) (j : HostNo) : (s.setPane i v).lane j = s.lane j := rfl
@[simp] theorem State.events_setPane (i : PaneNo) (v : Pane) : (s.setPane i v).events = s.events := rfl
@[simp] theorem State.queue_setPane (i : PaneNo) (v : Pane) (j : HostNo) : (s.setPane i v).queue j = s.queue j := rfl

/-! ## Equality by accessors -/

/-- Two states that agree in every block, record by record, are equal. -/
theorem State.ext_records {s t : State} (pending : s.pending = t.pending) (choices : s.choices = t.choices)
    (resetPin : s.resetPin = t.resetPin) (store : s.store = t.store) (panes : ∀ p, s.pane p = t.pane p)
    (scan : s.scan = t.scan) (arbiter : s.arbiter = t.arbiter) (lanes : ∀ h, s.lane h = t.lane h)
    (parked : s.parked = t.parked) (hosts : ∀ h, s.host h = t.host h) (ports : ∀ h, s.port h = t.port h)
    (events : ∀ h, s.queue h = t.queue h) (faults : s.faults = t.faults) (panel : s.panel = t.panel)
    (conf : s.conf = t.conf) : s = t := by
  refine State.ext pending choices resetPin store ?_ scan arbiter ?_ parked ?_ ?_ ?_ faults panel conf
  · exact Vector.ext fun i hi => panes ⟨i, hi⟩
  · exact Vector.ext fun i hi => lanes ⟨i, hi⟩
  · exact Vector.ext fun i hi => hosts ⟨i, hi⟩
  · exact Vector.ext fun i hi => ports ⟨i, hi⟩
  · exact Vector.ext fun i hi => events ⟨i, hi⟩

end Sys2Proof.Machine
end

