-- ==== Sys2Proof/Laws/Keeps.lean ====
section
/-! SUPPORT. Parts of a record that an update keeps, and what a loop keeps when each of its turns does. -/

set_option Elab.async false

namespace Sys2Proof.Machine

@[simp] theorem setPort_keeps_present (s : State) (h : HostNo) (v : Port) (i : HostNo)
    (hv : v.present = (s.port h).present) : ((s.setPort h v).port i).present = (s.port i).present := by
  simp only [State.port_setPort]; split <;> simp_all

@[simp] theorem setPort_keeps_responses (s : State) (h : HostNo) (v : Port) (i : HostNo)
    (hv : v.responses = (s.port h).responses) : ((s.setPort h v).port i).responses = (s.port i).responses := by
  simp only [State.port_setPort]; split <;> simp_all

@[simp] theorem setPort_keeps_slots (s : State) (h : HostNo) (v : Port) (i : HostNo)
    (hv : v.slots = (s.port h).slots) : ((s.setPort h v).port i).slots = (s.port i).slots := by
  simp only [State.port_setPort]; split <;> simp_all

@[simp] theorem setPort_keeps_drop (s : State) (h : HostNo) (v : Port) (i : HostNo)
    (hv : v.drop = (s.port h).drop) : ((s.setPort h v).port i).drop = (s.port i).drop := by
  simp only [State.port_setPort]; split <;> simp_all

@[simp] theorem setPort_keeps_exchange (s : State) (h : HostNo) (v : Port) (i : HostNo)
    (hv : v.exchange = (s.port h).exchange) : ((s.setPort h v).port i).exchange = (s.port i).exchange := by
  simp only [State.port_setPort]; split <;> simp_all

@[simp] theorem setPort_keeps_resetSeen (s : State) (h : HostNo) (v : Port) (i : HostNo)
    (hv : v.resetSeen = (s.port h).resetSeen) : ((s.setPort h v).port i).resetSeen = (s.port i).resetSeen := by
  simp only [State.port_setPort]; split <;> simp_all

@[simp] theorem setPort_keeps_lapsedSeen (s : State) (h : HostNo) (v : Port) (i : HostNo)
    (hv : v.lapsedSeen = (s.port h).lapsedSeen) : ((s.setPort h v).port i).lapsedSeen = (s.port i).lapsedSeen := by
  simp only [State.port_setPort]; split <;> simp_all

@[simp] theorem setPort_keeps_attention (s : State) (h : HostNo) (v : Port) (i : HostNo)
    (hv : v.attention = (s.port h).attention) : ((s.setPort h v).port i).attention = (s.port i).attention := by
  simp only [State.port_setPort]; split <;> simp_all

@[simp] theorem setHost_keeps_hostState (s : State) (h : HostNo) (v : HostRecord) (i : HostNo)
    (hv : v.state = (s.host h).state) : ((s.setHost h v).host i).state = (s.host i).state := by
  simp only [State.host_setHost]; split <;> simp_all

@[simp] theorem setHost_keeps_lease (s : State) (h : HostNo) (v : HostRecord) (i : HostNo)
    (hv : v.lease = (s.host h).lease) : ((s.setHost h v).host i).lease = (s.host i).lease := by
  simp only [State.host_setHost]; split <;> simp_all

@[simp] theorem setHost_keeps_warned (s : State) (h : HostNo) (v : HostRecord) (i : HostNo)
    (hv : v.warned = (s.host h).warned) : ((s.setHost h v).host i).warned = (s.host i).warned := by
  simp only [State.host_setHost]; split <;> simp_all

@[simp] theorem setHost_keeps_reserved (s : State) (h : HostNo) (v : HostRecord) (i : HostNo)
    (hv : v.reserved = (s.host h).reserved) : ((s.setHost h v).host i).reserved = (s.host i).reserved := by
  simp only [State.host_setHost]; split <;> simp_all

@[simp] theorem setHost_keeps_budget (s : State) (h : HostNo) (v : HostRecord) (i : HostNo)
    (hv : v.budget = (s.host h).budget) : ((s.setHost h v).host i).budget = (s.host i).budget := by
  simp only [State.host_setHost]; split <;> simp_all

@[simp] theorem setHost_keeps_vote (s : State) (h : HostNo) (v : HostRecord) (i : HostNo)
    (hv : v.vote = (s.host h).vote) : ((s.setHost h v).host i).vote = (s.host i).vote := by
  simp only [State.host_setHost]; split <;> simp_all

@[simp] theorem setHost_keeps_tickets (s : State) (h : HostNo) (v : HostRecord) (i : HostNo)
    (hv : v.tickets = (s.host h).tickets) : ((s.setHost h v).host i).tickets = (s.host i).tickets := by
  simp only [State.host_setHost]; split <;> simp_all

@[simp] theorem setHost_keeps_cells (s : State) (h : HostNo) (v : HostRecord) (i : HostNo)
    (hv : v.cells = (s.host h).cells) : ((s.setHost h v).host i).cells = (s.host i).cells := by
  simp only [State.host_setHost]; split <;> simp_all

@[simp] theorem setHost_keeps_overflow (s : State) (h : HostNo) (v : HostRecord) (i : HostNo)
    (hv : v.overflow = (s.host h).overflow) : ((s.setHost h v).host i).overflow = (s.host i).overflow := by
  simp only [State.host_setHost]; split <;> simp_all

@[simp] theorem setLane_keeps_service (s : State) (h : HostNo) (v : Lane) (i : HostNo)
    (hv : v.service = (s.lane h).service) : ((s.setLane h v).lane i).service = (s.lane i).service := by
  simp only [State.lane_setLane]; split <;> simp_all

@[simp] theorem setLane_keeps_queued (s : State) (h : HostNo) (v : Lane) (i : HostNo)
    (hv : v.queued = (s.lane h).queued) : ((s.setLane h v).lane i).queued = (s.lane i).queued := by
  simp only [State.lane_setLane]; split <;> simp_all

@[simp] theorem setPane_keeps_paneState (s : State) (h : PaneNo) (v : Pane) (i : PaneNo)
    (hv : v.state = (s.pane h).state) : ((s.setPane h v).pane i).state = (s.pane i).state := by
  simp only [State.pane_setPane]; split <;> simp_all

@[simp] theorem setPane_keeps_paneOwner (s : State) (h : PaneNo) (v : Pane) (i : PaneNo)
    (hv : v.owner = (s.pane h).owner) : ((s.setPane h v).pane i).owner = (s.pane i).owner := by
  simp only [State.pane_setPane]; split <;> simp_all

@[simp] theorem setPane_keeps_paneFormer (s : State) (h : PaneNo) (v : Pane) (i : PaneNo)
    (hv : v.former = (s.pane h).former) : ((s.setPane h v).pane i).former = (s.pane i).former := by
  simp only [State.pane_setPane]; split <;> simp_all

@[simp] theorem setPane_keeps_paneGuest (s : State) (h : PaneNo) (v : Pane) (i : PaneNo)
    (hv : v.guest = (s.pane h).guest) : ((s.setPane h v).pane i).guest = (s.pane i).guest := by
  simp only [State.pane_setPane]; split <;> simp_all

@[simp] theorem setPane_keeps_paneCurrent (s : State) (h : PaneNo) (v : Pane) (i : PaneNo)
    (hv : v.current = (s.pane h).current) : ((s.setPane h v).pane i).current = (s.pane i).current := by
  simp only [State.pane_setPane]; split <;> simp_all

@[simp] theorem setPane_keeps_paneStaged (s : State) (h : PaneNo) (v : Pane) (i : PaneNo)
    (hv : v.staged = (s.pane h).staged) : ((s.setPane h v).pane i).staged = (s.pane i).staged := by
  simp only [State.pane_setPane]; split <;> simp_all

@[simp] theorem setPane_keeps_paneModes (s : State) (h : PaneNo) (v : Pane) (i : PaneNo)
    (hv : v.modes = (s.pane h).modes) : ((s.setPane h v).pane i).modes = (s.pane i).modes := by
  simp only [State.pane_setPane]; split <;> simp_all

@[simp] theorem setPane_keeps_paneTears (s : State) (h : PaneNo) (v : Pane) (i : PaneNo)
    (hv : v.tears = (s.pane h).tears) : ((s.setPane h v).pane i).tears = (s.pane i).tears := by
  simp only [State.pane_setPane]; split <;> simp_all

@[simp] theorem setHost_keeps_budgetHit (s : State) (h : HostNo) (v : HostRecord) (i : HostNo)
    (hv : v.budgetHit = (s.host h).budgetHit) : ((s.setHost h v).host i).budgetHit = (s.host i).budgetHit := by
  simp only [State.host_setHost]; split <;> simp_all

@[simp] theorem setPane_keeps_paneCommit (s : State) (h : PaneNo) (v : Pane) (i : PaneNo)
    (hv : v.commit = (s.pane h).commit) : ((s.setPane h v).pane i).commit = (s.pane i).commit := by
  simp only [State.pane_setPane]; split <;> simp_all

@[simp] theorem setPane_keeps_paneHeld (s : State) (h : PaneNo) (v : Pane) (i : PaneNo)
    (hv : v.held = (s.pane h).held) : ((s.setPane h v).pane i).held = (s.pane i).held := by
  simp only [State.pane_setPane]; split <;> simp_all

@[simp] theorem setHost_keeps_isActive (s : State) (h : HostNo) (v : HostRecord) (i : HostNo)
    (hv : v.state = (s.host h).state) : (s.setHost h v).isActive i = s.isActive i := by
  simp only [State.isActive, State.host_setHost]; split <;> simp_all

@[simp] theorem isActive_setPort (s : State) (h : HostNo) (v : Port) (i : HostNo) : (s.setPort h v).isActive i = s.isActive i := rfl

@[simp] theorem inRun_setPort (s : State) (h : HostNo) (v : Port) : (s.setPort h v).inRun = s.inRun := rfl

@[simp] theorem isActive_setLane (s : State) (h : HostNo) (v : Lane) (i : HostNo) : (s.setLane h v).isActive i = s.isActive i := rfl

@[simp] theorem inRun_setLane (s : State) (h : HostNo) (v : Lane) : (s.setLane h v).inRun = s.inRun := rfl

@[simp] theorem isActive_setQueue (s : State) (h : HostNo) (v : EventQueue) (i : HostNo) : (s.setQueue h v).isActive i = s.isActive i := rfl

@[simp] theorem inRun_setQueue (s : State) (h : HostNo) (v : EventQueue) : (s.setQueue h v).inRun = s.inRun := rfl

@[simp] theorem isActive_setPane (s : State) (h : PaneNo) (v : Pane) (i : HostNo) : (s.setPane h v).isActive i = s.isActive i := rfl

@[simp] theorem inRun_setPane (s : State) (h : PaneNo) (v : Pane) : (s.setPane h v).inRun = s.inRun := rfl

@[simp] theorem isActive_setPending (s : State) (v : List Instr) (i : HostNo) : (s.setPending v).isActive i = s.isActive i := rfl

@[simp] theorem inRun_setPending (s : State) (v : List Instr) : (s.setPending v).inRun = s.inRun := rfl

@[simp] theorem isActive_setChoices (s : State) (v : Nat) (i : HostNo) : (s.setChoices v).isActive i = s.isActive i := rfl

@[simp] theorem inRun_setChoices (s : State) (v : Nat) : (s.setChoices v).inRun = s.inRun := rfl

@[simp] theorem isActive_setResetPin (s : State) (v : Bool) (i : HostNo) : (s.setResetPin v).isActive i = s.isActive i := rfl

@[simp] theorem inRun_setResetPin (s : State) (v : Bool) : (s.setResetPin v).inRun = s.inRun := rfl

@[simp] theorem isActive_setStore (s : State) (v : CellStore) (i : HostNo) : (s.setStore v).isActive i = s.isActive i := rfl

@[simp] theorem inRun_setStore (s : State) (v : CellStore) : (s.setStore v).inRun = s.inRun := rfl

@[simp] theorem isActive_setScan (s : State) (v : Scan) (i : HostNo) : (s.setScan v).isActive i = s.isActive i := rfl

@[simp] theorem inRun_setScan (s : State) (v : Scan) : (s.setScan v).inRun = s.inRun := rfl

@[simp] theorem isActive_setArbiter (s : State) (v : Arbiter) (i : HostNo) : (s.setArbiter v).isActive i = s.isActive i := rfl

@[simp] theorem inRun_setArbiter (s : State) (v : Arbiter) : (s.setArbiter v).inRun = s.inRun := rfl

@[simp] theorem isActive_setParked (s : State) (v : List Parked) (i : HostNo) : (s.setParked v).isActive i = s.isActive i := rfl

@[simp] theorem inRun_setParked (s : State) (v : List Parked) : (s.setParked v).inRun = s.inRun := rfl

@[simp] theorem isActive_setFaults (s : State) (v : FaultLog) (i : HostNo) : (s.setFaults v).isActive i = s.isActive i := rfl

@[simp] theorem inRun_setFaults (s : State) (v : FaultLog) : (s.setFaults v).inRun = s.inRun := rfl

@[simp] theorem isActive_setPanel (s : State) (v : Panel) (i : HostNo) : (s.setPanel v).isActive i = s.isActive i := rfl

@[simp] theorem inRun_setPanel (s : State) (v : Panel) : (s.setPanel v).inRun = s.inRun := rfl

@[simp] theorem isActive_setConf (s : State) (v : ConfigBlock) (i : HostNo) : (s.setConf v).isActive i = s.isActive i := rfl

@[simp] theorem inRun_setHost (s : State) (h : HostNo) (v : HostRecord) : (s.setHost h v).inRun = s.inRun := rfl

theorem isActive_eq (s : State) (i : HostNo) : s.isActive i = decide ((s.host i).state = .active) := rfl

@[simp] theorem forEach_pending {α : Type} (f : α → State → State) (l : List α) (s : State)
    (hf : ∀ a t, (f a t).pending = t.pending) : (forEach l f s).pending = s.pending := by
  unfold forEach
  induction l generalizing s with
  | nil => rfl
  | cons a l ih => rw [List.foldl_cons, ih, hf]

@[simp] theorem forEach_choices {α : Type} (f : α → State → State) (l : List α) (s : State)
    (hf : ∀ a t, (f a t).choices = t.choices) : (forEach l f s).choices = s.choices := by
  unfold forEach
  induction l generalizing s with
  | nil => rfl
  | cons a l ih => rw [List.foldl_cons, ih, hf]

@[simp] theorem forEach_resetPin {α : Type} (f : α → State → State) (l : List α) (s : State)
    (hf : ∀ a t, (f a t).resetPin = t.resetPin) : (forEach l f s).resetPin = s.resetPin := by
  unfold forEach
  induction l generalizing s with
  | nil => rfl
  | cons a l ih => rw [List.foldl_cons, ih, hf]

@[simp] theorem forEach_store {α : Type} (f : α → State → State) (l : List α) (s : State)
    (hf : ∀ a t, (f a t).store = t.store) : (forEach l f s).store = s.store := by
  unfold forEach
  induction l generalizing s with
  | nil => rfl
  | cons a l ih => rw [List.foldl_cons, ih, hf]

@[simp] theorem forEach_scan {α : Type} (f : α → State → State) (l : List α) (s : State)
    (hf : ∀ a t, (f a t).scan = t.scan) : (forEach l f s).scan = s.scan := by
  unfold forEach
  induction l generalizing s with
  | nil => rfl
  | cons a l ih => rw [List.foldl_cons, ih, hf]

@[simp] theorem forEach_arbiter {α : Type} (f : α → State → State) (l : List α) (s : State)
    (hf : ∀ a t, (f a t).arbiter = t.arbiter) : (forEach l f s).arbiter = s.arbiter := by
  unfold forEach
  induction l generalizing s with
  | nil => rfl
  | cons a l ih => rw [List.foldl_cons, ih, hf]

@[simp] theorem forEach_parked {α : Type} (f : α → State → State) (l : List α) (s : State)
    (hf : ∀ a t, (f a t).parked = t.parked) : (forEach l f s).parked = s.parked := by
  unfold forEach
  induction l generalizing s with
  | nil => rfl
  | cons a l ih => rw [List.foldl_cons, ih, hf]

@[simp] theorem forEach_faults {α : Type} (f : α → State → State) (l : List α) (s : State)
    (hf : ∀ a t, (f a t).faults = t.faults) : (forEach l f s).faults = s.faults := by
  unfold forEach
  induction l generalizing s with
  | nil => rfl
  | cons a l ih => rw [List.foldl_cons, ih, hf]

@[simp] theorem forEach_panel {α : Type} (f : α → State → State) (l : List α) (s : State)
    (hf : ∀ a t, (f a t).panel = t.panel) : (forEach l f s).panel = s.panel := by
  unfold forEach
  induction l generalizing s with
  | nil => rfl
  | cons a l ih => rw [List.foldl_cons, ih, hf]

@[simp] theorem forEach_conf {α : Type} (f : α → State → State) (l : List α) (s : State)
    (hf : ∀ a t, (f a t).conf = t.conf) : (forEach l f s).conf = s.conf := by
  unfold forEach
  induction l generalizing s with
  | nil => rfl
  | cons a l ih => rw [List.foldl_cons, ih, hf]

@[simp] theorem forEach_port {α : Type} (f : α → State → State) (l : List α) (s : State) (i : HostNo)
    (hf : ∀ a t, (f a t).port i = t.port i) : (forEach l f s).port i = s.port i := by
  unfold forEach
  induction l generalizing s with
  | nil => rfl
  | cons a l ih => rw [List.foldl_cons, ih, hf]

@[simp] theorem forEach_host {α : Type} (f : α → State → State) (l : List α) (s : State) (i : HostNo)
    (hf : ∀ a t, (f a t).host i = t.host i) : (forEach l f s).host i = s.host i := by
  unfold forEach
  induction l generalizing s with
  | nil => rfl
  | cons a l ih => rw [List.foldl_cons, ih, hf]

@[simp] theorem forEach_lane {α : Type} (f : α → State → State) (l : List α) (s : State) (i : HostNo)
    (hf : ∀ a t, (f a t).lane i = t.lane i) : (forEach l f s).lane i = s.lane i := by
  unfold forEach
  induction l generalizing s with
  | nil => rfl
  | cons a l ih => rw [List.foldl_cons, ih, hf]

@[simp] theorem forEach_queue {α : Type} (f : α → State → State) (l : List α) (s : State) (i : HostNo)
    (hf : ∀ a t, (f a t).queue i = t.queue i) : (forEach l f s).queue i = s.queue i := by
  unfold forEach
  induction l generalizing s with
  | nil => rfl
  | cons a l ih => rw [List.foldl_cons, ih, hf]

@[simp] theorem forEach_pane {α : Type} (f : α → State → State) (l : List α) (s : State) (i : PaneNo)
    (hf : ∀ a t, (f a t).pane i = t.pane i) : (forEach l f s).pane i = s.pane i := by
  unfold forEach
  induction l generalizing s with
  | nil => rfl
  | cons a l ih => rw [List.foldl_cons, ih, hf]

@[simp] theorem forEach_inRun {α : Type} (f : α → State → State) (l : List α) (s : State)
    (hf : ∀ a t, (f a t).inRun = t.inRun) : (forEach l f s).inRun = s.inRun := by
  unfold forEach
  induction l generalizing s with
  | nil => rfl
  | cons a l ih => rw [List.foldl_cons, ih, hf]

@[simp] theorem forEach_settings {α : Type} (f : α → State → State) (l : List α) (s : State)
    (hf : ∀ a t, (f a t).conf.settings = t.conf.settings) : (forEach l f s).conf.settings = s.conf.settings := by
  unfold forEach
  induction l generalizing s with
  | nil => rfl
  | cons a l ih => rw [List.foldl_cons, ih, hf]

@[simp] theorem forEach_link {α : Type} (f : α → State → State) (l : List α) (s : State)
    (hf : ∀ a t, (f a t).scan.link = t.scan.link) : (forEach l f s).scan.link = s.scan.link := by
  unfold forEach
  induction l generalizing s with
  | nil => rfl
  | cons a l ih => rw [List.foldl_cons, ih, hf]

@[simp] theorem forEach_scanFrame {α : Type} (f : α → State → State) (l : List α) (s : State)
    (hf : ∀ a t, (f a t).scan.frame = t.scan.frame) : (forEach l f s).scan.frame = s.scan.frame := by
  unfold forEach
  induction l generalizing s with
  | nil => rfl
  | cons a l ih => rw [List.foldl_cons, ih, hf]

@[simp] theorem forEach_scanQueue {α : Type} (f : α → State → State) (l : List α) (s : State)
    (hf : ∀ a t, (f a t).scan.queue = t.scan.queue) : (forEach l f s).scan.queue = s.scan.queue := by
  unfold forEach
  induction l generalizing s with
  | nil => rfl
  | cons a l ih => rw [List.foldl_cons, ih, hf]

@[simp] theorem forEach_scanMark {α : Type} (f : α → State → State) (l : List α) (s : State)
    (hf : ∀ a t, (f a t).scan.mark = t.scan.mark) : (forEach l f s).scan.mark = s.scan.mark := by
  unfold forEach
  induction l generalizing s with
  | nil => rfl
  | cons a l ih => rw [List.foldl_cons, ih, hf]

@[simp] theorem forEach_scanEmission {α : Type} (f : α → State → State) (l : List α) (s : State)
    (hf : ∀ a t, (f a t).scan.emission = t.scan.emission) : (forEach l f s).scan.emission = s.scan.emission := by
  unfold forEach
  induction l generalizing s with
  | nil => rfl
  | cons a l ih => rw [List.foldl_cons, ih, hf]

@[simp] theorem forEach_scanLane {α : Type} (f : α → State → State) (l : List α) (s : State)
    (hf : ∀ a t, (f a t).scan.lane = t.scan.lane) : (forEach l f s).scan.lane = s.scan.lane := by
  unfold forEach
  induction l generalizing s with
  | nil => rfl
  | cons a l ih => rw [List.foldl_cons, ih, hf]

@[simp] theorem forEach_scanEmitter {α : Type} (f : α → State → State) (l : List α) (s : State)
    (hf : ∀ a t, (f a t).scan.emitter = t.scan.emitter) : (forEach l f s).scan.emitter = s.scan.emitter := by
  unfold forEach
  induction l generalizing s with
  | nil => rfl
  | cons a l ih => rw [List.foldl_cons, ih, hf]

@[simp] theorem forEach_scanTimer {α : Type} (f : α → State → State) (l : List α) (s : State)
    (hf : ∀ a t, (f a t).scan.timer = t.scan.timer) : (forEach l f s).scan.timer = s.scan.timer := by
  unfold forEach
  induction l generalizing s with
  | nil => rfl
  | cons a l ih => rw [List.foldl_cons, ih, hf]

@[simp] theorem forEach_cursorLine {α : Type} (f : α → State → State) (l : List α) (s : State)
    (hf : ∀ a t, (f a t).scan.cursorLine = t.scan.cursorLine) : (forEach l f s).scan.cursorLine = s.scan.cursorLine := by
  unfold forEach
  induction l generalizing s with
  | nil => rfl
  | cons a l ih => rw [List.foldl_cons, ih, hf]

@[simp] theorem forEach_cursorFrame {α : Type} (f : α → State → State) (l : List α) (s : State)
    (hf : ∀ a t, (f a t).scan.cursorFrame = t.scan.cursorFrame) : (forEach l f s).scan.cursorFrame = s.scan.cursorFrame := by
  unfold forEach
  induction l generalizing s with
  | nil => rfl
  | cons a l ih => rw [List.foldl_cons, ih, hf]

@[simp] theorem forEach_scanLatch {α : Type} (f : α → State → State) (l : List α) (s : State)
    (hf : ∀ a t, (f a t).scan.latch = t.scan.latch) : (forEach l f s).scan.latch = s.scan.latch := by
  unfold forEach
  induction l generalizing s with
  | nil => rfl
  | cons a l ih => rw [List.foldl_cons, ih, hf]

@[simp] theorem forEach_access {α : Type} (f : α → State → State) (l : List α) (s : State)
    (hf : ∀ a t, (f a t).arbiter.access = t.arbiter.access) : (forEach l f s).arbiter.access = s.arbiter.access := by
  unfold forEach
  induction l generalizing s with
  | nil => rfl
  | cons a l ih => rw [List.foldl_cons, ih, hf]

@[simp] theorem forEach_urgency {α : Type} (f : α → State → State) (l : List α) (s : State)
    (hf : ∀ a t, (f a t).arbiter.urgency = t.arbiter.urgency) : (forEach l f s).arbiter.urgency = s.arbiter.urgency := by
  unfold forEach
  induction l generalizing s with
  | nil => rfl
  | cons a l ih => rw [List.foldl_cons, ih, hf]

@[simp] theorem forEach_lastGrant {α : Type} (f : α → State → State) (l : List α) (s : State)
    (hf : ∀ a t, (f a t).arbiter.lastGrant = t.arbiter.lastGrant) : (forEach l f s).arbiter.lastGrant = s.arbiter.lastGrant := by
  unfold forEach
  induction l generalizing s with
  | nil => rfl
  | cons a l ih => rw [List.foldl_cons, ih, hf]

@[simp] theorem forEach_rotation {α : Type} (f : α → State → State) (l : List α) (s : State)
    (hf : ∀ a t, (f a t).arbiter.rotation = t.arbiter.rotation) : (forEach l f s).arbiter.rotation = s.arbiter.rotation := by
  unfold forEach
  induction l generalizing s with
  | nil => rfl
  | cons a l ih => rw [List.foldl_cons, ih, hf]

@[simp] theorem forEach_present {α : Type} (f : α → State → State) (l : List α) (s : State) (i : HostNo)
    (hf : ∀ a t, ((f a t).port i).present = (t.port i).present) : ((forEach l f s).port i).present = (s.port i).present := by
  unfold forEach
  induction l generalizing s with
  | nil => rfl
  | cons a l ih => rw [List.foldl_cons, ih, hf]

@[simp] theorem forEach_responses {α : Type} (f : α → State → State) (l : List α) (s : State) (i : HostNo)
    (hf : ∀ a t, ((f a t).port i).responses = (t.port i).responses) : ((forEach l f s).port i).responses = (s.port i).responses := by
  unfold forEach
  induction l generalizing s with
  | nil => rfl
  | cons a l ih => rw [List.foldl_cons, ih, hf]

@[simp] theorem forEach_slots {α : Type} (f : α → State → State) (l : List α) (s : State) (i : HostNo)
    (hf : ∀ a t, ((f a t).port i).slots = (t.port i).slots) : ((forEach l f s).port i).slots = (s.port i).slots := by
  unfold forEach
  induction l generalizing s with
  | nil => rfl
  | cons a l ih => rw [List.foldl_cons, ih, hf]

@[simp] theorem forEach_drop {α : Type} (f : α → State → State) (l : List α) (s : State) (i : HostNo)
    (hf : ∀ a t, ((f a t).port i).drop = (t.port i).drop) : ((forEach l f s).port i).drop = (s.port i).drop := by
  unfold forEach
  induction l generalizing s with
  | nil => rfl
  | cons a l ih => rw [List.foldl_cons, ih, hf]

@[simp] theorem forEach_exchange {α : Type} (f : α → State → State) (l : List α) (s : State) (i : HostNo)
    (hf : ∀ a t, ((f a t).port i).exchange = (t.port i).exchange) : ((forEach l f s).port i).exchange = (s.port i).exchange := by
  unfold forEach
  induction l generalizing s with
  | nil => rfl
  | cons a l ih => rw [List.foldl_cons, ih, hf]

@[simp] theorem forEach_resetSeen {α : Type} (f : α → State → State) (l : List α) (s : State) (i : HostNo)
    (hf : ∀ a t, ((f a t).port i).resetSeen = (t.port i).resetSeen) : ((forEach l f s).port i).resetSeen = (s.port i).resetSeen := by
  unfold forEach
  induction l generalizing s with
  | nil => rfl
  | cons a l ih => rw [List.foldl_cons, ih, hf]

@[simp] theorem forEach_lapsedSeen {α : Type} (f : α → State → State) (l : List α) (s : State) (i : HostNo)
    (hf : ∀ a t, ((f a t).port i).lapsedSeen = (t.port i).lapsedSeen) : ((forEach l f s).port i).lapsedSeen = (s.port i).lapsedSeen := by
  unfold forEach
  induction l generalizing s with
  | nil => rfl
  | cons a l ih => rw [List.foldl_cons, ih, hf]

@[simp] theorem forEach_attention {α : Type} (f : α → State → State) (l : List α) (s : State) (i : HostNo)
    (hf : ∀ a t, ((f a t).port i).attention = (t.port i).attention) : ((forEach l f s).port i).attention = (s.port i).attention := by
  unfold forEach
  induction l generalizing s with
  | nil => rfl
  | cons a l ih => rw [List.foldl_cons, ih, hf]

@[simp] theorem forEach_hostState {α : Type} (f : α → State → State) (l : List α) (s : State) (i : HostNo)
    (hf : ∀ a t, ((f a t).host i).state = (t.host i).state) : ((forEach l f s).host i).state = (s.host i).state := by
  unfold forEach
  induction l generalizing s with
  | nil => rfl
  | cons a l ih => rw [List.foldl_cons, ih, hf]

@[simp] theorem forEach_lease {α : Type} (f : α → State → State) (l : List α) (s : State) (i : HostNo)
    (hf : ∀ a t, ((f a t).host i).lease = (t.host i).lease) : ((forEach l f s).host i).lease = (s.host i).lease := by
  unfold forEach
  induction l generalizing s with
  | nil => rfl
  | cons a l ih => rw [List.foldl_cons, ih, hf]

@[simp] theorem forEach_warned {α : Type} (f : α → State → State) (l : List α) (s : State) (i : HostNo)
    (hf : ∀ a t, ((f a t).host i).warned = (t.host i).warned) : ((forEach l f s).host i).warned = (s.host i).warned := by
  unfold forEach
  induction l generalizing s with
  | nil => rfl
  | cons a l ih => rw [List.foldl_cons, ih, hf]

@[simp] theorem forEach_reserved {α : Type} (f : α → State → State) (l : List α) (s : State) (i : HostNo)
    (hf : ∀ a t, ((f a t).host i).reserved = (t.host i).reserved) : ((forEach l f s).host i).reserved = (s.host i).reserved := by
  unfold forEach
  induction l generalizing s with
  | nil => rfl
  | cons a l ih => rw [List.foldl_cons, ih, hf]

@[simp] theorem forEach_budget {α : Type} (f : α → State → State) (l : List α) (s : State) (i : HostNo)
    (hf : ∀ a t, ((f a t).host i).budget = (t.host i).budget) : ((forEach l f s).host i).budget = (s.host i).budget := by
  unfold forEach
  induction l generalizing s with
  | nil => rfl
  | cons a l ih => rw [List.foldl_cons, ih, hf]

@[simp] theorem forEach_vote {α : Type} (f : α → State → State) (l : List α) (s : State) (i : HostNo)
    (hf : ∀ a t, ((f a t).host i).vote = (t.host i).vote) : ((forEach l f s).host i).vote = (s.host i).vote := by
  unfold forEach
  induction l generalizing s with
  | nil => rfl
  | cons a l ih => rw [List.foldl_cons, ih, hf]

@[simp] theorem forEach_tickets {α : Type} (f : α → State → State) (l : List α) (s : State) (i : HostNo)
    (hf : ∀ a t, ((f a t).host i).tickets = (t.host i).tickets) : ((forEach l f s).host i).tickets = (s.host i).tickets := by
  unfold forEach
  induction l generalizing s with
  | nil => rfl
  | cons a l ih => rw [List.foldl_cons, ih, hf]

@[simp] theorem forEach_cells {α : Type} (f : α → State → State) (l : List α) (s : State) (i : HostNo)
    (hf : ∀ a t, ((f a t).host i).cells = (t.host i).cells) : ((forEach l f s).host i).cells = (s.host i).cells := by
  unfold forEach
  induction l generalizing s with
  | nil => rfl
  | cons a l ih => rw [List.foldl_cons, ih, hf]

@[simp] theorem forEach_overflow {α : Type} (f : α → State → State) (l : List α) (s : State) (i : HostNo)
    (hf : ∀ a t, ((f a t).host i).overflow = (t.host i).overflow) : ((forEach l f s).host i).overflow = (s.host i).overflow := by
  unfold forEach
  induction l generalizing s with
  | nil => rfl
  | cons a l ih => rw [List.foldl_cons, ih, hf]

@[simp] theorem forEach_service {α : Type} (f : α → State → State) (l : List α) (s : State) (i : HostNo)
    (hf : ∀ a t, ((f a t).lane i).service = (t.lane i).service) : ((forEach l f s).lane i).service = (s.lane i).service := by
  unfold forEach
  induction l generalizing s with
  | nil => rfl
  | cons a l ih => rw [List.foldl_cons, ih, hf]

@[simp] theorem forEach_queued {α : Type} (f : α → State → State) (l : List α) (s : State) (i : HostNo)
    (hf : ∀ a t, ((f a t).lane i).queued = (t.lane i).queued) : ((forEach l f s).lane i).queued = (s.lane i).queued := by
  unfold forEach
  induction l generalizing s with
  | nil => rfl
  | cons a l ih => rw [List.foldl_cons, ih, hf]

@[simp] theorem forEach_paneState {α : Type} (f : α → State → State) (l : List α) (s : State) (i : PaneNo)
    (hf : ∀ a t, ((f a t).pane i).state = (t.pane i).state) : ((forEach l f s).pane i).state = (s.pane i).state := by
  unfold forEach
  induction l generalizing s with
  | nil => rfl
  | cons a l ih => rw [List.foldl_cons, ih, hf]

@[simp] theorem forEach_paneOwner {α : Type} (f : α → State → State) (l : List α) (s : State) (i : PaneNo)
    (hf : ∀ a t, ((f a t).pane i).owner = (t.pane i).owner) : ((forEach l f s).pane i).owner = (s.pane i).owner := by
  unfold forEach
  induction l generalizing s with
  | nil => rfl
  | cons a l ih => rw [List.foldl_cons, ih, hf]

@[simp] theorem forEach_paneFormer {α : Type} (f : α → State → State) (l : List α) (s : State) (i : PaneNo)
    (hf : ∀ a t, ((f a t).pane i).former = (t.pane i).former) : ((forEach l f s).pane i).former = (s.pane i).former := by
  unfold forEach
  induction l generalizing s with
  | nil => rfl
  | cons a l ih => rw [List.foldl_cons, ih, hf]

@[simp] theorem forEach_paneGuest {α : Type} (f : α → State → State) (l : List α) (s : State) (i : PaneNo)
    (hf : ∀ a t, ((f a t).pane i).guest = (t.pane i).guest) : ((forEach l f s).pane i).guest = (s.pane i).guest := by
  unfold forEach
  induction l generalizing s with
  | nil => rfl
  | cons a l ih => rw [List.foldl_cons, ih, hf]

@[simp] theorem forEach_paneCurrent {α : Type} (f : α → State → State) (l : List α) (s : State) (i : PaneNo)
    (hf : ∀ a t, ((f a t).pane i).current = (t.pane i).current) : ((forEach l f s).pane i).current = (s.pane i).current := by
  unfold forEach
  induction l generalizing s with
  | nil => rfl
  | cons a l ih => rw [List.foldl_cons, ih, hf]

@[simp] theorem forEach_paneStaged {α : Type} (f : α → State → State) (l : List α) (s : State) (i : PaneNo)
    (hf : ∀ a t, ((f a t).pane i).staged = (t.pane i).staged) : ((forEach l f s).pane i).staged = (s.pane i).staged := by
  unfold forEach
  induction l generalizing s with
  | nil => rfl
  | cons a l ih => rw [List.foldl_cons, ih, hf]

@[simp] theorem forEach_paneModes {α : Type} (f : α → State → State) (l : List α) (s : State) (i : PaneNo)
    (hf : ∀ a t, ((f a t).pane i).modes = (t.pane i).modes) : ((forEach l f s).pane i).modes = (s.pane i).modes := by
  unfold forEach
  induction l generalizing s with
  | nil => rfl
  | cons a l ih => rw [List.foldl_cons, ih, hf]

@[simp] theorem forEach_paneTears {α : Type} (f : α → State → State) (l : List α) (s : State) (i : PaneNo)
    (hf : ∀ a t, ((f a t).pane i).tears = (t.pane i).tears) : ((forEach l f s).pane i).tears = (s.pane i).tears := by
  unfold forEach
  induction l generalizing s with
  | nil => rfl
  | cons a l ih => rw [List.foldl_cons, ih, hf]

@[simp] theorem forEach_fifo {α : Type} (f : α → State → State) (l : List α) (s : State)
    (hf : ∀ a t, (f a t).panel.fifo = t.panel.fifo) : (forEach l f s).panel.fifo = s.panel.fifo := by
  unfold forEach
  induction l generalizing s with
  | nil => rfl
  | cons a l ih => rw [List.foldl_cons, ih, hf]

@[simp] theorem forEach_inFlight {α : Type} (f : α → State → State) (l : List α) (s : State)
    (hf : ∀ a t, (f a t).panel.inFlight = t.panel.inFlight) : (forEach l f s).panel.inFlight = s.panel.inFlight := by
  unfold forEach
  induction l generalizing s with
  | nil => rfl
  | cons a l ih => rw [List.foldl_cons, ih, hf]

@[simp] theorem forEach_panelTimer {α : Type} (f : α → State → State) (l : List α) (s : State)
    (hf : ∀ a t, (f a t).panel.timer = t.panel.timer) : (forEach l f s).panel.timer = s.panel.timer := by
  unfold forEach
  induction l generalizing s with
  | nil => rfl
  | cons a l ih => rw [List.foldl_cons, ih, hf]

@[simp] theorem forEach_blanking {α : Type} (f : α → State → State) (l : List α) (s : State)
    (hf : ∀ a t, (f a t).panel.blanking = t.panel.blanking) : (forEach l f s).panel.blanking = s.panel.blanking := by
  unfold forEach
  induction l generalizing s with
  | nil => rfl
  | cons a l ih => rw [List.foldl_cons, ih, hf]

@[simp] theorem forEach_hostless {α : Type} (f : α → State → State) (l : List α) (s : State)
    (hf : ∀ a t, (f a t).faults.hostless = t.faults.hostless) : (forEach l f s).faults.hostless = s.faults.hostless := by
  unfold forEach
  induction l generalizing s with
  | nil => rfl
  | cons a l ih => rw [List.foldl_cons, ih, hf]

@[simp] theorem forEach_budgetHit {α : Type} (f : α → State → State) (l : List α) (s : State) (i : HostNo)
    (hf : ∀ a t, ((f a t).host i).budgetHit = (t.host i).budgetHit) : ((forEach l f s).host i).budgetHit = (s.host i).budgetHit := by
  unfold forEach
  induction l generalizing s with
  | nil => rfl
  | cons a l ih => rw [List.foldl_cons, ih, hf]

@[simp] theorem forEach_paneCommit {α : Type} (f : α → State → State) (l : List α) (s : State) (i : PaneNo)
    (hf : ∀ a t, ((f a t).pane i).commit = (t.pane i).commit) : ((forEach l f s).pane i).commit = (s.pane i).commit := by
  unfold forEach
  induction l generalizing s with
  | nil => rfl
  | cons a l ih => rw [List.foldl_cons, ih, hf]

@[simp] theorem forEach_paneHeld {α : Type} (f : α → State → State) (l : List α) (s : State) (i : PaneNo)
    (hf : ∀ a t, ((f a t).pane i).held = (t.pane i).held) : ((forEach l f s).pane i).held = (s.pane i).held := by
  unfold forEach
  induction l generalizing s with
  | nil => rfl
  | cons a l ih => rw [List.foldl_cons, ih, hf]

@[simp] theorem forEach_part {α : Type} (f : α → State → State) (l : List α) (s : State)
    (hf : ∀ a t, (f a t).conf.part = t.conf.part) : (forEach l f s).conf.part = s.conf.part := by
  unfold forEach
  induction l generalizing s with
  | nil => rfl
  | cons a l ih => rw [List.foldl_cons, ih, hf]

@[simp] theorem forEach_writers {α : Type} (f : α → State → State) (l : List α) (s : State)
    (hf : ∀ a t, (f a t).conf.writers = t.conf.writers) : (forEach l f s).conf.writers = s.conf.writers := by
  unfold forEach
  induction l generalizing s with
  | nil => rfl
  | cons a l ih => rw [List.foldl_cons, ih, hf]

@[simp] theorem forEach_cause {α : Type} (f : α → State → State) (l : List α) (s : State)
    (hf : ∀ a t, (f a t).conf.cause = t.conf.cause) : (forEach l f s).conf.cause = s.conf.cause := by
  unfold forEach
  induction l generalizing s with
  | nil => rfl
  | cons a l ih => rw [List.foldl_cons, ih, hf]

@[simp] theorem forEach_voteState {α : Type} (f : α → State → State) (l : List α) (s : State)
    (hf : ∀ a t, (f a t).conf.vote = t.conf.vote) : (forEach l f s).conf.vote = s.conf.vote := by
  unfold forEach
  induction l generalizing s with
  | nil => rfl
  | cons a l ih => rw [List.foldl_cons, ih, hf]

@[simp] theorem forEach_window {α : Type} (f : α → State → State) (l : List α) (s : State)
    (hf : ∀ a t, (f a t).conf.window = t.conf.window) : (forEach l f s).conf.window = s.conf.window := by
  unfold forEach
  induction l generalizing s with
  | nil => rfl
  | cons a l ih => rw [List.foldl_cons, ih, hf]

@[simp] theorem forEach_isActive {α : Type} (f : α → State → State) (l : List α) (s : State) (i : HostNo)
    (hf : ∀ a t, (f a t).isActive i = t.isActive i) : (forEach l f s).isActive i = s.isActive i := by
  unfold forEach
  induction l generalizing s with
  | nil => rfl
  | cons a l ih => rw [List.foldl_cons, ih, hf]

end Sys2Proof.Machine
end

