-- ==== Sys2Proof/Laws/OpsFrames.lean ====
section
/-! SUPPORT. What the named operations over ports, events and faults leave as it stands. -/

set_option Elab.async false

namespace Sys2Proof.Machine

@[simp] theorem refreshAttention_frame (h : HostNo) (s : State) :
    (refreshAttention h s).pending = s.pending ∧ (refreshAttention h s).choices = s.choices ∧
    (refreshAttention h s).resetPin = s.resetPin ∧ (refreshAttention h s).store = s.store ∧
    (refreshAttention h s).scan = s.scan ∧ (refreshAttention h s).arbiter = s.arbiter ∧
    (refreshAttention h s).parked = s.parked ∧ (refreshAttention h s).faults = s.faults ∧
    (refreshAttention h s).panel = s.panel ∧ (refreshAttention h s).conf = s.conf ∧
    (∀ i, (refreshAttention h s).host i = s.host i) ∧ (∀ i, (refreshAttention h s).lane i = s.lane i) ∧
    (∀ i, (refreshAttention h s).queue i = s.queue i) ∧
    (∀ i, ((refreshAttention h s).port i).present = (s.port i).present) ∧
    (∀ i, ((refreshAttention h s).port i).responses = (s.port i).responses) ∧
    (∀ i, ((refreshAttention h s).port i).slots = (s.port i).slots) ∧
    (∀ i, ((refreshAttention h s).port i).drop = (s.port i).drop) ∧
    (∀ i, ((refreshAttention h s).port i).exchange = (s.port i).exchange) ∧
    (∀ i, ((refreshAttention h s).port i).resetSeen = (s.port i).resetSeen) ∧
    (∀ i, ((refreshAttention h s).port i).lapsedSeen = (s.port i).lapsedSeen) ∧
    (∀ i, (refreshAttention h s).isActive i = s.isActive i) ∧ (∀ i, (refreshAttention h s).pane i = s.pane i) := by
  simp -implicitDefEqProofs [refreshAttention]

@[simp] theorem placeResponse_frame (h : HostNo) (r : Response) (s : State) :
    (placeResponse h r s).pending = s.pending ∧ (placeResponse h r s).choices = s.choices ∧
    (placeResponse h r s).resetPin = s.resetPin ∧ (placeResponse h r s).store = s.store ∧
    (placeResponse h r s).scan = s.scan ∧ (placeResponse h r s).arbiter = s.arbiter ∧
    (placeResponse h r s).parked = s.parked ∧ (placeResponse h r s).faults = s.faults ∧
    (placeResponse h r s).panel = s.panel ∧ (placeResponse h r s).conf = s.conf ∧
    (∀ i, (placeResponse h r s).host i = s.host i) ∧ (∀ i, (placeResponse h r s).lane i = s.lane i) ∧
    (∀ i, (placeResponse h r s).queue i = s.queue i) ∧
    (∀ i, ((placeResponse h r s).port i).present = (s.port i).present) ∧
    (∀ i, ((placeResponse h r s).port i).slots = (s.port i).slots) ∧
    (∀ i, ((placeResponse h r s).port i).drop = (s.port i).drop) ∧
    (∀ i, ((placeResponse h r s).port i).exchange = (s.port i).exchange) ∧
    (∀ i, ((placeResponse h r s).port i).resetSeen = (s.port i).resetSeen) ∧
    (∀ i, ((placeResponse h r s).port i).lapsedSeen = (s.port i).lapsedSeen) ∧
    (∀ i, (placeResponse h r s).isActive i = s.isActive i) ∧ (∀ i, (placeResponse h r s).pane i = s.pane i) := by
  simp -implicitDefEqProofs [placeResponse]

@[simp] theorem answer_frame (h : HostNo) (r : Response) (s : State) :
    (answer h r s).pending = s.pending ∧ (answer h r s).choices = s.choices ∧ (answer h r s).resetPin = s.resetPin ∧
    (answer h r s).store = s.store ∧ (answer h r s).scan = s.scan ∧ (answer h r s).arbiter = s.arbiter ∧
    (answer h r s).parked = s.parked ∧ (answer h r s).faults = s.faults ∧ (answer h r s).panel = s.panel ∧
    (answer h r s).conf = s.conf ∧ (∀ i, (answer h r s).host i = s.host i) ∧ (∀ i, (answer h r s).lane i = s.lane i) ∧
    (∀ i, (answer h r s).queue i = s.queue i) ∧ (∀ i, ((answer h r s).port i).present = (s.port i).present) ∧
    (∀ i, ((answer h r s).port i).drop = (s.port i).drop) ∧
    (∀ i, ((answer h r s).port i).exchange = (s.port i).exchange) ∧
    (∀ i, ((answer h r s).port i).resetSeen = (s.port i).resetSeen) ∧
    (∀ i, ((answer h r s).port i).lapsedSeen = (s.port i).lapsedSeen) ∧
    (∀ i, (answer h r s).isActive i = s.isActive i) ∧ (∀ i, (answer h r s).pane i = s.pane i) := by
  simp -implicitDefEqProofs [answer]

@[simp] theorem answerAll_frame (h : HostNo) (rs : List Response) (s : State) :
    (answerAll h rs s).pending = s.pending ∧ (answerAll h rs s).choices = s.choices ∧
    (answerAll h rs s).resetPin = s.resetPin ∧ (answerAll h rs s).store = s.store ∧ (answerAll h rs s).scan = s.scan ∧
    (answerAll h rs s).arbiter = s.arbiter ∧ (answerAll h rs s).parked = s.parked ∧
    (answerAll h rs s).faults = s.faults ∧ (answerAll h rs s).panel = s.panel ∧ (answerAll h rs s).conf = s.conf ∧
    (∀ i, (answerAll h rs s).host i = s.host i) ∧ (∀ i, (answerAll h rs s).lane i = s.lane i) ∧
    (∀ i, (answerAll h rs s).queue i = s.queue i) ∧ (∀ i, ((answerAll h rs s).port i).present = (s.port i).present) ∧
    (∀ i, ((answerAll h rs s).port i).drop = (s.port i).drop) ∧
    (∀ i, ((answerAll h rs s).port i).exchange = (s.port i).exchange) ∧
    (∀ i, ((answerAll h rs s).port i).resetSeen = (s.port i).resetSeen) ∧
    (∀ i, ((answerAll h rs s).port i).lapsedSeen = (s.port i).lapsedSeen) ∧
    (∀ i, (answerAll h rs s).isActive i = s.isActive i) ∧ (∀ i, (answerAll h rs s).pane i = s.pane i) := by
  simp -implicitDefEqProofs [answerAll]

@[simp] theorem reply_frame (h : HostNo) (k : Kind) (tag : Byte) (st : Status) (pl : Payload) (s : State) :
    (reply h k tag st pl s).pending = s.pending ∧ (reply h k tag st pl s).choices = s.choices ∧
    (reply h k tag st pl s).resetPin = s.resetPin ∧ (reply h k tag st pl s).store = s.store ∧
    (reply h k tag st pl s).scan = s.scan ∧ (reply h k tag st pl s).arbiter = s.arbiter ∧
    (reply h k tag st pl s).parked = s.parked ∧ (reply h k tag st pl s).faults = s.faults ∧
    (reply h k tag st pl s).panel = s.panel ∧ (reply h k tag st pl s).conf = s.conf ∧
    (∀ i, (reply h k tag st pl s).host i = s.host i) ∧ (∀ i, (reply h k tag st pl s).lane i = s.lane i) ∧
    (∀ i, (reply h k tag st pl s).queue i = s.queue i) ∧
    (∀ i, ((reply h k tag st pl s).port i).present = (s.port i).present) ∧
    (∀ i, ((reply h k tag st pl s).port i).drop = (s.port i).drop) ∧
    (∀ i, ((reply h k tag st pl s).port i).exchange = (s.port i).exchange) ∧
    (∀ i, ((reply h k tag st pl s).port i).resetSeen = (s.port i).resetSeen) ∧
    (∀ i, ((reply h k tag st pl s).port i).lapsedSeen = (s.port i).lapsedSeen) ∧
    (∀ i, (reply h k tag st pl s).isActive i = s.isActive i) ∧ (∀ i, (reply h k tag st pl s).pane i = s.pane i) := by
  simp -implicitDefEqProofs [reply]

@[simp] theorem clearResponses_frame (h : HostNo) (s : State) :
    (clearResponses h s).pending = s.pending ∧ (clearResponses h s).choices = s.choices ∧
    (clearResponses h s).resetPin = s.resetPin ∧ (clearResponses h s).store = s.store ∧
    (clearResponses h s).scan = s.scan ∧ (clearResponses h s).arbiter = s.arbiter ∧
    (clearResponses h s).parked = s.parked ∧ (clearResponses h s).faults = s.faults ∧
    (clearResponses h s).panel = s.panel ∧ (clearResponses h s).conf = s.conf ∧
    (∀ i, (clearResponses h s).host i = s.host i) ∧ (∀ i, (clearResponses h s).lane i = s.lane i) ∧
    (∀ i, (clearResponses h s).queue i = s.queue i) ∧
    (∀ i, ((clearResponses h s).port i).present = (s.port i).present) ∧
    (∀ i, ((clearResponses h s).port i).slots = (s.port i).slots) ∧
    (∀ i, ((clearResponses h s).port i).drop = (s.port i).drop) ∧
    (∀ i, ((clearResponses h s).port i).resetSeen = (s.port i).resetSeen) ∧
    (∀ i, ((clearResponses h s).port i).lapsedSeen = (s.port i).lapsedSeen) ∧
    (∀ i, (clearResponses h s).isActive i = s.isActive i) ∧ (∀ i, (clearResponses h s).pane i = s.pane i) := by
  simp -implicitDefEqProofs [clearResponses]

@[simp] theorem postEvent_frame (h : HostNo) (e : Event) (s : State) :
    (postEvent h e s).pending = s.pending ∧ (postEvent h e s).choices = s.choices ∧
    (postEvent h e s).resetPin = s.resetPin ∧ (postEvent h e s).store = s.store ∧ (postEvent h e s).scan = s.scan ∧
    (postEvent h e s).arbiter = s.arbiter ∧ (postEvent h e s).parked = s.parked ∧ (postEvent h e s).faults = s.faults ∧
    (postEvent h e s).panel = s.panel ∧ (postEvent h e s).conf = s.conf ∧ (∀ i, (postEvent h e s).host i = s.host i) ∧
    (∀ i, (postEvent h e s).lane i = s.lane i) ∧ (∀ i, ((postEvent h e s).port i).present = (s.port i).present) ∧
    (∀ i, ((postEvent h e s).port i).responses = (s.port i).responses) ∧
    (∀ i, ((postEvent h e s).port i).slots = (s.port i).slots) ∧
    (∀ i, ((postEvent h e s).port i).drop = (s.port i).drop) ∧
    (∀ i, ((postEvent h e s).port i).exchange = (s.port i).exchange) ∧
    (∀ i, ((postEvent h e s).port i).resetSeen = (s.port i).resetSeen) ∧
    (∀ i, ((postEvent h e s).port i).lapsedSeen = (s.port i).lapsedSeen) ∧
    (∀ i, (postEvent h e s).isActive i = s.isActive i) ∧ (∀ i, (postEvent h e s).pane i = s.pane i) := by
  unfold postEvent; (repeat' split) <;> simp -implicitDefEqProofs

@[simp] theorem postTo_frame (hs : List HostNo) (e : Event) (s : State) :
    (postTo hs e s).pending = s.pending ∧ (postTo hs e s).choices = s.choices ∧ (postTo hs e s).resetPin = s.resetPin ∧
    (postTo hs e s).store = s.store ∧ (postTo hs e s).scan = s.scan ∧ (postTo hs e s).arbiter = s.arbiter ∧
    (postTo hs e s).parked = s.parked ∧ (postTo hs e s).faults = s.faults ∧ (postTo hs e s).panel = s.panel ∧
    (postTo hs e s).conf = s.conf ∧ (∀ i, (postTo hs e s).host i = s.host i) ∧
    (∀ i, (postTo hs e s).lane i = s.lane i) ∧ (∀ i, ((postTo hs e s).port i).present = (s.port i).present) ∧
    (∀ i, ((postTo hs e s).port i).responses = (s.port i).responses) ∧
    (∀ i, ((postTo hs e s).port i).slots = (s.port i).slots) ∧ (∀ i, ((postTo hs e s).port i).drop = (s.port i).drop) ∧
    (∀ i, ((postTo hs e s).port i).exchange = (s.port i).exchange) ∧
    (∀ i, ((postTo hs e s).port i).resetSeen = (s.port i).resetSeen) ∧
    (∀ i, ((postTo hs e s).port i).lapsedSeen = (s.port i).lapsedSeen) ∧
    (∀ i, (postTo hs e s).isActive i = s.isActive i) ∧ (∀ i, (postTo hs e s).pane i = s.pane i) := by
  simp -implicitDefEqProofs [postTo]

@[simp] theorem clearEvents_frame (h : HostNo) (s : State) :
    (clearEvents h s).pending = s.pending ∧ (clearEvents h s).choices = s.choices ∧
    (clearEvents h s).resetPin = s.resetPin ∧ (clearEvents h s).store = s.store ∧ (clearEvents h s).scan = s.scan ∧
    (clearEvents h s).arbiter = s.arbiter ∧ (clearEvents h s).parked = s.parked ∧ (clearEvents h s).faults = s.faults ∧
    (clearEvents h s).panel = s.panel ∧ (clearEvents h s).conf = s.conf ∧ (∀ i, (clearEvents h s).host i = s.host i) ∧
    (∀ i, (clearEvents h s).lane i = s.lane i) ∧ (∀ i, ((clearEvents h s).port i).present = (s.port i).present) ∧
    (∀ i, ((clearEvents h s).port i).responses = (s.port i).responses) ∧
    (∀ i, ((clearEvents h s).port i).slots = (s.port i).slots) ∧
    (∀ i, ((clearEvents h s).port i).drop = (s.port i).drop) ∧
    (∀ i, ((clearEvents h s).port i).exchange = (s.port i).exchange) ∧
    (∀ i, ((clearEvents h s).port i).resetSeen = (s.port i).resetSeen) ∧
    (∀ i, ((clearEvents h s).port i).lapsedSeen = (s.port i).lapsedSeen) ∧
    (∀ i, (clearEvents h s).isActive i = s.isActive i) ∧ (∀ i, (clearEvents h s).pane i = s.pane i) := by
  simp -implicitDefEqProofs [clearEvents]

@[simp] theorem countOverflow_frame (r : FaultRecord) (s : State) :
    (countOverflow r s).pending = s.pending ∧ (countOverflow r s).choices = s.choices ∧
    (countOverflow r s).resetPin = s.resetPin ∧ (countOverflow r s).store = s.store ∧
    (countOverflow r s).scan = s.scan ∧ (countOverflow r s).arbiter = s.arbiter ∧
    (countOverflow r s).parked = s.parked ∧ (countOverflow r s).panel = s.panel ∧ (countOverflow r s).conf = s.conf ∧
    (∀ i, (countOverflow r s).port i = s.port i) ∧ (∀ i, (countOverflow r s).lane i = s.lane i) ∧
    (∀ i, (countOverflow r s).queue i = s.queue i) ∧ (∀ i, ((countOverflow r s).host i).state = (s.host i).state) ∧
    (∀ i, ((countOverflow r s).host i).lease = (s.host i).lease) ∧
    (∀ i, ((countOverflow r s).host i).warned = (s.host i).warned) ∧
    (∀ i, ((countOverflow r s).host i).reserved = (s.host i).reserved) ∧
    (∀ i, ((countOverflow r s).host i).budget = (s.host i).budget) ∧
    (∀ i, ((countOverflow r s).host i).vote = (s.host i).vote) ∧
    (∀ i, ((countOverflow r s).host i).tickets = (s.host i).tickets) ∧
    (∀ i, ((countOverflow r s).host i).cells = (s.host i).cells) ∧
    (∀ i, ((countOverflow r s).host i).budgetHit = (s.host i).budgetHit) ∧
    (∀ i, (countOverflow r s).isActive i = s.isActive i) ∧ (∀ i, (countOverflow r s).pane i = s.pane i) := by
  unfold countOverflow; (repeat' split) <;> simp -implicitDefEqProofs

@[simp] theorem takeReport_frame (ns : List HostNo) (r : FaultRecord) (s : State) :
    (takeReport ns r s).pending = s.pending ∧ (takeReport ns r s).choices = s.choices ∧
    (takeReport ns r s).resetPin = s.resetPin ∧ (takeReport ns r s).store = s.store ∧
    (takeReport ns r s).scan = s.scan ∧ (takeReport ns r s).arbiter = s.arbiter ∧
    (takeReport ns r s).parked = s.parked ∧ (takeReport ns r s).panel = s.panel ∧ (takeReport ns r s).conf = s.conf ∧
    (∀ i, (takeReport ns r s).lane i = s.lane i) ∧ (∀ i, ((takeReport ns r s).port i).present = (s.port i).present) ∧
    (∀ i, ((takeReport ns r s).port i).responses = (s.port i).responses) ∧
    (∀ i, ((takeReport ns r s).port i).slots = (s.port i).slots) ∧
    (∀ i, ((takeReport ns r s).port i).drop = (s.port i).drop) ∧
    (∀ i, ((takeReport ns r s).port i).exchange = (s.port i).exchange) ∧
    (∀ i, ((takeReport ns r s).port i).resetSeen = (s.port i).resetSeen) ∧
    (∀ i, ((takeReport ns r s).port i).lapsedSeen = (s.port i).lapsedSeen) ∧
    (∀ i, ((takeReport ns r s).host i).state = (s.host i).state) ∧
    (∀ i, ((takeReport ns r s).host i).lease = (s.host i).lease) ∧
    (∀ i, ((takeReport ns r s).host i).warned = (s.host i).warned) ∧
    (∀ i, ((takeReport ns r s).host i).reserved = (s.host i).reserved) ∧
    (∀ i, ((takeReport ns r s).host i).budget = (s.host i).budget) ∧
    (∀ i, ((takeReport ns r s).host i).vote = (s.host i).vote) ∧
    (∀ i, ((takeReport ns r s).host i).tickets = (s.host i).tickets) ∧
    (∀ i, ((takeReport ns r s).host i).cells = (s.host i).cells) ∧
    (∀ i, ((takeReport ns r s).host i).budgetHit = (s.host i).budgetHit) ∧
    (∀ i, (takeReport ns r s).isActive i = s.isActive i) ∧ (∀ i, (takeReport ns r s).pane i = s.pane i) := by
  unfold takeReport; (repeat' split) <;> simp -implicitDefEqProofs

@[simp] theorem reportFault_frame (r : FaultRecord) (s : State) :
    (reportFault r s).pending = s.pending ∧ (reportFault r s).choices = s.choices ∧
    (reportFault r s).resetPin = s.resetPin ∧ (reportFault r s).store = s.store ∧ (reportFault r s).scan = s.scan ∧
    (reportFault r s).arbiter = s.arbiter ∧ (reportFault r s).parked = s.parked ∧ (reportFault r s).panel = s.panel ∧
    (reportFault r s).conf = s.conf ∧ (∀ i, (reportFault r s).lane i = s.lane i) ∧
    (∀ i, ((reportFault r s).port i).present = (s.port i).present) ∧
    (∀ i, ((reportFault r s).port i).responses = (s.port i).responses) ∧
    (∀ i, ((reportFault r s).port i).slots = (s.port i).slots) ∧
    (∀ i, ((reportFault r s).port i).drop = (s.port i).drop) ∧
    (∀ i, ((reportFault r s).port i).exchange = (s.port i).exchange) ∧
    (∀ i, ((reportFault r s).port i).resetSeen = (s.port i).resetSeen) ∧
    (∀ i, ((reportFault r s).port i).lapsedSeen = (s.port i).lapsedSeen) ∧
    (∀ i, ((reportFault r s).host i).state = (s.host i).state) ∧
    (∀ i, ((reportFault r s).host i).lease = (s.host i).lease) ∧
    (∀ i, ((reportFault r s).host i).warned = (s.host i).warned) ∧
    (∀ i, ((reportFault r s).host i).reserved = (s.host i).reserved) ∧
    (∀ i, ((reportFault r s).host i).budget = (s.host i).budget) ∧
    (∀ i, ((reportFault r s).host i).vote = (s.host i).vote) ∧
    (∀ i, ((reportFault r s).host i).tickets = (s.host i).tickets) ∧
    (∀ i, ((reportFault r s).host i).cells = (s.host i).cells) ∧
    (∀ i, ((reportFault r s).host i).budgetHit = (s.host i).budgetHit) ∧
    (∀ i, (reportFault r s).isActive i = s.isActive i) ∧ (∀ i, (reportFault r s).pane i = s.pane i) := by
  simp -implicitDefEqProofs [reportFault]

@[simp] theorem reportUnnoted_frame (r : FaultRecord) (s : State) :
    (reportUnnoted r s).pending = s.pending ∧ (reportUnnoted r s).choices = s.choices ∧
    (reportUnnoted r s).resetPin = s.resetPin ∧ (reportUnnoted r s).store = s.store ∧
    (reportUnnoted r s).scan = s.scan ∧ (reportUnnoted r s).arbiter = s.arbiter ∧
    (reportUnnoted r s).parked = s.parked ∧ (reportUnnoted r s).panel = s.panel ∧ (reportUnnoted r s).conf = s.conf ∧
    (∀ i, (reportUnnoted r s).lane i = s.lane i) ∧ (∀ i, ((reportUnnoted r s).port i).present = (s.port i).present) ∧
    (∀ i, ((reportUnnoted r s).port i).responses = (s.port i).responses) ∧
    (∀ i, ((reportUnnoted r s).port i).slots = (s.port i).slots) ∧
    (∀ i, ((reportUnnoted r s).port i).drop = (s.port i).drop) ∧
    (∀ i, ((reportUnnoted r s).port i).exchange = (s.port i).exchange) ∧
    (∀ i, ((reportUnnoted r s).port i).resetSeen = (s.port i).resetSeen) ∧
    (∀ i, ((reportUnnoted r s).port i).lapsedSeen = (s.port i).lapsedSeen) ∧
    (∀ i, ((reportUnnoted r s).host i).state = (s.host i).state) ∧
    (∀ i, ((reportUnnoted r s).host i).lease = (s.host i).lease) ∧
    (∀ i, ((reportUnnoted r s).host i).warned = (s.host i).warned) ∧
    (∀ i, ((reportUnnoted r s).host i).reserved = (s.host i).reserved) ∧
    (∀ i, ((reportUnnoted r s).host i).budget = (s.host i).budget) ∧
    (∀ i, ((reportUnnoted r s).host i).vote = (s.host i).vote) ∧
    (∀ i, ((reportUnnoted r s).host i).tickets = (s.host i).tickets) ∧
    (∀ i, ((reportUnnoted r s).host i).cells = (s.host i).cells) ∧
    (∀ i, ((reportUnnoted r s).host i).budgetHit = (s.host i).budgetHit) ∧
    (∀ i, (reportUnnoted r s).isActive i = s.isActive i) ∧ (∀ i, (reportUnnoted r s).pane i = s.pane i) := by
  simp -implicitDefEqProofs [reportUnnoted]

@[simp] theorem refreshUrgency_frame (s : State) :
    (refreshUrgency s).pending = s.pending ∧ (refreshUrgency s).choices = s.choices ∧
    (refreshUrgency s).resetPin = s.resetPin ∧ (refreshUrgency s).store = s.store ∧ (refreshUrgency s).scan = s.scan ∧
    (refreshUrgency s).parked = s.parked ∧ (refreshUrgency s).faults = s.faults ∧ (refreshUrgency s).panel = s.panel ∧
    (refreshUrgency s).conf = s.conf ∧ (refreshUrgency s).arbiter.access = s.arbiter.access ∧
    (refreshUrgency s).arbiter.lastGrant = s.arbiter.lastGrant ∧
    (refreshUrgency s).arbiter.rotation = s.arbiter.rotation ∧ (∀ i, (refreshUrgency s).port i = s.port i) ∧
    (∀ i, (refreshUrgency s).host i = s.host i) ∧ (∀ i, (refreshUrgency s).lane i = s.lane i) ∧
    (∀ i, (refreshUrgency s).queue i = s.queue i) ∧ (∀ i, (refreshUrgency s).isActive i = s.isActive i) ∧
    (∀ i, (refreshUrgency s).pane i = s.pane i) := by
  simp -implicitDefEqProofs [refreshUrgency]

@[simp] theorem chargeBudget_frame (h : HostNo) (n : Nat) (s : State) :
    (chargeBudget h n s).pending = s.pending ∧ (chargeBudget h n s).choices = s.choices ∧
    (chargeBudget h n s).resetPin = s.resetPin ∧ (chargeBudget h n s).store = s.store ∧
    (chargeBudget h n s).scan = s.scan ∧ (chargeBudget h n s).arbiter = s.arbiter ∧
    (chargeBudget h n s).parked = s.parked ∧ (chargeBudget h n s).faults = s.faults ∧
    (chargeBudget h n s).panel = s.panel ∧ (chargeBudget h n s).conf = s.conf ∧
    (∀ i, (chargeBudget h n s).port i = s.port i) ∧ (∀ i, (chargeBudget h n s).lane i = s.lane i) ∧
    (∀ i, (chargeBudget h n s).queue i = s.queue i) ∧ (∀ i, ((chargeBudget h n s).host i).state = (s.host i).state) ∧
    (∀ i, ((chargeBudget h n s).host i).lease = (s.host i).lease) ∧
    (∀ i, ((chargeBudget h n s).host i).warned = (s.host i).warned) ∧
    (∀ i, ((chargeBudget h n s).host i).reserved = (s.host i).reserved) ∧
    (∀ i, ((chargeBudget h n s).host i).budget = (s.host i).budget) ∧
    (∀ i, ((chargeBudget h n s).host i).vote = (s.host i).vote) ∧
    (∀ i, ((chargeBudget h n s).host i).tickets = (s.host i).tickets) ∧
    (∀ i, ((chargeBudget h n s).host i).overflow = (s.host i).overflow) ∧
    (∀ i, ((chargeBudget h n s).host i).budgetHit = (s.host i).budgetHit) ∧
    (∀ i, (chargeBudget h n s).isActive i = s.isActive i) ∧ (∀ i, (chargeBudget h n s).pane i = s.pane i) := by
  simp -implicitDefEqProofs [chargeBudget]

@[simp] theorem loadLease_frame (h : HostNo) (s : State) :
    (loadLease h s).pending = s.pending ∧ (loadLease h s).choices = s.choices ∧ (loadLease h s).resetPin = s.resetPin ∧
    (loadLease h s).store = s.store ∧ (loadLease h s).scan = s.scan ∧ (loadLease h s).arbiter = s.arbiter ∧
    (loadLease h s).parked = s.parked ∧ (loadLease h s).faults = s.faults ∧ (loadLease h s).panel = s.panel ∧
    (loadLease h s).conf = s.conf ∧ (∀ i, (loadLease h s).port i = s.port i) ∧
    (∀ i, (loadLease h s).lane i = s.lane i) ∧ (∀ i, (loadLease h s).queue i = s.queue i) ∧
    (∀ i, ((loadLease h s).host i).state = (s.host i).state) ∧
    (∀ i, ((loadLease h s).host i).reserved = (s.host i).reserved) ∧
    (∀ i, ((loadLease h s).host i).budget = (s.host i).budget) ∧
    (∀ i, ((loadLease h s).host i).vote = (s.host i).vote) ∧
    (∀ i, ((loadLease h s).host i).tickets = (s.host i).tickets) ∧
    (∀ i, ((loadLease h s).host i).cells = (s.host i).cells) ∧
    (∀ i, ((loadLease h s).host i).overflow = (s.host i).overflow) ∧
    (∀ i, ((loadLease h s).host i).budgetHit = (s.host i).budgetHit) ∧
    (∀ i, (loadLease h s).isActive i = s.isActive i) ∧ (∀ i, (loadLease h s).pane i = s.pane i) := by
  simp -implicitDefEqProofs [loadLease]

end Sys2Proof.Machine
end

