-- ==== Sys2Proof/Laws/CommitFrames.lean ====
section
/-! SUPPORT. What taking held requests and recording commits leave as it stands. -/

set_option Elab.async false

namespace Sys2Proof.Machine

@[simp] theorem setAccess_frame (h : HostNo) (a : AccessState) (s : State) :
    (setAccess h a s).pending = s.pending ∧ (setAccess h a s).choices = s.choices ∧
    (setAccess h a s).resetPin = s.resetPin ∧ (setAccess h a s).store = s.store ∧ (setAccess h a s).scan = s.scan ∧
    (setAccess h a s).arbiter = s.arbiter ∧ (setAccess h a s).parked = s.parked ∧ (setAccess h a s).faults = s.faults ∧
    (setAccess h a s).panel = s.panel ∧ (setAccess h a s).conf = s.conf ∧ (∀ i, (setAccess h a s).port i = s.port i) ∧
    (∀ i, (setAccess h a s).host i = s.host i) ∧ (∀ i, (setAccess h a s).queue i = s.queue i) ∧
    (∀ i, ((setAccess h a s).lane i).queued = (s.lane i).queued) ∧ (∀ i, (setAccess h a s).isActive i = s.isActive i) ∧
    (∀ i, (setAccess h a s).pane i = s.pane i) := by
  simp -implicitDefEqProofs [setAccess]

@[simp] theorem withdrawOffer_frame (p : PaneNo) (h : HostNo) (s : State) :
    (withdrawOffer p h s).pending = s.pending ∧ (withdrawOffer p h s).choices = s.choices ∧
    (withdrawOffer p h s).resetPin = s.resetPin ∧ (withdrawOffer p h s).store = s.store ∧
    (withdrawOffer p h s).scan = s.scan ∧ (withdrawOffer p h s).arbiter = s.arbiter ∧
    (withdrawOffer p h s).parked = s.parked ∧ (withdrawOffer p h s).faults = s.faults ∧
    (withdrawOffer p h s).panel = s.panel ∧ (withdrawOffer p h s).conf = s.conf ∧
    (∀ i, (withdrawOffer p h s).port i = s.port i) ∧ (∀ i, (withdrawOffer p h s).host i = s.host i) ∧
    (∀ i, (withdrawOffer p h s).queue i = s.queue i) ∧
    (∀ i, ((withdrawOffer p h s).lane i).queued = (s.lane i).queued) ∧
    (∀ i, (withdrawOffer p h s).isActive i = s.isActive i) ∧ (∀ i, (withdrawOffer p h s).pane i = s.pane i) := by
  unfold withdrawOffer; (repeat' split) <;> simp -implicitDefEqProofs

@[simp] theorem recordCommit_frame (h : HostNo) (p : PaneNo) (s : State) :
    (recordCommit h p s).pending = s.pending ∧ (recordCommit h p s).choices = s.choices ∧
    (recordCommit h p s).resetPin = s.resetPin ∧ (recordCommit h p s).store = s.store ∧
    (recordCommit h p s).scan = s.scan ∧ (recordCommit h p s).arbiter = s.arbiter ∧
    (recordCommit h p s).parked = s.parked ∧ (recordCommit h p s).faults = s.faults ∧
    (recordCommit h p s).panel = s.panel ∧ (recordCommit h p s).conf = s.conf ∧
    (∀ i, (recordCommit h p s).port i = s.port i) ∧ (∀ i, (recordCommit h p s).queue i = s.queue i) ∧
    (∀ i, ((recordCommit h p s).host i).state = (s.host i).state) ∧
    (∀ i, ((recordCommit h p s).host i).lease = (s.host i).lease) ∧
    (∀ i, ((recordCommit h p s).host i).warned = (s.host i).warned) ∧
    (∀ i, ((recordCommit h p s).host i).reserved = (s.host i).reserved) ∧
    (∀ i, ((recordCommit h p s).host i).budget = (s.host i).budget) ∧
    (∀ i, ((recordCommit h p s).host i).vote = (s.host i).vote) ∧
    (∀ i, ((recordCommit h p s).host i).cells = (s.host i).cells) ∧
    (∀ i, ((recordCommit h p s).host i).overflow = (s.host i).overflow) ∧
    (∀ i, ((recordCommit h p s).lane i).queued = (s.lane i).queued) ∧
    (∀ i, ((recordCommit h p s).host i).budgetHit = (s.host i).budgetHit) ∧
    (∀ i, (recordCommit h p s).isActive i = s.isActive i) ∧
    (∀ i, ((recordCommit h p s).pane i).state = (s.pane i).state) ∧
    (∀ i, ((recordCommit h p s).pane i).owner = (s.pane i).owner) ∧
    (∀ i, ((recordCommit h p s).pane i).former = (s.pane i).former) ∧
    (∀ i, ((recordCommit h p s).pane i).guest = (s.pane i).guest) ∧
    (∀ i, ((recordCommit h p s).pane i).current = (s.pane i).current) ∧
    (∀ i, ((recordCommit h p s).pane i).staged = (s.pane i).staged) ∧
    (∀ i, ((recordCommit h p s).pane i).modes = (s.pane i).modes) ∧
    (∀ i, ((recordCommit h p s).pane i).tears = (s.pane i).tears) := by
  unfold recordCommit; dsimp only; (repeat' split) <;> simp -implicitDefEqProofs

@[simp] theorem takeCommit_frame (h : HostNo) (p : PaneNo) (tag : Byte) (s : State) :
    (takeCommit h p tag s).pending = s.pending ∧ (takeCommit h p tag s).choices = s.choices ∧
    (takeCommit h p tag s).resetPin = s.resetPin ∧ (takeCommit h p tag s).store = s.store ∧
    (takeCommit h p tag s).scan = s.scan ∧ (takeCommit h p tag s).arbiter = s.arbiter ∧
    (takeCommit h p tag s).parked = s.parked ∧ (takeCommit h p tag s).faults = s.faults ∧
    (takeCommit h p tag s).panel = s.panel ∧ (takeCommit h p tag s).conf = s.conf ∧
    (∀ i, (takeCommit h p tag s).queue i = s.queue i) ∧
    (∀ i, ((takeCommit h p tag s).port i).present = (s.port i).present) ∧
    (∀ i, ((takeCommit h p tag s).port i).drop = (s.port i).drop) ∧
    (∀ i, ((takeCommit h p tag s).port i).exchange = (s.port i).exchange) ∧
    (∀ i, ((takeCommit h p tag s).port i).resetSeen = (s.port i).resetSeen) ∧
    (∀ i, ((takeCommit h p tag s).port i).lapsedSeen = (s.port i).lapsedSeen) ∧
    (∀ i, ((takeCommit h p tag s).host i).state = (s.host i).state) ∧
    (∀ i, ((takeCommit h p tag s).host i).lease = (s.host i).lease) ∧
    (∀ i, ((takeCommit h p tag s).host i).warned = (s.host i).warned) ∧
    (∀ i, ((takeCommit h p tag s).host i).reserved = (s.host i).reserved) ∧
    (∀ i, ((takeCommit h p tag s).host i).budget = (s.host i).budget) ∧
    (∀ i, ((takeCommit h p tag s).host i).vote = (s.host i).vote) ∧
    (∀ i, ((takeCommit h p tag s).host i).cells = (s.host i).cells) ∧
    (∀ i, ((takeCommit h p tag s).host i).overflow = (s.host i).overflow) ∧
    (∀ i, ((takeCommit h p tag s).lane i).queued = (s.lane i).queued) ∧
    (∀ i, ((takeCommit h p tag s).host i).budgetHit = (s.host i).budgetHit) ∧
    (∀ i, (takeCommit h p tag s).isActive i = s.isActive i) ∧
    (∀ i, ((takeCommit h p tag s).pane i).state = (s.pane i).state) ∧
    (∀ i, ((takeCommit h p tag s).pane i).owner = (s.pane i).owner) ∧
    (∀ i, ((takeCommit h p tag s).pane i).former = (s.pane i).former) ∧
    (∀ i, ((takeCommit h p tag s).pane i).guest = (s.pane i).guest) ∧
    (∀ i, ((takeCommit h p tag s).pane i).current = (s.pane i).current) ∧
    (∀ i, ((takeCommit h p tag s).pane i).staged = (s.pane i).staged) ∧
    (∀ i, ((takeCommit h p tag s).pane i).modes = (s.pane i).modes) ∧
    (∀ i, ((takeCommit h p tag s).pane i).tears = (s.pane i).tears) := by
  simp -implicitDefEqProofs [takeCommit]

@[simp] theorem takeHeldStage_frame (h : HostNo) (p : PaneNo) (tag : Byte) (r : Option Rect) (s : State) :
    (takeHeldStage h p tag r s).pending = s.pending ∧ (takeHeldStage h p tag r s).choices = s.choices ∧
    (takeHeldStage h p tag r s).resetPin = s.resetPin ∧ (takeHeldStage h p tag r s).store = s.store ∧
    (takeHeldStage h p tag r s).scan = s.scan ∧ (takeHeldStage h p tag r s).arbiter = s.arbiter ∧
    (takeHeldStage h p tag r s).parked = s.parked ∧ (takeHeldStage h p tag r s).faults = s.faults ∧
    (takeHeldStage h p tag r s).panel = s.panel ∧ (takeHeldStage h p tag r s).conf = s.conf ∧
    (∀ i, (takeHeldStage h p tag r s).host i = s.host i) ∧ (∀ i, (takeHeldStage h p tag r s).lane i = s.lane i) ∧
    (∀ i, (takeHeldStage h p tag r s).queue i = s.queue i) ∧
    (∀ i, ((takeHeldStage h p tag r s).port i).present = (s.port i).present) ∧
    (∀ i, ((takeHeldStage h p tag r s).port i).drop = (s.port i).drop) ∧
    (∀ i, ((takeHeldStage h p tag r s).port i).exchange = (s.port i).exchange) ∧
    (∀ i, ((takeHeldStage h p tag r s).port i).resetSeen = (s.port i).resetSeen) ∧
    (∀ i, ((takeHeldStage h p tag r s).port i).lapsedSeen = (s.port i).lapsedSeen) ∧
    (∀ i, (takeHeldStage h p tag r s).isActive i = s.isActive i) ∧
    (∀ i, ((takeHeldStage h p tag r s).pane i).state = (s.pane i).state) ∧
    (∀ i, ((takeHeldStage h p tag r s).pane i).owner = (s.pane i).owner) ∧
    (∀ i, ((takeHeldStage h p tag r s).pane i).former = (s.pane i).former) ∧
    (∀ i, ((takeHeldStage h p tag r s).pane i).guest = (s.pane i).guest) ∧
    (∀ i, ((takeHeldStage h p tag r s).pane i).current = (s.pane i).current) ∧
    (∀ i, ((takeHeldStage h p tag r s).pane i).modes = (s.pane i).modes) ∧
    (∀ i, ((takeHeldStage h p tag r s).pane i).tears = (s.pane i).tears) ∧
    (∀ i, ((takeHeldStage h p tag r s).pane i).commit = (s.pane i).commit) := by
  unfold takeHeldStage; (repeat' split) <;> simp -implicitDefEqProofs

@[simp] theorem takeStageIfIdle_frame (p : PaneNo) (s : State) :
    (takeStageIfIdle p s).pending = s.pending ∧ (takeStageIfIdle p s).choices = s.choices ∧
    (takeStageIfIdle p s).resetPin = s.resetPin ∧ (takeStageIfIdle p s).store = s.store ∧
    (takeStageIfIdle p s).scan = s.scan ∧ (takeStageIfIdle p s).arbiter = s.arbiter ∧
    (takeStageIfIdle p s).parked = s.parked ∧ (takeStageIfIdle p s).faults = s.faults ∧
    (takeStageIfIdle p s).panel = s.panel ∧ (takeStageIfIdle p s).conf = s.conf ∧
    (∀ i, (takeStageIfIdle p s).host i = s.host i) ∧ (∀ i, (takeStageIfIdle p s).lane i = s.lane i) ∧
    (∀ i, (takeStageIfIdle p s).queue i = s.queue i) ∧
    (∀ i, ((takeStageIfIdle p s).port i).present = (s.port i).present) ∧
    (∀ i, ((takeStageIfIdle p s).port i).drop = (s.port i).drop) ∧
    (∀ i, ((takeStageIfIdle p s).port i).exchange = (s.port i).exchange) ∧
    (∀ i, ((takeStageIfIdle p s).port i).resetSeen = (s.port i).resetSeen) ∧
    (∀ i, ((takeStageIfIdle p s).port i).lapsedSeen = (s.port i).lapsedSeen) ∧
    (∀ i, (takeStageIfIdle p s).isActive i = s.isActive i) ∧
    (∀ i, ((takeStageIfIdle p s).pane i).state = (s.pane i).state) ∧
    (∀ i, ((takeStageIfIdle p s).pane i).owner = (s.pane i).owner) ∧
    (∀ i, ((takeStageIfIdle p s).pane i).former = (s.pane i).former) ∧
    (∀ i, ((takeStageIfIdle p s).pane i).guest = (s.pane i).guest) ∧
    (∀ i, ((takeStageIfIdle p s).pane i).current = (s.pane i).current) ∧
    (∀ i, ((takeStageIfIdle p s).pane i).modes = (s.pane i).modes) ∧
    (∀ i, ((takeStageIfIdle p s).pane i).tears = (s.pane i).tears) ∧
    (∀ i, ((takeStageIfIdle p s).pane i).commit = (s.pane i).commit) := by
  unfold takeStageIfIdle; (repeat' split) <;> simp -implicitDefEqProofs

@[simp] theorem countForCommit_frame (h : HostNo) (p : PaneNo) (s : State) :
    (countForCommit h p s).pending = s.pending ∧ (countForCommit h p s).choices = s.choices ∧
    (countForCommit h p s).resetPin = s.resetPin ∧ (countForCommit h p s).store = s.store ∧
    (countForCommit h p s).scan = s.scan ∧ (countForCommit h p s).arbiter = s.arbiter ∧
    (countForCommit h p s).parked = s.parked ∧ (countForCommit h p s).faults = s.faults ∧
    (countForCommit h p s).panel = s.panel ∧ (countForCommit h p s).conf = s.conf ∧
    (∀ i, (countForCommit h p s).queue i = s.queue i) ∧
    (∀ i, ((countForCommit h p s).port i).present = (s.port i).present) ∧
    (∀ i, ((countForCommit h p s).port i).drop = (s.port i).drop) ∧
    (∀ i, ((countForCommit h p s).port i).exchange = (s.port i).exchange) ∧
    (∀ i, ((countForCommit h p s).port i).resetSeen = (s.port i).resetSeen) ∧
    (∀ i, ((countForCommit h p s).port i).lapsedSeen = (s.port i).lapsedSeen) ∧
    (∀ i, ((countForCommit h p s).host i).state = (s.host i).state) ∧
    (∀ i, ((countForCommit h p s).host i).lease = (s.host i).lease) ∧
    (∀ i, ((countForCommit h p s).host i).warned = (s.host i).warned) ∧
    (∀ i, ((countForCommit h p s).host i).reserved = (s.host i).reserved) ∧
    (∀ i, ((countForCommit h p s).host i).budget = (s.host i).budget) ∧
    (∀ i, ((countForCommit h p s).host i).vote = (s.host i).vote) ∧
    (∀ i, ((countForCommit h p s).host i).cells = (s.host i).cells) ∧
    (∀ i, ((countForCommit h p s).host i).overflow = (s.host i).overflow) ∧
    (∀ i, ((countForCommit h p s).lane i).queued = (s.lane i).queued) ∧
    (∀ i, ((countForCommit h p s).host i).budgetHit = (s.host i).budgetHit) ∧
    (∀ i, (countForCommit h p s).isActive i = s.isActive i) ∧
    (∀ i, ((countForCommit h p s).pane i).state = (s.pane i).state) ∧
    (∀ i, ((countForCommit h p s).pane i).owner = (s.pane i).owner) ∧
    (∀ i, ((countForCommit h p s).pane i).former = (s.pane i).former) ∧
    (∀ i, ((countForCommit h p s).pane i).guest = (s.pane i).guest) ∧
    (∀ i, ((countForCommit h p s).pane i).current = (s.pane i).current) ∧
    (∀ i, ((countForCommit h p s).pane i).staged = (s.pane i).staged) ∧
    (∀ i, ((countForCommit h p s).pane i).modes = (s.pane i).modes) ∧
    (∀ i, ((countForCommit h p s).pane i).tears = (s.pane i).tears) := by
  unfold countForCommit; (repeat' split) <;> simp -implicitDefEqProofs

@[simp] theorem reportEnd_frame (h : HostNo) (sel : Byte) (s : State) :
    (reportEnd h sel s).pending = s.pending ∧ (reportEnd h sel s).choices = s.choices ∧
    (reportEnd h sel s).resetPin = s.resetPin ∧ (reportEnd h sel s).store = s.store ∧
    (reportEnd h sel s).scan = s.scan ∧ (reportEnd h sel s).arbiter = s.arbiter ∧
    (reportEnd h sel s).parked = s.parked ∧ (reportEnd h sel s).faults = s.faults ∧
    (reportEnd h sel s).panel = s.panel ∧ (reportEnd h sel s).conf = s.conf ∧
    (∀ i, (reportEnd h sel s).queue i = s.queue i) ∧ (∀ i, ((reportEnd h sel s).port i).present = (s.port i).present) ∧
    (∀ i, ((reportEnd h sel s).port i).drop = (s.port i).drop) ∧
    (∀ i, ((reportEnd h sel s).port i).exchange = (s.port i).exchange) ∧
    (∀ i, ((reportEnd h sel s).port i).resetSeen = (s.port i).resetSeen) ∧
    (∀ i, ((reportEnd h sel s).port i).lapsedSeen = (s.port i).lapsedSeen) ∧
    (∀ i, ((reportEnd h sel s).host i).state = (s.host i).state) ∧
    (∀ i, ((reportEnd h sel s).host i).lease = (s.host i).lease) ∧
    (∀ i, ((reportEnd h sel s).host i).warned = (s.host i).warned) ∧
    (∀ i, ((reportEnd h sel s).host i).reserved = (s.host i).reserved) ∧
    (∀ i, ((reportEnd h sel s).host i).budget = (s.host i).budget) ∧
    (∀ i, ((reportEnd h sel s).host i).vote = (s.host i).vote) ∧
    (∀ i, ((reportEnd h sel s).host i).cells = (s.host i).cells) ∧
    (∀ i, ((reportEnd h sel s).host i).overflow = (s.host i).overflow) ∧
    (∀ i, ((reportEnd h sel s).lane i).queued = (s.lane i).queued) ∧
    (∀ i, ((reportEnd h sel s).host i).budgetHit = (s.host i).budgetHit) ∧
    (∀ i, (reportEnd h sel s).isActive i = s.isActive i) ∧
    (∀ i, ((reportEnd h sel s).pane i).state = (s.pane i).state) ∧
    (∀ i, ((reportEnd h sel s).pane i).owner = (s.pane i).owner) ∧
    (∀ i, ((reportEnd h sel s).pane i).former = (s.pane i).former) ∧
    (∀ i, ((reportEnd h sel s).pane i).guest = (s.pane i).guest) ∧
    (∀ i, ((reportEnd h sel s).pane i).current = (s.pane i).current) ∧
    (∀ i, ((reportEnd h sel s).pane i).modes = (s.pane i).modes) ∧
    (∀ i, ((reportEnd h sel s).pane i).tears = (s.pane i).tears) := by
  unfold reportEnd; (repeat' split) <;> simp -implicitDefEqProofs

end Sys2Proof.Machine
end

