-- ==== Sys2Proof/Laws/WriteEngineFrames.lean ====
section
/-! SUPPORT. What the operations of the Write Engine leave as it stands. -/

set_option Elab.async false

namespace Sys2Proof.Machine

@[simp] theorem noteBudget_frame (h : HostNo) (p : PaneNo) (s : State) :
    (noteBudget h p s).pending = s.pending ∧ (noteBudget h p s).choices = s.choices ∧
    (noteBudget h p s).resetPin = s.resetPin ∧ (noteBudget h p s).store = s.store ∧ (noteBudget h p s).scan = s.scan ∧
    (noteBudget h p s).arbiter = s.arbiter ∧ (noteBudget h p s).parked = s.parked ∧
    (noteBudget h p s).faults = s.faults ∧ (noteBudget h p s).panel = s.panel ∧ (noteBudget h p s).conf = s.conf ∧
    (∀ i, (noteBudget h p s).lane i = s.lane i) ∧ (∀ i, ((noteBudget h p s).port i).present = (s.port i).present) ∧
    (∀ i, ((noteBudget h p s).port i).responses = (s.port i).responses) ∧
    (∀ i, ((noteBudget h p s).port i).slots = (s.port i).slots) ∧
    (∀ i, ((noteBudget h p s).port i).drop = (s.port i).drop) ∧
    (∀ i, ((noteBudget h p s).port i).exchange = (s.port i).exchange) ∧
    (∀ i, ((noteBudget h p s).port i).resetSeen = (s.port i).resetSeen) ∧
    (∀ i, ((noteBudget h p s).port i).lapsedSeen = (s.port i).lapsedSeen) ∧
    (∀ i, ((noteBudget h p s).host i).state = (s.host i).state) ∧
    (∀ i, ((noteBudget h p s).host i).lease = (s.host i).lease) ∧
    (∀ i, ((noteBudget h p s).host i).warned = (s.host i).warned) ∧
    (∀ i, ((noteBudget h p s).host i).reserved = (s.host i).reserved) ∧
    (∀ i, ((noteBudget h p s).host i).budget = (s.host i).budget) ∧
    (∀ i, ((noteBudget h p s).host i).vote = (s.host i).vote) ∧
    (∀ i, ((noteBudget h p s).host i).tickets = (s.host i).tickets) ∧
    (∀ i, ((noteBudget h p s).host i).cells = (s.host i).cells) ∧
    (∀ i, ((noteBudget h p s).host i).overflow = (s.host i).overflow) ∧
    (∀ i, (noteBudget h p s).isActive i = s.isActive i) ∧ (∀ i, (noteBudget h p s).pane i = s.pane i) := by
  unfold noteBudget; (repeat' split) <;> simp -implicitDefEqProofs

@[simp] theorem testAccess_frame (h : HostNo) (s : State) :
    (testAccess h s).pending = s.pending ∧ (testAccess h s).choices = s.choices ∧
    (testAccess h s).resetPin = s.resetPin ∧ (testAccess h s).store = s.store ∧ (testAccess h s).scan = s.scan ∧
    (testAccess h s).arbiter = s.arbiter ∧ (testAccess h s).parked = s.parked ∧ (testAccess h s).faults = s.faults ∧
    (testAccess h s).panel = s.panel ∧ (testAccess h s).conf = s.conf ∧
    (∀ i, ((testAccess h s).port i).present = (s.port i).present) ∧
    (∀ i, ((testAccess h s).port i).responses = (s.port i).responses) ∧
    (∀ i, ((testAccess h s).port i).slots = (s.port i).slots) ∧
    (∀ i, ((testAccess h s).port i).drop = (s.port i).drop) ∧
    (∀ i, ((testAccess h s).port i).exchange = (s.port i).exchange) ∧
    (∀ i, ((testAccess h s).port i).resetSeen = (s.port i).resetSeen) ∧
    (∀ i, ((testAccess h s).port i).lapsedSeen = (s.port i).lapsedSeen) ∧
    (∀ i, ((testAccess h s).host i).state = (s.host i).state) ∧
    (∀ i, ((testAccess h s).host i).lease = (s.host i).lease) ∧
    (∀ i, ((testAccess h s).host i).warned = (s.host i).warned) ∧
    (∀ i, ((testAccess h s).host i).reserved = (s.host i).reserved) ∧
    (∀ i, ((testAccess h s).host i).budget = (s.host i).budget) ∧
    (∀ i, ((testAccess h s).host i).vote = (s.host i).vote) ∧
    (∀ i, ((testAccess h s).host i).tickets = (s.host i).tickets) ∧
    (∀ i, ((testAccess h s).host i).cells = (s.host i).cells) ∧
    (∀ i, ((testAccess h s).host i).overflow = (s.host i).overflow) ∧
    (∀ i, ((testAccess h s).lane i).queued = (s.lane i).queued) ∧ (∀ i, (testAccess h s).isActive i = s.isActive i) ∧
    (∀ i, (testAccess h s).pane i = s.pane i) := by
  unfold testAccess; (repeat' split) <;> simp -implicitDefEqProofs

@[simp] theorem startOp_frame (h : HostNo) (op : CellOp) (rest : List CellOp) (s : State) :
    (startOp h op rest s).pending = s.pending ∧ (startOp h op rest s).choices = s.choices ∧
    (startOp h op rest s).resetPin = s.resetPin ∧ (startOp h op rest s).store = s.store ∧
    (startOp h op rest s).scan = s.scan ∧ (startOp h op rest s).arbiter = s.arbiter ∧
    (startOp h op rest s).parked = s.parked ∧ (startOp h op rest s).faults = s.faults ∧
    (startOp h op rest s).panel = s.panel ∧ (startOp h op rest s).conf = s.conf ∧
    (∀ i, ((startOp h op rest s).port i).present = (s.port i).present) ∧
    (∀ i, ((startOp h op rest s).port i).drop = (s.port i).drop) ∧
    (∀ i, ((startOp h op rest s).port i).exchange = (s.port i).exchange) ∧
    (∀ i, ((startOp h op rest s).port i).resetSeen = (s.port i).resetSeen) ∧
    (∀ i, ((startOp h op rest s).port i).lapsedSeen = (s.port i).lapsedSeen) ∧
    (∀ i, ((startOp h op rest s).host i).state = (s.host i).state) ∧
    (∀ i, ((startOp h op rest s).host i).lease = (s.host i).lease) ∧
    (∀ i, ((startOp h op rest s).host i).warned = (s.host i).warned) ∧
    (∀ i, ((startOp h op rest s).host i).reserved = (s.host i).reserved) ∧
    (∀ i, ((startOp h op rest s).host i).budget = (s.host i).budget) ∧
    (∀ i, ((startOp h op rest s).host i).vote = (s.host i).vote) ∧
    (∀ i, ((startOp h op rest s).host i).cells = (s.host i).cells) ∧
    (∀ i, ((startOp h op rest s).host i).overflow = (s.host i).overflow) ∧
    (∀ i, (startOp h op rest s).isActive i = s.isActive i) ∧
    (∀ i, ((startOp h op rest s).pane i).state = (s.pane i).state) ∧
    (∀ i, ((startOp h op rest s).pane i).owner = (s.pane i).owner) ∧
    (∀ i, ((startOp h op rest s).pane i).former = (s.pane i).former) ∧
    (∀ i, ((startOp h op rest s).pane i).guest = (s.pane i).guest) ∧
    (∀ i, ((startOp h op rest s).pane i).current = (s.pane i).current) ∧
    (∀ i, ((startOp h op rest s).pane i).modes = (s.pane i).modes) ∧
    (∀ i, ((startOp h op rest s).pane i).tears = (s.pane i).tears) := by
  unfold startOp; (repeat' split) <;> simp -implicitDefEqProofs

@[simp] theorem startHead_frame (h : HostNo) (n : Nat) (s : State) :
    (startHead h n s).pending = s.pending ∧ (startHead h n s).choices = s.choices ∧
    (startHead h n s).resetPin = s.resetPin ∧ (startHead h n s).store = s.store ∧ (startHead h n s).scan = s.scan ∧
    (startHead h n s).arbiter = s.arbiter ∧ (startHead h n s).parked = s.parked ∧ (startHead h n s).faults = s.faults ∧
    (startHead h n s).panel = s.panel ∧ (startHead h n s).conf = s.conf ∧
    (∀ i, ((startHead h n s).port i).present = (s.port i).present) ∧
    (∀ i, ((startHead h n s).port i).drop = (s.port i).drop) ∧
    (∀ i, ((startHead h n s).port i).exchange = (s.port i).exchange) ∧
    (∀ i, ((startHead h n s).port i).resetSeen = (s.port i).resetSeen) ∧
    (∀ i, ((startHead h n s).port i).lapsedSeen = (s.port i).lapsedSeen) ∧
    (∀ i, ((startHead h n s).host i).state = (s.host i).state) ∧
    (∀ i, ((startHead h n s).host i).lease = (s.host i).lease) ∧
    (∀ i, ((startHead h n s).host i).warned = (s.host i).warned) ∧
    (∀ i, ((startHead h n s).host i).reserved = (s.host i).reserved) ∧
    (∀ i, ((startHead h n s).host i).budget = (s.host i).budget) ∧
    (∀ i, ((startHead h n s).host i).vote = (s.host i).vote) ∧
    (∀ i, ((startHead h n s).host i).cells = (s.host i).cells) ∧
    (∀ i, ((startHead h n s).host i).overflow = (s.host i).overflow) ∧
    (∀ i, (startHead h n s).isActive i = s.isActive i) ∧ (∀ i, ((startHead h n s).pane i).state = (s.pane i).state) ∧
    (∀ i, ((startHead h n s).pane i).owner = (s.pane i).owner) ∧
    (∀ i, ((startHead h n s).pane i).former = (s.pane i).former) ∧
    (∀ i, ((startHead h n s).pane i).guest = (s.pane i).guest) ∧
    (∀ i, ((startHead h n s).pane i).current = (s.pane i).current) ∧
    (∀ i, ((startHead h n s).pane i).modes = (s.pane i).modes) ∧
    (∀ i, ((startHead h n s).pane i).tears = (s.pane i).tears) := by
  induction n generalizing s with
  | zero => simp [startHead]
  | succ n ih => unfold startHead; (repeat' split) <;> simp -implicitDefEqProofs [ih]

@[simp] theorem startServices_frame (s : State) :
    (startServices s).pending = s.pending ∧ (startServices s).choices = s.choices ∧
    (startServices s).resetPin = s.resetPin ∧ (startServices s).store = s.store ∧ (startServices s).scan = s.scan ∧
    (startServices s).arbiter = s.arbiter ∧ (startServices s).parked = s.parked ∧ (startServices s).faults = s.faults ∧
    (startServices s).panel = s.panel ∧ (startServices s).conf = s.conf ∧
    (∀ i, ((startServices s).port i).present = (s.port i).present) ∧
    (∀ i, ((startServices s).port i).drop = (s.port i).drop) ∧
    (∀ i, ((startServices s).port i).exchange = (s.port i).exchange) ∧
    (∀ i, ((startServices s).port i).resetSeen = (s.port i).resetSeen) ∧
    (∀ i, ((startServices s).port i).lapsedSeen = (s.port i).lapsedSeen) ∧
    (∀ i, ((startServices s).host i).state = (s.host i).state) ∧
    (∀ i, ((startServices s).host i).lease = (s.host i).lease) ∧
    (∀ i, ((startServices s).host i).warned = (s.host i).warned) ∧
    (∀ i, ((startServices s).host i).reserved = (s.host i).reserved) ∧
    (∀ i, ((startServices s).host i).budget = (s.host i).budget) ∧
    (∀ i, ((startServices s).host i).vote = (s.host i).vote) ∧
    (∀ i, ((startServices s).host i).cells = (s.host i).cells) ∧
    (∀ i, ((startServices s).host i).overflow = (s.host i).overflow) ∧
    (∀ i, (startServices s).isActive i = s.isActive i) ∧ (∀ i, ((startServices s).pane i).state = (s.pane i).state) ∧
    (∀ i, ((startServices s).pane i).owner = (s.pane i).owner) ∧
    (∀ i, ((startServices s).pane i).former = (s.pane i).former) ∧
    (∀ i, ((startServices s).pane i).guest = (s.pane i).guest) ∧
    (∀ i, ((startServices s).pane i).current = (s.pane i).current) ∧
    (∀ i, ((startServices s).pane i).modes = (s.pane i).modes) ∧
    (∀ i, ((startServices s).pane i).tears = (s.pane i).tears) := by
  simp -implicitDefEqProofs [startServices]

@[simp] theorem finishOp_frame (h : HostNo) (v : Service) (r : Response) (s : State) :
    (finishOp h v r s).pending = s.pending ∧ (finishOp h v r s).choices = s.choices ∧
    (finishOp h v r s).resetPin = s.resetPin ∧ (finishOp h v r s).store = s.store ∧ (finishOp h v r s).scan = s.scan ∧
    (finishOp h v r s).arbiter = s.arbiter ∧ (finishOp h v r s).parked = s.parked ∧
    (finishOp h v r s).faults = s.faults ∧ (finishOp h v r s).panel = s.panel ∧ (finishOp h v r s).conf = s.conf ∧
    (∀ i, (finishOp h v r s).queue i = s.queue i) ∧ (∀ i, ((finishOp h v r s).port i).present = (s.port i).present) ∧
    (∀ i, ((finishOp h v r s).port i).drop = (s.port i).drop) ∧
    (∀ i, ((finishOp h v r s).port i).exchange = (s.port i).exchange) ∧
    (∀ i, ((finishOp h v r s).port i).resetSeen = (s.port i).resetSeen) ∧
    (∀ i, ((finishOp h v r s).port i).lapsedSeen = (s.port i).lapsedSeen) ∧
    (∀ i, ((finishOp h v r s).host i).state = (s.host i).state) ∧
    (∀ i, ((finishOp h v r s).host i).lease = (s.host i).lease) ∧
    (∀ i, ((finishOp h v r s).host i).warned = (s.host i).warned) ∧
    (∀ i, ((finishOp h v r s).host i).reserved = (s.host i).reserved) ∧
    (∀ i, ((finishOp h v r s).host i).budget = (s.host i).budget) ∧
    (∀ i, ((finishOp h v r s).host i).vote = (s.host i).vote) ∧
    (∀ i, ((finishOp h v r s).host i).cells = (s.host i).cells) ∧
    (∀ i, ((finishOp h v r s).host i).overflow = (s.host i).overflow) ∧
    (∀ i, ((finishOp h v r s).lane i).queued = (s.lane i).queued) ∧
    (∀ i, ((finishOp h v r s).host i).budgetHit = (s.host i).budgetHit) ∧
    (∀ i, (finishOp h v r s).isActive i = s.isActive i) ∧ (∀ i, ((finishOp h v r s).pane i).state = (s.pane i).state) ∧
    (∀ i, ((finishOp h v r s).pane i).owner = (s.pane i).owner) ∧
    (∀ i, ((finishOp h v r s).pane i).former = (s.pane i).former) ∧
    (∀ i, ((finishOp h v r s).pane i).guest = (s.pane i).guest) ∧
    (∀ i, ((finishOp h v r s).pane i).current = (s.pane i).current) ∧
    (∀ i, ((finishOp h v r s).pane i).modes = (s.pane i).modes) ∧
    (∀ i, ((finishOp h v r s).pane i).tears = (s.pane i).tears) := by
  simp -implicitDefEqProofs [finishOp]

@[simp] theorem writeDone_frame (h : HostNo) (n : Nat) (s : State) :
    (writeDone h n s).pending = s.pending ∧ (writeDone h n s).choices = s.choices ∧
    (writeDone h n s).resetPin = s.resetPin ∧ (writeDone h n s).store = s.store ∧ (writeDone h n s).scan = s.scan ∧
    (writeDone h n s).arbiter = s.arbiter ∧ (writeDone h n s).parked = s.parked ∧ (writeDone h n s).faults = s.faults ∧
    (writeDone h n s).panel = s.panel ∧ (writeDone h n s).conf = s.conf ∧
    (∀ i, ((writeDone h n s).port i).present = (s.port i).present) ∧
    (∀ i, ((writeDone h n s).port i).drop = (s.port i).drop) ∧
    (∀ i, ((writeDone h n s).port i).exchange = (s.port i).exchange) ∧
    (∀ i, ((writeDone h n s).port i).resetSeen = (s.port i).resetSeen) ∧
    (∀ i, ((writeDone h n s).port i).lapsedSeen = (s.port i).lapsedSeen) ∧
    (∀ i, ((writeDone h n s).host i).state = (s.host i).state) ∧
    (∀ i, ((writeDone h n s).host i).lease = (s.host i).lease) ∧
    (∀ i, ((writeDone h n s).host i).warned = (s.host i).warned) ∧
    (∀ i, ((writeDone h n s).host i).reserved = (s.host i).reserved) ∧
    (∀ i, ((writeDone h n s).host i).budget = (s.host i).budget) ∧
    (∀ i, ((writeDone h n s).host i).vote = (s.host i).vote) ∧
    (∀ i, ((writeDone h n s).host i).cells = (s.host i).cells) ∧
    (∀ i, ((writeDone h n s).host i).overflow = (s.host i).overflow) ∧
    (∀ i, ((writeDone h n s).lane i).queued = (s.lane i).queued) ∧ (∀ i, (writeDone h n s).isActive i = s.isActive i) ∧
    (∀ i, ((writeDone h n s).pane i).state = (s.pane i).state) ∧
    (∀ i, ((writeDone h n s).pane i).owner = (s.pane i).owner) ∧
    (∀ i, ((writeDone h n s).pane i).former = (s.pane i).former) ∧
    (∀ i, ((writeDone h n s).pane i).guest = (s.pane i).guest) ∧
    (∀ i, ((writeDone h n s).pane i).current = (s.pane i).current) ∧
    (∀ i, ((writeDone h n s).pane i).modes = (s.pane i).modes) ∧
    (∀ i, ((writeDone h n s).pane i).tears = (s.pane i).tears) := by
  unfold writeDone; dsimp only; (repeat' split) <;> simp -implicitDefEqProofs

@[simp] theorem readDone_frame (h : HostNo) (cells : List Cell) (s : State) :
    (readDone h cells s).pending = s.pending ∧ (readDone h cells s).choices = s.choices ∧
    (readDone h cells s).resetPin = s.resetPin ∧ (readDone h cells s).store = s.store ∧
    (readDone h cells s).scan = s.scan ∧ (readDone h cells s).arbiter = s.arbiter ∧
    (readDone h cells s).parked = s.parked ∧ (readDone h cells s).faults = s.faults ∧
    (readDone h cells s).panel = s.panel ∧ (readDone h cells s).conf = s.conf ∧
    (∀ i, (readDone h cells s).queue i = s.queue i) ∧
    (∀ i, ((readDone h cells s).port i).present = (s.port i).present) ∧
    (∀ i, ((readDone h cells s).port i).drop = (s.port i).drop) ∧
    (∀ i, ((readDone h cells s).port i).exchange = (s.port i).exchange) ∧
    (∀ i, ((readDone h cells s).port i).resetSeen = (s.port i).resetSeen) ∧
    (∀ i, ((readDone h cells s).port i).lapsedSeen = (s.port i).lapsedSeen) ∧
    (∀ i, ((readDone h cells s).host i).state = (s.host i).state) ∧
    (∀ i, ((readDone h cells s).host i).lease = (s.host i).lease) ∧
    (∀ i, ((readDone h cells s).host i).warned = (s.host i).warned) ∧
    (∀ i, ((readDone h cells s).host i).reserved = (s.host i).reserved) ∧
    (∀ i, ((readDone h cells s).host i).budget = (s.host i).budget) ∧
    (∀ i, ((readDone h cells s).host i).vote = (s.host i).vote) ∧
    (∀ i, ((readDone h cells s).host i).cells = (s.host i).cells) ∧
    (∀ i, ((readDone h cells s).host i).overflow = (s.host i).overflow) ∧
    (∀ i, ((readDone h cells s).lane i).queued = (s.lane i).queued) ∧
    (∀ i, ((readDone h cells s).host i).budgetHit = (s.host i).budgetHit) ∧
    (∀ i, (readDone h cells s).isActive i = s.isActive i) ∧
    (∀ i, ((readDone h cells s).pane i).state = (s.pane i).state) ∧
    (∀ i, ((readDone h cells s).pane i).owner = (s.pane i).owner) ∧
    (∀ i, ((readDone h cells s).pane i).former = (s.pane i).former) ∧
    (∀ i, ((readDone h cells s).pane i).guest = (s.pane i).guest) ∧
    (∀ i, ((readDone h cells s).pane i).current = (s.pane i).current) ∧
    (∀ i, ((readDone h cells s).pane i).modes = (s.pane i).modes) ∧
    (∀ i, ((readDone h cells s).pane i).tears = (s.pane i).tears) := by
  unfold readDone; (repeat' split) <;> simp -implicitDefEqProofs

@[simp] theorem stopOps_frame (h : HostNo) (test : CellOp → Bool) (pk : Parked → Bool) (st : Status) (s : State) :
    (stopOps h test pk st s).pending = s.pending ∧ (stopOps h test pk st s).choices = s.choices ∧
    (stopOps h test pk st s).resetPin = s.resetPin ∧ (stopOps h test pk st s).store = s.store ∧
    (stopOps h test pk st s).scan = s.scan ∧ (stopOps h test pk st s).arbiter = s.arbiter ∧
    (stopOps h test pk st s).faults = s.faults ∧ (stopOps h test pk st s).panel = s.panel ∧
    (stopOps h test pk st s).conf = s.conf ∧ (∀ i, (stopOps h test pk st s).port i = s.port i) ∧
    (∀ i, (stopOps h test pk st s).host i = s.host i) ∧ (∀ i, (stopOps h test pk st s).queue i = s.queue i) ∧
    (∀ i, (stopOps h test pk st s).isActive i = s.isActive i) ∧ (∀ i, (stopOps h test pk st s).pane i = s.pane i) := by
  simp -implicitDefEqProofs [stopOps]

@[simp] theorem endWork_frame (p : List PaneNo) (st : Status) (h : HostNo) (s : State) :
    (endWork p st h s).pending = s.pending ∧ (endWork p st h s).choices = s.choices ∧
    (endWork p st h s).resetPin = s.resetPin ∧ (endWork p st h s).store = s.store ∧ (endWork p st h s).scan = s.scan ∧
    (endWork p st h s).arbiter = s.arbiter ∧ (endWork p st h s).faults = s.faults ∧ (endWork p st h s).panel = s.panel ∧
    (endWork p st h s).conf = s.conf ∧ (∀ i, (endWork p st h s).host i = s.host i) ∧
    (∀ i, (endWork p st h s).queue i = s.queue i) ∧ (∀ i, ((endWork p st h s).port i).present = (s.port i).present) ∧
    (∀ i, ((endWork p st h s).port i).drop = (s.port i).drop) ∧
    (∀ i, ((endWork p st h s).port i).exchange = (s.port i).exchange) ∧
    (∀ i, ((endWork p st h s).port i).resetSeen = (s.port i).resetSeen) ∧
    (∀ i, ((endWork p st h s).port i).lapsedSeen = (s.port i).lapsedSeen) ∧
    (∀ i, (endWork p st h s).isActive i = s.isActive i) ∧ (∀ i, ((endWork p st h s).pane i).state = (s.pane i).state) ∧
    (∀ i, ((endWork p st h s).pane i).owner = (s.pane i).owner) ∧
    (∀ i, ((endWork p st h s).pane i).former = (s.pane i).former) ∧
    (∀ i, ((endWork p st h s).pane i).guest = (s.pane i).guest) ∧
    (∀ i, ((endWork p st h s).pane i).current = (s.pane i).current) ∧
    (∀ i, ((endWork p st h s).pane i).modes = (s.pane i).modes) ∧
    (∀ i, ((endWork p st h s).pane i).tears = (s.pane i).tears) ∧
    (∀ i, ((endWork p st h s).pane i).commit = (s.pane i).commit) := by
  simp -implicitDefEqProofs [endWork]

@[simp] theorem dropOps_frame (h : HostNo) (s : State) :
    (dropOps h s).pending = s.pending ∧ (dropOps h s).choices = s.choices ∧ (dropOps h s).resetPin = s.resetPin ∧
    (dropOps h s).store = s.store ∧ (dropOps h s).scan = s.scan ∧ (dropOps h s).faults = s.faults ∧
    (dropOps h s).panel = s.panel ∧ (dropOps h s).conf = s.conf ∧ (dropOps h s).arbiter.urgency = s.arbiter.urgency ∧
    (dropOps h s).arbiter.lastGrant = s.arbiter.lastGrant ∧ (dropOps h s).arbiter.rotation = s.arbiter.rotation ∧
    (∀ i, (dropOps h s).port i = s.port i) ∧ (∀ i, (dropOps h s).host i = s.host i) ∧
    (∀ i, (dropOps h s).queue i = s.queue i) ∧ (∀ i, (dropOps h s).isActive i = s.isActive i) ∧
    (∀ i, (dropOps h s).pane i = s.pane i) := by
  simp -implicitDefEqProofs [dropOps]

@[simp] theorem takeIdleStages_frame (s : State) :
    (takeIdleStages s).pending = s.pending ∧ (takeIdleStages s).choices = s.choices ∧
    (takeIdleStages s).resetPin = s.resetPin ∧ (takeIdleStages s).store = s.store ∧ (takeIdleStages s).scan = s.scan ∧
    (takeIdleStages s).arbiter = s.arbiter ∧ (takeIdleStages s).parked = s.parked ∧
    (takeIdleStages s).faults = s.faults ∧ (takeIdleStages s).panel = s.panel ∧ (takeIdleStages s).conf = s.conf ∧
    (∀ i, (takeIdleStages s).host i = s.host i) ∧ (∀ i, (takeIdleStages s).lane i = s.lane i) ∧
    (∀ i, (takeIdleStages s).queue i = s.queue i) ∧ (∀ i, ((takeIdleStages s).port i).present = (s.port i).present) ∧
    (∀ i, ((takeIdleStages s).port i).drop = (s.port i).drop) ∧
    (∀ i, ((takeIdleStages s).port i).exchange = (s.port i).exchange) ∧
    (∀ i, ((takeIdleStages s).port i).resetSeen = (s.port i).resetSeen) ∧
    (∀ i, ((takeIdleStages s).port i).lapsedSeen = (s.port i).lapsedSeen) ∧
    (∀ i, (takeIdleStages s).isActive i = s.isActive i) ∧ (∀ i, ((takeIdleStages s).pane i).state = (s.pane i).state) ∧
    (∀ i, ((takeIdleStages s).pane i).owner = (s.pane i).owner) ∧
    (∀ i, ((takeIdleStages s).pane i).former = (s.pane i).former) ∧
    (∀ i, ((takeIdleStages s).pane i).guest = (s.pane i).guest) ∧
    (∀ i, ((takeIdleStages s).pane i).current = (s.pane i).current) ∧
    (∀ i, ((takeIdleStages s).pane i).modes = (s.pane i).modes) ∧
    (∀ i, ((takeIdleStages s).pane i).tears = (s.pane i).tears) ∧
    (∀ i, ((takeIdleStages s).pane i).commit = (s.pane i).commit) := by
  simp -implicitDefEqProofs [takeIdleStages]

@[simp] theorem releaseEntry_frame (e : Parked) (s : State) :
    (releaseEntry e s).pending = s.pending ∧ (releaseEntry e s).choices = s.choices ∧
    (releaseEntry e s).resetPin = s.resetPin ∧ (releaseEntry e s).store = s.store ∧ (releaseEntry e s).scan = s.scan ∧
    (releaseEntry e s).arbiter = s.arbiter ∧ (releaseEntry e s).parked = s.parked ∧
    (releaseEntry e s).faults = s.faults ∧ (releaseEntry e s).panel = s.panel ∧ (releaseEntry e s).conf = s.conf ∧
    (∀ i, ((releaseEntry e s).port i).present = (s.port i).present) ∧
    (∀ i, ((releaseEntry e s).port i).responses = (s.port i).responses) ∧
    (∀ i, ((releaseEntry e s).port i).slots = (s.port i).slots) ∧
    (∀ i, ((releaseEntry e s).port i).drop = (s.port i).drop) ∧
    (∀ i, ((releaseEntry e s).port i).exchange = (s.port i).exchange) ∧
    (∀ i, ((releaseEntry e s).port i).resetSeen = (s.port i).resetSeen) ∧
    (∀ i, ((releaseEntry e s).port i).lapsedSeen = (s.port i).lapsedSeen) ∧
    (∀ i, ((releaseEntry e s).host i).state = (s.host i).state) ∧
    (∀ i, ((releaseEntry e s).host i).lease = (s.host i).lease) ∧
    (∀ i, ((releaseEntry e s).host i).warned = (s.host i).warned) ∧
    (∀ i, ((releaseEntry e s).host i).reserved = (s.host i).reserved) ∧
    (∀ i, ((releaseEntry e s).host i).budget = (s.host i).budget) ∧
    (∀ i, ((releaseEntry e s).host i).vote = (s.host i).vote) ∧
    (∀ i, ((releaseEntry e s).host i).tickets = (s.host i).tickets) ∧
    (∀ i, ((releaseEntry e s).host i).cells = (s.host i).cells) ∧
    (∀ i, ((releaseEntry e s).host i).overflow = (s.host i).overflow) ∧
    (∀ i, ((releaseEntry e s).lane i).queued = (s.lane i).queued) ∧
    (∀ i, (releaseEntry e s).isActive i = s.isActive i) ∧ (∀ i, (releaseEntry e s).pane i = s.pane i) := by
  unfold releaseEntry; (repeat' split) <;> simp -implicitDefEqProofs

@[simp] theorem releaseParked_frame (s : State) :
    (releaseParked s).pending = s.pending ∧ (releaseParked s).choices = s.choices ∧
    (releaseParked s).resetPin = s.resetPin ∧ (releaseParked s).store = s.store ∧ (releaseParked s).scan = s.scan ∧
    (releaseParked s).arbiter = s.arbiter ∧ (releaseParked s).faults = s.faults ∧ (releaseParked s).panel = s.panel ∧
    (releaseParked s).conf = s.conf ∧ (∀ i, ((releaseParked s).port i).present = (s.port i).present) ∧
    (∀ i, ((releaseParked s).port i).responses = (s.port i).responses) ∧
    (∀ i, ((releaseParked s).port i).slots = (s.port i).slots) ∧
    (∀ i, ((releaseParked s).port i).drop = (s.port i).drop) ∧
    (∀ i, ((releaseParked s).port i).exchange = (s.port i).exchange) ∧
    (∀ i, ((releaseParked s).port i).resetSeen = (s.port i).resetSeen) ∧
    (∀ i, ((releaseParked s).port i).lapsedSeen = (s.port i).lapsedSeen) ∧
    (∀ i, ((releaseParked s).host i).state = (s.host i).state) ∧
    (∀ i, ((releaseParked s).host i).lease = (s.host i).lease) ∧
    (∀ i, ((releaseParked s).host i).warned = (s.host i).warned) ∧
    (∀ i, ((releaseParked s).host i).reserved = (s.host i).reserved) ∧
    (∀ i, ((releaseParked s).host i).budget = (s.host i).budget) ∧
    (∀ i, ((releaseParked s).host i).vote = (s.host i).vote) ∧
    (∀ i, ((releaseParked s).host i).tickets = (s.host i).tickets) ∧
    (∀ i, ((releaseParked s).host i).cells = (s.host i).cells) ∧
    (∀ i, ((releaseParked s).host i).overflow = (s.host i).overflow) ∧
    (∀ i, ((releaseParked s).lane i).queued = (s.lane i).queued) ∧ (∀ i, (releaseParked s).isActive i = s.isActive i) ∧
    (∀ i, (releaseParked s).pane i = s.pane i) := by
  simp -implicitDefEqProofs [releaseParked]

@[simp] theorem refillBudget_frame (h : HostNo) (s : State) :
    (refillBudget h s).pending = s.pending ∧ (refillBudget h s).choices = s.choices ∧
    (refillBudget h s).resetPin = s.resetPin ∧ (refillBudget h s).store = s.store ∧ (refillBudget h s).scan = s.scan ∧
    (refillBudget h s).arbiter = s.arbiter ∧ (refillBudget h s).parked = s.parked ∧
    (refillBudget h s).faults = s.faults ∧ (refillBudget h s).panel = s.panel ∧ (refillBudget h s).conf = s.conf ∧
    (∀ i, (refillBudget h s).port i = s.port i) ∧ (∀ i, (refillBudget h s).lane i = s.lane i) ∧
    (∀ i, (refillBudget h s).queue i = s.queue i) ∧ (∀ i, ((refillBudget h s).host i).state = (s.host i).state) ∧
    (∀ i, ((refillBudget h s).host i).lease = (s.host i).lease) ∧
    (∀ i, ((refillBudget h s).host i).warned = (s.host i).warned) ∧
    (∀ i, ((refillBudget h s).host i).reserved = (s.host i).reserved) ∧
    (∀ i, ((refillBudget h s).host i).budget = (s.host i).budget) ∧
    (∀ i, ((refillBudget h s).host i).vote = (s.host i).vote) ∧
    (∀ i, ((refillBudget h s).host i).tickets = (s.host i).tickets) ∧
    (∀ i, ((refillBudget h s).host i).overflow = (s.host i).overflow) ∧
    (∀ i, (refillBudget h s).isActive i = s.isActive i) ∧ (∀ i, (refillBudget h s).pane i = s.pane i) := by
  simp -implicitDefEqProofs [refillBudget]

@[simp] theorem retestWaiting_frame (h : HostNo) (s : State) :
    (retestWaiting h s).pending = s.pending ∧ (retestWaiting h s).choices = s.choices ∧
    (retestWaiting h s).resetPin = s.resetPin ∧ (retestWaiting h s).store = s.store ∧
    (retestWaiting h s).scan = s.scan ∧ (retestWaiting h s).arbiter = s.arbiter ∧
    (retestWaiting h s).parked = s.parked ∧ (retestWaiting h s).faults = s.faults ∧
    (retestWaiting h s).panel = s.panel ∧ (retestWaiting h s).conf = s.conf ∧
    (∀ i, ((retestWaiting h s).port i).present = (s.port i).present) ∧
    (∀ i, ((retestWaiting h s).port i).responses = (s.port i).responses) ∧
    (∀ i, ((retestWaiting h s).port i).slots = (s.port i).slots) ∧
    (∀ i, ((retestWaiting h s).port i).drop = (s.port i).drop) ∧
    (∀ i, ((retestWaiting h s).port i).exchange = (s.port i).exchange) ∧
    (∀ i, ((retestWaiting h s).port i).resetSeen = (s.port i).resetSeen) ∧
    (∀ i, ((retestWaiting h s).port i).lapsedSeen = (s.port i).lapsedSeen) ∧
    (∀ i, ((retestWaiting h s).host i).state = (s.host i).state) ∧
    (∀ i, ((retestWaiting h s).host i).lease = (s.host i).lease) ∧
    (∀ i, ((retestWaiting h s).host i).warned = (s.host i).warned) ∧
    (∀ i, ((retestWaiting h s).host i).reserved = (s.host i).reserved) ∧
    (∀ i, ((retestWaiting h s).host i).budget = (s.host i).budget) ∧
    (∀ i, ((retestWaiting h s).host i).vote = (s.host i).vote) ∧
    (∀ i, ((retestWaiting h s).host i).tickets = (s.host i).tickets) ∧
    (∀ i, ((retestWaiting h s).host i).cells = (s.host i).cells) ∧
    (∀ i, ((retestWaiting h s).host i).overflow = (s.host i).overflow) ∧
    (∀ i, ((retestWaiting h s).lane i).queued = (s.lane i).queued) ∧
    (∀ i, (retestWaiting h s).isActive i = s.isActive i) ∧ (∀ i, (retestWaiting h s).pane i = s.pane i) := by
  unfold retestWaiting; (repeat' split) <;> simp -implicitDefEqProofs

@[simp] theorem refillBudgets_frame (s : State) :
    (refillBudgets s).pending = s.pending ∧ (refillBudgets s).choices = s.choices ∧
    (refillBudgets s).resetPin = s.resetPin ∧ (refillBudgets s).store = s.store ∧ (refillBudgets s).scan = s.scan ∧
    (refillBudgets s).arbiter = s.arbiter ∧ (refillBudgets s).parked = s.parked ∧ (refillBudgets s).faults = s.faults ∧
    (refillBudgets s).panel = s.panel ∧ (refillBudgets s).conf = s.conf ∧
    (∀ i, ((refillBudgets s).port i).present = (s.port i).present) ∧
    (∀ i, ((refillBudgets s).port i).responses = (s.port i).responses) ∧
    (∀ i, ((refillBudgets s).port i).slots = (s.port i).slots) ∧
    (∀ i, ((refillBudgets s).port i).drop = (s.port i).drop) ∧
    (∀ i, ((refillBudgets s).port i).exchange = (s.port i).exchange) ∧
    (∀ i, ((refillBudgets s).port i).resetSeen = (s.port i).resetSeen) ∧
    (∀ i, ((refillBudgets s).port i).lapsedSeen = (s.port i).lapsedSeen) ∧
    (∀ i, ((refillBudgets s).host i).state = (s.host i).state) ∧
    (∀ i, ((refillBudgets s).host i).lease = (s.host i).lease) ∧
    (∀ i, ((refillBudgets s).host i).warned = (s.host i).warned) ∧
    (∀ i, ((refillBudgets s).host i).reserved = (s.host i).reserved) ∧
    (∀ i, ((refillBudgets s).host i).budget = (s.host i).budget) ∧
    (∀ i, ((refillBudgets s).host i).vote = (s.host i).vote) ∧
    (∀ i, ((refillBudgets s).host i).tickets = (s.host i).tickets) ∧
    (∀ i, ((refillBudgets s).host i).overflow = (s.host i).overflow) ∧
    (∀ i, ((refillBudgets s).lane i).queued = (s.lane i).queued) ∧ (∀ i, (refillBudgets s).isActive i = s.isActive i) ∧
    (∀ i, (refillBudgets s).pane i = s.pane i) := by
  simp -implicitDefEqProofs [refillBudgets]

end Sys2Proof.Machine
end

