-- ==== Sys2Proof/Laws/ArbiterFrames.lean ====
section
/-! SUPPORT. What the operations of the Store Arbiter leave as it stands. -/

set_option Elab.async false

namespace Sys2Proof.Machine

@[simp] theorem grantSegment_frame (l : Latch) (s : State) :
    (grantSegment l s).pending = s.pending ∧ (grantSegment l s).choices = s.choices ∧
    (grantSegment l s).resetPin = s.resetPin ∧ (grantSegment l s).store = s.store ∧ (grantSegment l s).scan = s.scan ∧
    (grantSegment l s).parked = s.parked ∧ (grantSegment l s).faults = s.faults ∧ (grantSegment l s).panel = s.panel ∧
    (grantSegment l s).conf = s.conf ∧ (grantSegment l s).arbiter.urgency = s.arbiter.urgency ∧
    (grantSegment l s).arbiter.rotation = s.arbiter.rotation ∧ (∀ i, (grantSegment l s).port i = s.port i) ∧
    (∀ i, (grantSegment l s).host i = s.host i) ∧ (∀ i, (grantSegment l s).lane i = s.lane i) ∧
    (∀ i, (grantSegment l s).queue i = s.queue i) ∧ (∀ i, (grantSegment l s).isActive i = s.isActive i) ∧
    (∀ i, (grantSegment l s).pane i = s.pane i) := by
  simp -implicitDefEqProofs [grantSegment]

@[simp] theorem grantRead_frame (h : HostNo) (v : Service) (back : Bool) (s : State) :
    (grantRead h v back s).pending = s.pending ∧ (grantRead h v back s).choices = s.choices ∧
    (grantRead h v back s).resetPin = s.resetPin ∧ (grantRead h v back s).store = s.store ∧
    (grantRead h v back s).scan = s.scan ∧ (grantRead h v back s).parked = s.parked ∧
    (grantRead h v back s).faults = s.faults ∧ (grantRead h v back s).panel = s.panel ∧
    (grantRead h v back s).conf = s.conf ∧ (grantRead h v back s).arbiter.urgency = s.arbiter.urgency ∧
    (∀ i, (grantRead h v back s).port i = s.port i) ∧ (∀ i, (grantRead h v back s).host i = s.host i) ∧
    (∀ i, (grantRead h v back s).queue i = s.queue i) ∧
    (∀ i, ((grantRead h v back s).lane i).queued = (s.lane i).queued) ∧
    (∀ i, (grantRead h v back s).isActive i = s.isActive i) ∧ (∀ i, (grantRead h v back s).pane i = s.pane i) := by
  simp -implicitDefEqProofs [grantRead]

@[simp] theorem grantWrite_frame (h : HostNo) (v : Service) (re : Option (Half × Nat)) (s : State) :
    (grantWrite h v re s).pending = s.pending ∧ (grantWrite h v re s).choices = s.choices ∧
    (grantWrite h v re s).resetPin = s.resetPin ∧ (grantWrite h v re s).store = s.store ∧
    (grantWrite h v re s).scan = s.scan ∧ (grantWrite h v re s).parked = s.parked ∧
    (grantWrite h v re s).faults = s.faults ∧ (grantWrite h v re s).panel = s.panel ∧
    (grantWrite h v re s).conf = s.conf ∧ (grantWrite h v re s).arbiter.urgency = s.arbiter.urgency ∧
    (∀ i, (grantWrite h v re s).port i = s.port i) ∧ (∀ i, (grantWrite h v re s).queue i = s.queue i) ∧
    (∀ i, ((grantWrite h v re s).host i).state = (s.host i).state) ∧
    (∀ i, ((grantWrite h v re s).host i).lease = (s.host i).lease) ∧
    (∀ i, ((grantWrite h v re s).host i).warned = (s.host i).warned) ∧
    (∀ i, ((grantWrite h v re s).host i).reserved = (s.host i).reserved) ∧
    (∀ i, ((grantWrite h v re s).host i).budget = (s.host i).budget) ∧
    (∀ i, ((grantWrite h v re s).host i).vote = (s.host i).vote) ∧
    (∀ i, ((grantWrite h v re s).host i).tickets = (s.host i).tickets) ∧
    (∀ i, ((grantWrite h v re s).host i).overflow = (s.host i).overflow) ∧
    (∀ i, ((grantWrite h v re s).lane i).queued = (s.lane i).queued) ∧
    (∀ i, ((grantWrite h v re s).host i).budgetHit = (s.host i).budgetHit) ∧
    (∀ i, (grantWrite h v re s).isActive i = s.isActive i) ∧ (∀ i, (grantWrite h v re s).pane i = s.pane i) := by
  simp -implicitDefEqProofs [grantWrite]

@[simp] theorem passGrant_frame (kind : FaultKind) (h : HostNo) (v : Service) (l : Latch) (s : State) :
    (passGrant kind h v l s).pending = s.pending ∧ (passGrant kind h v l s).choices = s.choices ∧
    (passGrant kind h v l s).resetPin = s.resetPin ∧ (passGrant kind h v l s).store = s.store ∧
    (passGrant kind h v l s).parked = s.parked ∧ (passGrant kind h v l s).panel = s.panel ∧
    (passGrant kind h v l s).conf = s.conf ∧ (passGrant kind h v l s).scan.link = s.scan.link ∧
    (passGrant kind h v l s).scan.frame = s.scan.frame ∧ (passGrant kind h v l s).scan.queue = s.scan.queue ∧
    (passGrant kind h v l s).scan.mark = s.scan.mark ∧ (passGrant kind h v l s).scan.emission = s.scan.emission ∧
    (passGrant kind h v l s).scan.lane = s.scan.lane ∧ (passGrant kind h v l s).scan.emitter = s.scan.emitter ∧
    (passGrant kind h v l s).scan.timer = s.scan.timer ∧ (passGrant kind h v l s).scan.cursorLine = s.scan.cursorLine ∧
    (passGrant kind h v l s).scan.cursorFrame = s.scan.cursorFrame ∧
    (passGrant kind h v l s).arbiter.urgency = s.arbiter.urgency ∧
    (∀ i, ((passGrant kind h v l s).port i).present = (s.port i).present) ∧
    (∀ i, ((passGrant kind h v l s).port i).responses = (s.port i).responses) ∧
    (∀ i, ((passGrant kind h v l s).port i).slots = (s.port i).slots) ∧
    (∀ i, ((passGrant kind h v l s).port i).drop = (s.port i).drop) ∧
    (∀ i, ((passGrant kind h v l s).port i).exchange = (s.port i).exchange) ∧
    (∀ i, ((passGrant kind h v l s).port i).resetSeen = (s.port i).resetSeen) ∧
    (∀ i, ((passGrant kind h v l s).port i).lapsedSeen = (s.port i).lapsedSeen) ∧
    (∀ i, ((passGrant kind h v l s).host i).state = (s.host i).state) ∧
    (∀ i, ((passGrant kind h v l s).host i).lease = (s.host i).lease) ∧
    (∀ i, ((passGrant kind h v l s).host i).warned = (s.host i).warned) ∧
    (∀ i, ((passGrant kind h v l s).host i).reserved = (s.host i).reserved) ∧
    (∀ i, ((passGrant kind h v l s).host i).budget = (s.host i).budget) ∧
    (∀ i, ((passGrant kind h v l s).host i).vote = (s.host i).vote) ∧
    (∀ i, ((passGrant kind h v l s).host i).tickets = (s.host i).tickets) ∧
    (∀ i, ((passGrant kind h v l s).lane i).queued = (s.lane i).queued) ∧
    (∀ i, ((passGrant kind h v l s).host i).budgetHit = (s.host i).budgetHit) ∧
    (∀ i, (passGrant kind h v l s).isActive i = s.isActive i) ∧
    (∀ i, ((passGrant kind h v l s).pane i).state = (s.pane i).state) ∧
    (∀ i, ((passGrant kind h v l s).pane i).owner = (s.pane i).owner) ∧
    (∀ i, ((passGrant kind h v l s).pane i).former = (s.pane i).former) ∧
    (∀ i, ((passGrant kind h v l s).pane i).guest = (s.pane i).guest) ∧
    (∀ i, ((passGrant kind h v l s).pane i).current = (s.pane i).current) ∧
    (∀ i, ((passGrant kind h v l s).pane i).staged = (s.pane i).staged) ∧
    (∀ i, ((passGrant kind h v l s).pane i).modes = (s.pane i).modes) ∧
    (∀ i, ((passGrant kind h v l s).pane i).commit = (s.pane i).commit) ∧
    (∀ i, ((passGrant kind h v l s).pane i).held = (s.pane i).held) := by
  simp -implicitDefEqProofs [passGrant]

@[simp] theorem parkOrPass_frame (h : HostNo) (v : Service) (l : Latch) (s : State) :
    (parkOrPass h v l s).pending = s.pending ∧ (parkOrPass h v l s).choices = s.choices ∧
    (parkOrPass h v l s).resetPin = s.resetPin ∧ (parkOrPass h v l s).store = s.store ∧
    (parkOrPass h v l s).panel = s.panel ∧ (parkOrPass h v l s).conf = s.conf ∧
    (parkOrPass h v l s).scan.link = s.scan.link ∧ (parkOrPass h v l s).scan.frame = s.scan.frame ∧
    (parkOrPass h v l s).scan.queue = s.scan.queue ∧ (parkOrPass h v l s).scan.mark = s.scan.mark ∧
    (parkOrPass h v l s).scan.emission = s.scan.emission ∧ (parkOrPass h v l s).scan.lane = s.scan.lane ∧
    (parkOrPass h v l s).scan.emitter = s.scan.emitter ∧ (parkOrPass h v l s).scan.timer = s.scan.timer ∧
    (parkOrPass h v l s).scan.cursorLine = s.scan.cursorLine ∧
    (parkOrPass h v l s).scan.cursorFrame = s.scan.cursorFrame ∧
    (parkOrPass h v l s).arbiter.urgency = s.arbiter.urgency ∧
    (∀ i, ((parkOrPass h v l s).port i).present = (s.port i).present) ∧
    (∀ i, ((parkOrPass h v l s).port i).responses = (s.port i).responses) ∧
    (∀ i, ((parkOrPass h v l s).port i).slots = (s.port i).slots) ∧
    (∀ i, ((parkOrPass h v l s).port i).drop = (s.port i).drop) ∧
    (∀ i, ((parkOrPass h v l s).port i).exchange = (s.port i).exchange) ∧
    (∀ i, ((parkOrPass h v l s).port i).resetSeen = (s.port i).resetSeen) ∧
    (∀ i, ((parkOrPass h v l s).port i).lapsedSeen = (s.port i).lapsedSeen) ∧
    (∀ i, ((parkOrPass h v l s).host i).state = (s.host i).state) ∧
    (∀ i, ((parkOrPass h v l s).host i).lease = (s.host i).lease) ∧
    (∀ i, ((parkOrPass h v l s).host i).warned = (s.host i).warned) ∧
    (∀ i, ((parkOrPass h v l s).host i).reserved = (s.host i).reserved) ∧
    (∀ i, ((parkOrPass h v l s).host i).budget = (s.host i).budget) ∧
    (∀ i, ((parkOrPass h v l s).host i).vote = (s.host i).vote) ∧
    (∀ i, ((parkOrPass h v l s).host i).tickets = (s.host i).tickets) ∧
    (∀ i, ((parkOrPass h v l s).lane i).queued = (s.lane i).queued) ∧
    (∀ i, ((parkOrPass h v l s).host i).budgetHit = (s.host i).budgetHit) ∧
    (∀ i, (parkOrPass h v l s).isActive i = s.isActive i) ∧
    (∀ i, ((parkOrPass h v l s).pane i).state = (s.pane i).state) ∧
    (∀ i, ((parkOrPass h v l s).pane i).owner = (s.pane i).owner) ∧
    (∀ i, ((parkOrPass h v l s).pane i).former = (s.pane i).former) ∧
    (∀ i, ((parkOrPass h v l s).pane i).guest = (s.pane i).guest) ∧
    (∀ i, ((parkOrPass h v l s).pane i).current = (s.pane i).current) ∧
    (∀ i, ((parkOrPass h v l s).pane i).staged = (s.pane i).staged) ∧
    (∀ i, ((parkOrPass h v l s).pane i).modes = (s.pane i).modes) ∧
    (∀ i, ((parkOrPass h v l s).pane i).commit = (s.pane i).commit) ∧
    (∀ i, ((parkOrPass h v l s).pane i).held = (s.pane i).held) := by
  unfold parkOrPass; (repeat' split) <;> simp -implicitDefEqProofs

@[simp] theorem resolveConflict_frame (h : HostNo) (v : Service) (l : Latch) (s : State) :
    (resolveConflict h v l s).pending = s.pending ∧ (resolveConflict h v l s).choices = s.choices ∧
    (resolveConflict h v l s).resetPin = s.resetPin ∧ (resolveConflict h v l s).store = s.store ∧
    (resolveConflict h v l s).panel = s.panel ∧ (resolveConflict h v l s).conf = s.conf ∧
    (resolveConflict h v l s).scan.link = s.scan.link ∧ (resolveConflict h v l s).scan.frame = s.scan.frame ∧
    (resolveConflict h v l s).scan.queue = s.scan.queue ∧ (resolveConflict h v l s).scan.mark = s.scan.mark ∧
    (resolveConflict h v l s).scan.emission = s.scan.emission ∧ (resolveConflict h v l s).scan.lane = s.scan.lane ∧
    (resolveConflict h v l s).scan.emitter = s.scan.emitter ∧ (resolveConflict h v l s).scan.timer = s.scan.timer ∧
    (resolveConflict h v l s).scan.cursorLine = s.scan.cursorLine ∧
    (resolveConflict h v l s).scan.cursorFrame = s.scan.cursorFrame ∧
    (resolveConflict h v l s).arbiter.urgency = s.arbiter.urgency ∧
    (∀ i, ((resolveConflict h v l s).port i).present = (s.port i).present) ∧
    (∀ i, ((resolveConflict h v l s).port i).responses = (s.port i).responses) ∧
    (∀ i, ((resolveConflict h v l s).port i).slots = (s.port i).slots) ∧
    (∀ i, ((resolveConflict h v l s).port i).drop = (s.port i).drop) ∧
    (∀ i, ((resolveConflict h v l s).port i).exchange = (s.port i).exchange) ∧
    (∀ i, ((resolveConflict h v l s).port i).resetSeen = (s.port i).resetSeen) ∧
    (∀ i, ((resolveConflict h v l s).port i).lapsedSeen = (s.port i).lapsedSeen) ∧
    (∀ i, ((resolveConflict h v l s).host i).state = (s.host i).state) ∧
    (∀ i, ((resolveConflict h v l s).host i).lease = (s.host i).lease) ∧
    (∀ i, ((resolveConflict h v l s).host i).warned = (s.host i).warned) ∧
    (∀ i, ((resolveConflict h v l s).host i).reserved = (s.host i).reserved) ∧
    (∀ i, ((resolveConflict h v l s).host i).budget = (s.host i).budget) ∧
    (∀ i, ((resolveConflict h v l s).host i).vote = (s.host i).vote) ∧
    (∀ i, ((resolveConflict h v l s).host i).tickets = (s.host i).tickets) ∧
    (∀ i, ((resolveConflict h v l s).lane i).queued = (s.lane i).queued) ∧
    (∀ i, ((resolveConflict h v l s).host i).budgetHit = (s.host i).budgetHit) ∧
    (∀ i, (resolveConflict h v l s).isActive i = s.isActive i) ∧
    (∀ i, ((resolveConflict h v l s).pane i).state = (s.pane i).state) ∧
    (∀ i, ((resolveConflict h v l s).pane i).owner = (s.pane i).owner) ∧
    (∀ i, ((resolveConflict h v l s).pane i).former = (s.pane i).former) ∧
    (∀ i, ((resolveConflict h v l s).pane i).guest = (s.pane i).guest) ∧
    (∀ i, ((resolveConflict h v l s).pane i).current = (s.pane i).current) ∧
    (∀ i, ((resolveConflict h v l s).pane i).staged = (s.pane i).staged) ∧
    (∀ i, ((resolveConflict h v l s).pane i).modes = (s.pane i).modes) ∧
    (∀ i, ((resolveConflict h v l s).pane i).commit = (s.pane i).commit) ∧
    (∀ i, ((resolveConflict h v l s).pane i).held = (s.pane i).held) := by
  unfold resolveConflict; (repeat' split) <;> simp -implicitDefEqProofs

@[simp] theorem serveHost_frame (h : HostNo) (s : State) :
    (serveHost h s).pending = s.pending ∧ (serveHost h s).choices = s.choices ∧ (serveHost h s).resetPin = s.resetPin ∧
    (serveHost h s).store = s.store ∧ (serveHost h s).panel = s.panel ∧ (serveHost h s).conf = s.conf ∧
    (serveHost h s).scan.link = s.scan.link ∧ (serveHost h s).scan.frame = s.scan.frame ∧
    (serveHost h s).scan.queue = s.scan.queue ∧ (serveHost h s).scan.mark = s.scan.mark ∧
    (serveHost h s).scan.emission = s.scan.emission ∧ (serveHost h s).scan.lane = s.scan.lane ∧
    (serveHost h s).scan.emitter = s.scan.emitter ∧ (serveHost h s).scan.timer = s.scan.timer ∧
    (serveHost h s).scan.cursorLine = s.scan.cursorLine ∧ (serveHost h s).scan.cursorFrame = s.scan.cursorFrame ∧
    (serveHost h s).arbiter.urgency = s.arbiter.urgency ∧ (∀ i, ((serveHost h s).port i).present = (s.port i).present) ∧
    (∀ i, ((serveHost h s).port i).responses = (s.port i).responses) ∧
    (∀ i, ((serveHost h s).port i).slots = (s.port i).slots) ∧ (∀ i, ((serveHost h s).port i).drop = (s.port i).drop) ∧
    (∀ i, ((serveHost h s).port i).exchange = (s.port i).exchange) ∧
    (∀ i, ((serveHost h s).port i).resetSeen = (s.port i).resetSeen) ∧
    (∀ i, ((serveHost h s).port i).lapsedSeen = (s.port i).lapsedSeen) ∧
    (∀ i, ((serveHost h s).host i).state = (s.host i).state) ∧
    (∀ i, ((serveHost h s).host i).lease = (s.host i).lease) ∧
    (∀ i, ((serveHost h s).host i).warned = (s.host i).warned) ∧
    (∀ i, ((serveHost h s).host i).reserved = (s.host i).reserved) ∧
    (∀ i, ((serveHost h s).host i).budget = (s.host i).budget) ∧
    (∀ i, ((serveHost h s).host i).vote = (s.host i).vote) ∧
    (∀ i, ((serveHost h s).host i).tickets = (s.host i).tickets) ∧
    (∀ i, ((serveHost h s).lane i).queued = (s.lane i).queued) ∧
    (∀ i, ((serveHost h s).host i).budgetHit = (s.host i).budgetHit) ∧
    (∀ i, (serveHost h s).isActive i = s.isActive i) ∧ (∀ i, ((serveHost h s).pane i).state = (s.pane i).state) ∧
    (∀ i, ((serveHost h s).pane i).owner = (s.pane i).owner) ∧
    (∀ i, ((serveHost h s).pane i).former = (s.pane i).former) ∧
    (∀ i, ((serveHost h s).pane i).guest = (s.pane i).guest) ∧
    (∀ i, ((serveHost h s).pane i).current = (s.pane i).current) ∧
    (∀ i, ((serveHost h s).pane i).staged = (s.pane i).staged) ∧
    (∀ i, ((serveHost h s).pane i).modes = (s.pane i).modes) ∧
    (∀ i, ((serveHost h s).pane i).commit = (s.pane i).commit) ∧ (∀ i, ((serveHost h s).pane i).held = (s.pane i).held) := by
  unfold serveHost; (repeat' split) <;> simp -implicitDefEqProofs

@[simp] theorem arbitrate_frame (n : Nat) (s : State) :
    (arbitrate n s).pending = s.pending ∧ (arbitrate n s).choices = s.choices ∧ (arbitrate n s).resetPin = s.resetPin ∧
    (arbitrate n s).store = s.store ∧ (arbitrate n s).panel = s.panel ∧ (arbitrate n s).conf = s.conf ∧
    (arbitrate n s).scan.link = s.scan.link ∧ (arbitrate n s).scan.frame = s.scan.frame ∧
    (arbitrate n s).scan.queue = s.scan.queue ∧ (arbitrate n s).scan.mark = s.scan.mark ∧
    (arbitrate n s).scan.emission = s.scan.emission ∧ (arbitrate n s).scan.lane = s.scan.lane ∧
    (arbitrate n s).scan.emitter = s.scan.emitter ∧ (arbitrate n s).scan.timer = s.scan.timer ∧
    (arbitrate n s).scan.cursorLine = s.scan.cursorLine ∧ (arbitrate n s).scan.cursorFrame = s.scan.cursorFrame ∧
    (arbitrate n s).arbiter.urgency = s.arbiter.urgency ∧ (∀ i, ((arbitrate n s).port i).present = (s.port i).present) ∧
    (∀ i, ((arbitrate n s).port i).responses = (s.port i).responses) ∧
    (∀ i, ((arbitrate n s).port i).slots = (s.port i).slots) ∧ (∀ i, ((arbitrate n s).port i).drop = (s.port i).drop) ∧
    (∀ i, ((arbitrate n s).port i).exchange = (s.port i).exchange) ∧
    (∀ i, ((arbitrate n s).port i).resetSeen = (s.port i).resetSeen) ∧
    (∀ i, ((arbitrate n s).port i).lapsedSeen = (s.port i).lapsedSeen) ∧
    (∀ i, ((arbitrate n s).host i).state = (s.host i).state) ∧
    (∀ i, ((arbitrate n s).host i).lease = (s.host i).lease) ∧
    (∀ i, ((arbitrate n s).host i).warned = (s.host i).warned) ∧
    (∀ i, ((arbitrate n s).host i).reserved = (s.host i).reserved) ∧
    (∀ i, ((arbitrate n s).host i).budget = (s.host i).budget) ∧
    (∀ i, ((arbitrate n s).host i).vote = (s.host i).vote) ∧
    (∀ i, ((arbitrate n s).host i).tickets = (s.host i).tickets) ∧
    (∀ i, ((arbitrate n s).lane i).queued = (s.lane i).queued) ∧
    (∀ i, ((arbitrate n s).host i).budgetHit = (s.host i).budgetHit) ∧
    (∀ i, (arbitrate n s).isActive i = s.isActive i) ∧ (∀ i, ((arbitrate n s).pane i).state = (s.pane i).state) ∧
    (∀ i, ((arbitrate n s).pane i).owner = (s.pane i).owner) ∧
    (∀ i, ((arbitrate n s).pane i).former = (s.pane i).former) ∧
    (∀ i, ((arbitrate n s).pane i).guest = (s.pane i).guest) ∧
    (∀ i, ((arbitrate n s).pane i).current = (s.pane i).current) ∧
    (∀ i, ((arbitrate n s).pane i).staged = (s.pane i).staged) ∧
    (∀ i, ((arbitrate n s).pane i).modes = (s.pane i).modes) ∧
    (∀ i, ((arbitrate n s).pane i).commit = (s.pane i).commit) ∧ (∀ i, ((arbitrate n s).pane i).held = (s.pane i).held) := by
  induction n generalizing s with
  | zero => simp [arbitrate]
  | succ n ih => unfold arbitrate; (repeat' split) <;> simp -implicitDefEqProofs [ih]

@[simp] theorem settle_frame (s : State) :
    (settle s).pending = s.pending ∧ (settle s).choices = s.choices ∧ (settle s).resetPin = s.resetPin ∧
    (settle s).store = s.store ∧ (settle s).panel = s.panel ∧ (settle s).conf = s.conf ∧
    (settle s).scan.link = s.scan.link ∧ (settle s).scan.frame = s.scan.frame ∧ (settle s).scan.queue = s.scan.queue ∧
    (settle s).scan.mark = s.scan.mark ∧ (settle s).scan.emission = s.scan.emission ∧
    (settle s).scan.lane = s.scan.lane ∧ (settle s).scan.emitter = s.scan.emitter ∧
    (settle s).scan.timer = s.scan.timer ∧ (settle s).scan.cursorLine = s.scan.cursorLine ∧
    (settle s).scan.cursorFrame = s.scan.cursorFrame ∧ (settle s).arbiter.urgency = s.arbiter.urgency ∧
    (∀ i, ((settle s).port i).present = (s.port i).present) ∧ (∀ i, ((settle s).port i).drop = (s.port i).drop) ∧
    (∀ i, ((settle s).port i).exchange = (s.port i).exchange) ∧
    (∀ i, ((settle s).port i).resetSeen = (s.port i).resetSeen) ∧
    (∀ i, ((settle s).port i).lapsedSeen = (s.port i).lapsedSeen) ∧
    (∀ i, ((settle s).host i).state = (s.host i).state) ∧ (∀ i, ((settle s).host i).lease = (s.host i).lease) ∧
    (∀ i, ((settle s).host i).warned = (s.host i).warned) ∧ (∀ i, ((settle s).host i).reserved = (s.host i).reserved) ∧
    (∀ i, ((settle s).host i).budget = (s.host i).budget) ∧ (∀ i, ((settle s).host i).vote = (s.host i).vote) ∧
    (∀ i, (settle s).isActive i = s.isActive i) ∧ (∀ i, ((settle s).pane i).state = (s.pane i).state) ∧
    (∀ i, ((settle s).pane i).owner = (s.pane i).owner) ∧ (∀ i, ((settle s).pane i).former = (s.pane i).former) ∧
    (∀ i, ((settle s).pane i).guest = (s.pane i).guest) ∧ (∀ i, ((settle s).pane i).current = (s.pane i).current) ∧
    (∀ i, ((settle s).pane i).modes = (s.pane i).modes) := by
  unfold settle; (repeat' split) <;> simp -implicitDefEqProofs

end Sys2Proof.Machine
end

