-- ==== Sys2Proof/Laws/PanelFrames.lean ====
section
/-! SUPPORT. What the operations of the Panel Channel leave as it stands. -/

set_option Elab.async false

namespace Sys2Proof.Machine

@[simp] theorem startTransfer_frame (s : State) :
    (startTransfer s).pending = s.pending ∧ (startTransfer s).choices = s.choices ∧
    (startTransfer s).resetPin = s.resetPin ∧ (startTransfer s).store = s.store ∧ (startTransfer s).scan = s.scan ∧
    (startTransfer s).arbiter = s.arbiter ∧ (startTransfer s).parked = s.parked ∧ (startTransfer s).faults = s.faults ∧
    (startTransfer s).conf = s.conf ∧ (startTransfer s).panel.timer = s.panel.timer ∧
    (startTransfer s).panel.blanking = s.panel.blanking ∧ (∀ i, (startTransfer s).port i = s.port i) ∧
    (∀ i, (startTransfer s).host i = s.host i) ∧ (∀ i, (startTransfer s).lane i = s.lane i) ∧
    (∀ i, (startTransfer s).queue i = s.queue i) ∧ (∀ i, (startTransfer s).isActive i = s.isActive i) ∧
    (∀ i, (startTransfer s).pane i = s.pane i) := by
  unfold startTransfer; (repeat' split) <;> simp -implicitDefEqProofs

@[simp] theorem endTransfer_frame (st : Status) (s : State) :
    (endTransfer st s).pending = s.pending ∧ (endTransfer st s).choices = s.choices ∧
    (endTransfer st s).resetPin = s.resetPin ∧ (endTransfer st s).store = s.store ∧ (endTransfer st s).scan = s.scan ∧
    (endTransfer st s).arbiter = s.arbiter ∧ (endTransfer st s).parked = s.parked ∧ (endTransfer st s).conf = s.conf ∧
    (endTransfer st s).panel.blanking = s.panel.blanking ∧ (∀ i, (endTransfer st s).lane i = s.lane i) ∧
    (∀ i, ((endTransfer st s).port i).present = (s.port i).present) ∧
    (∀ i, ((endTransfer st s).port i).drop = (s.port i).drop) ∧
    (∀ i, ((endTransfer st s).port i).exchange = (s.port i).exchange) ∧
    (∀ i, ((endTransfer st s).port i).resetSeen = (s.port i).resetSeen) ∧
    (∀ i, ((endTransfer st s).port i).lapsedSeen = (s.port i).lapsedSeen) ∧
    (∀ i, ((endTransfer st s).host i).state = (s.host i).state) ∧
    (∀ i, ((endTransfer st s).host i).lease = (s.host i).lease) ∧
    (∀ i, ((endTransfer st s).host i).warned = (s.host i).warned) ∧
    (∀ i, ((endTransfer st s).host i).reserved = (s.host i).reserved) ∧
    (∀ i, ((endTransfer st s).host i).budget = (s.host i).budget) ∧
    (∀ i, ((endTransfer st s).host i).vote = (s.host i).vote) ∧
    (∀ i, ((endTransfer st s).host i).tickets = (s.host i).tickets) ∧
    (∀ i, ((endTransfer st s).host i).cells = (s.host i).cells) ∧
    (∀ i, ((endTransfer st s).host i).budgetHit = (s.host i).budgetHit) ∧
    (∀ i, (endTransfer st s).isActive i = s.isActive i) ∧ (∀ i, (endTransfer st s).pane i = s.pane i) := by
  unfold endTransfer; dsimp only; (repeat' split) <;> simp -implicitDefEqProofs

@[simp] theorem retryOrEnd_frame (st : Status) (s : State) :
    (retryOrEnd st s).pending = s.pending ∧ (retryOrEnd st s).choices = s.choices ∧
    (retryOrEnd st s).resetPin = s.resetPin ∧ (retryOrEnd st s).store = s.store ∧ (retryOrEnd st s).scan = s.scan ∧
    (retryOrEnd st s).arbiter = s.arbiter ∧ (retryOrEnd st s).parked = s.parked ∧ (retryOrEnd st s).conf = s.conf ∧
    (retryOrEnd st s).panel.blanking = s.panel.blanking ∧ (∀ i, (retryOrEnd st s).lane i = s.lane i) ∧
    (∀ i, ((retryOrEnd st s).port i).present = (s.port i).present) ∧
    (∀ i, ((retryOrEnd st s).port i).drop = (s.port i).drop) ∧
    (∀ i, ((retryOrEnd st s).port i).exchange = (s.port i).exchange) ∧
    (∀ i, ((retryOrEnd st s).port i).resetSeen = (s.port i).resetSeen) ∧
    (∀ i, ((retryOrEnd st s).port i).lapsedSeen = (s.port i).lapsedSeen) ∧
    (∀ i, ((retryOrEnd st s).host i).state = (s.host i).state) ∧
    (∀ i, ((retryOrEnd st s).host i).lease = (s.host i).lease) ∧
    (∀ i, ((retryOrEnd st s).host i).warned = (s.host i).warned) ∧
    (∀ i, ((retryOrEnd st s).host i).reserved = (s.host i).reserved) ∧
    (∀ i, ((retryOrEnd st s).host i).budget = (s.host i).budget) ∧
    (∀ i, ((retryOrEnd st s).host i).vote = (s.host i).vote) ∧
    (∀ i, ((retryOrEnd st s).host i).tickets = (s.host i).tickets) ∧
    (∀ i, ((retryOrEnd st s).host i).cells = (s.host i).cells) ∧
    (∀ i, ((retryOrEnd st s).host i).budgetHit = (s.host i).budgetHit) ∧
    (∀ i, (retryOrEnd st s).isActive i = s.isActive i) ∧ (∀ i, (retryOrEnd st s).pane i = s.pane i) := by
  unfold retryOrEnd; (repeat' split) <;> simp -implicitDefEqProofs

@[simp] theorem takePanelSend_frame (h : HostNo) (tag address synced : Byte) (data : List Byte) (s : State) :
    (takePanelSend h tag address synced data s).pending = s.pending ∧
    (takePanelSend h tag address synced data s).choices = s.choices ∧
    (takePanelSend h tag address synced data s).resetPin = s.resetPin ∧
    (takePanelSend h tag address synced data s).store = s.store ∧
    (takePanelSend h tag address synced data s).scan = s.scan ∧
    (takePanelSend h tag address synced data s).arbiter = s.arbiter ∧
    (takePanelSend h tag address synced data s).parked = s.parked ∧
    (takePanelSend h tag address synced data s).faults = s.faults ∧
    (takePanelSend h tag address synced data s).conf = s.conf ∧
    (takePanelSend h tag address synced data s).panel.timer = s.panel.timer ∧
    (takePanelSend h tag address synced data s).panel.blanking = s.panel.blanking ∧
    (∀ i, (takePanelSend h tag address synced data s).host i = s.host i) ∧
    (∀ i, (takePanelSend h tag address synced data s).lane i = s.lane i) ∧
    (∀ i, (takePanelSend h tag address synced data s).queue i = s.queue i) ∧
    (∀ i, ((takePanelSend h tag address synced data s).port i).present = (s.port i).present) ∧
    (∀ i, ((takePanelSend h tag address synced data s).port i).drop = (s.port i).drop) ∧
    (∀ i, ((takePanelSend h tag address synced data s).port i).exchange = (s.port i).exchange) ∧
    (∀ i, ((takePanelSend h tag address synced data s).port i).resetSeen = (s.port i).resetSeen) ∧
    (∀ i, ((takePanelSend h tag address synced data s).port i).lapsedSeen = (s.port i).lapsedSeen) ∧
    (∀ i, (takePanelSend h tag address synced data s).isActive i = s.isActive i) ∧
    (∀ i, (takePanelSend h tag address synced data s).pane i = s.pane i) := by
  unfold takePanelSend; (repeat' split) <;> simp -implicitDefEqProofs

@[simp] theorem panelSendEnd_frame (s : State) :
    (panelSendEnd s).pending = s.pending ∧ (panelSendEnd s).choices = s.choices ∧
    (panelSendEnd s).resetPin = s.resetPin ∧ (panelSendEnd s).store = s.store ∧ (panelSendEnd s).scan = s.scan ∧
    (panelSendEnd s).arbiter = s.arbiter ∧ (panelSendEnd s).parked = s.parked ∧ (panelSendEnd s).faults = s.faults ∧
    (panelSendEnd s).conf = s.conf ∧ (panelSendEnd s).panel.fifo = s.panel.fifo ∧
    (panelSendEnd s).panel.blanking = s.panel.blanking ∧ (∀ i, (panelSendEnd s).port i = s.port i) ∧
    (∀ i, (panelSendEnd s).host i = s.host i) ∧ (∀ i, (panelSendEnd s).lane i = s.lane i) ∧
    (∀ i, (panelSendEnd s).queue i = s.queue i) ∧ (∀ i, (panelSendEnd s).isActive i = s.isActive i) ∧
    (∀ i, (panelSendEnd s).pane i = s.pane i) := by
  unfold panelSendEnd; (repeat' split) <;> simp -implicitDefEqProofs

@[simp] theorem panelAck_frame (s : State) :
    (panelAck s).pending = s.pending ∧ (panelAck s).choices = s.choices ∧ (panelAck s).resetPin = s.resetPin ∧
    (panelAck s).store = s.store ∧ (panelAck s).scan = s.scan ∧ (panelAck s).arbiter = s.arbiter ∧
    (panelAck s).parked = s.parked ∧ (panelAck s).conf = s.conf ∧ (panelAck s).panel.blanking = s.panel.blanking ∧
    (∀ i, (panelAck s).lane i = s.lane i) ∧ (∀ i, ((panelAck s).port i).present = (s.port i).present) ∧
    (∀ i, ((panelAck s).port i).drop = (s.port i).drop) ∧ (∀ i, ((panelAck s).port i).exchange = (s.port i).exchange) ∧
    (∀ i, ((panelAck s).port i).resetSeen = (s.port i).resetSeen) ∧
    (∀ i, ((panelAck s).port i).lapsedSeen = (s.port i).lapsedSeen) ∧
    (∀ i, ((panelAck s).host i).state = (s.host i).state) ∧ (∀ i, ((panelAck s).host i).lease = (s.host i).lease) ∧
    (∀ i, ((panelAck s).host i).warned = (s.host i).warned) ∧
    (∀ i, ((panelAck s).host i).reserved = (s.host i).reserved) ∧
    (∀ i, ((panelAck s).host i).budget = (s.host i).budget) ∧ (∀ i, ((panelAck s).host i).vote = (s.host i).vote) ∧
    (∀ i, ((panelAck s).host i).tickets = (s.host i).tickets) ∧ (∀ i, ((panelAck s).host i).cells = (s.host i).cells) ∧
    (∀ i, ((panelAck s).host i).budgetHit = (s.host i).budgetHit) ∧ (∀ i, (panelAck s).isActive i = s.isActive i) ∧
    (∀ i, (panelAck s).pane i = s.pane i) := by
  unfold panelAck; (repeat' split) <;> simp -implicitDefEqProofs

@[simp] theorem panelNak_frame (s : State) :
    (panelNak s).pending = s.pending ∧ (panelNak s).choices = s.choices ∧ (panelNak s).resetPin = s.resetPin ∧
    (panelNak s).store = s.store ∧ (panelNak s).scan = s.scan ∧ (panelNak s).arbiter = s.arbiter ∧
    (panelNak s).parked = s.parked ∧ (panelNak s).conf = s.conf ∧ (panelNak s).panel.blanking = s.panel.blanking ∧
    (∀ i, (panelNak s).lane i = s.lane i) ∧ (∀ i, ((panelNak s).port i).present = (s.port i).present) ∧
    (∀ i, ((panelNak s).port i).drop = (s.port i).drop) ∧ (∀ i, ((panelNak s).port i).exchange = (s.port i).exchange) ∧
    (∀ i, ((panelNak s).port i).resetSeen = (s.port i).resetSeen) ∧
    (∀ i, ((panelNak s).port i).lapsedSeen = (s.port i).lapsedSeen) ∧
    (∀ i, ((panelNak s).host i).state = (s.host i).state) ∧ (∀ i, ((panelNak s).host i).lease = (s.host i).lease) ∧
    (∀ i, ((panelNak s).host i).warned = (s.host i).warned) ∧
    (∀ i, ((panelNak s).host i).reserved = (s.host i).reserved) ∧
    (∀ i, ((panelNak s).host i).budget = (s.host i).budget) ∧ (∀ i, ((panelNak s).host i).vote = (s.host i).vote) ∧
    (∀ i, ((panelNak s).host i).tickets = (s.host i).tickets) ∧ (∀ i, ((panelNak s).host i).cells = (s.host i).cells) ∧
    (∀ i, ((panelNak s).host i).budgetHit = (s.host i).budgetHit) ∧ (∀ i, (panelNak s).isActive i = s.isActive i) ∧
    (∀ i, (panelNak s).pane i = s.pane i) := by
  unfold panelNak; (repeat' split) <;> simp -implicitDefEqProofs

@[simp] theorem panelByte_frame (b : Byte) (s : State) :
    (panelByte b s).pending = s.pending ∧ (panelByte b s).choices = s.choices ∧ (panelByte b s).resetPin = s.resetPin ∧
    (panelByte b s).store = s.store ∧ (panelByte b s).scan = s.scan ∧ (panelByte b s).arbiter = s.arbiter ∧
    (panelByte b s).parked = s.parked ∧ (panelByte b s).conf = s.conf ∧
    (panelByte b s).panel.blanking = s.panel.blanking ∧ (∀ i, (panelByte b s).lane i = s.lane i) ∧
    (∀ i, ((panelByte b s).port i).present = (s.port i).present) ∧
    (∀ i, ((panelByte b s).port i).drop = (s.port i).drop) ∧
    (∀ i, ((panelByte b s).port i).exchange = (s.port i).exchange) ∧
    (∀ i, ((panelByte b s).port i).resetSeen = (s.port i).resetSeen) ∧
    (∀ i, ((panelByte b s).port i).lapsedSeen = (s.port i).lapsedSeen) ∧
    (∀ i, ((panelByte b s).host i).state = (s.host i).state) ∧
    (∀ i, ((panelByte b s).host i).lease = (s.host i).lease) ∧
    (∀ i, ((panelByte b s).host i).warned = (s.host i).warned) ∧
    (∀ i, ((panelByte b s).host i).reserved = (s.host i).reserved) ∧
    (∀ i, ((panelByte b s).host i).budget = (s.host i).budget) ∧
    (∀ i, ((panelByte b s).host i).vote = (s.host i).vote) ∧
    (∀ i, ((panelByte b s).host i).tickets = (s.host i).tickets) ∧
    (∀ i, ((panelByte b s).host i).cells = (s.host i).cells) ∧
    (∀ i, ((panelByte b s).host i).budgetHit = (s.host i).budgetHit) ∧
    (∀ i, (panelByte b s).isActive i = s.isActive i) ∧ (∀ i, (panelByte b s).pane i = s.pane i) := by
  unfold panelByte; (repeat' split) <;> simp -implicitDefEqProofs

@[simp] theorem replyTimerExpiry_frame (s : State) :
    (replyTimerExpiry s).pending = s.pending ∧ (replyTimerExpiry s).choices = s.choices ∧
    (replyTimerExpiry s).resetPin = s.resetPin ∧ (replyTimerExpiry s).store = s.store ∧
    (replyTimerExpiry s).scan = s.scan ∧ (replyTimerExpiry s).arbiter = s.arbiter ∧
    (replyTimerExpiry s).parked = s.parked ∧ (replyTimerExpiry s).conf = s.conf ∧
    (replyTimerExpiry s).panel.blanking = s.panel.blanking ∧ (∀ i, (replyTimerExpiry s).lane i = s.lane i) ∧
    (∀ i, ((replyTimerExpiry s).port i).present = (s.port i).present) ∧
    (∀ i, ((replyTimerExpiry s).port i).drop = (s.port i).drop) ∧
    (∀ i, ((replyTimerExpiry s).port i).exchange = (s.port i).exchange) ∧
    (∀ i, ((replyTimerExpiry s).port i).resetSeen = (s.port i).resetSeen) ∧
    (∀ i, ((replyTimerExpiry s).port i).lapsedSeen = (s.port i).lapsedSeen) ∧
    (∀ i, ((replyTimerExpiry s).host i).state = (s.host i).state) ∧
    (∀ i, ((replyTimerExpiry s).host i).lease = (s.host i).lease) ∧
    (∀ i, ((replyTimerExpiry s).host i).warned = (s.host i).warned) ∧
    (∀ i, ((replyTimerExpiry s).host i).reserved = (s.host i).reserved) ∧
    (∀ i, ((replyTimerExpiry s).host i).budget = (s.host i).budget) ∧
    (∀ i, ((replyTimerExpiry s).host i).vote = (s.host i).vote) ∧
    (∀ i, ((replyTimerExpiry s).host i).tickets = (s.host i).tickets) ∧
    (∀ i, ((replyTimerExpiry s).host i).cells = (s.host i).cells) ∧
    (∀ i, ((replyTimerExpiry s).host i).budgetHit = (s.host i).budgetHit) ∧
    (∀ i, (replyTimerExpiry s).isActive i = s.isActive i) ∧ (∀ i, (replyTimerExpiry s).pane i = s.pane i) := by
  unfold replyTimerExpiry; (repeat' split) <;> simp -implicitDefEqProofs

@[simp] theorem dropTransfers_frame (h : HostNo) (s : State) :
    (dropTransfers h s).pending = s.pending ∧ (dropTransfers h s).choices = s.choices ∧
    (dropTransfers h s).resetPin = s.resetPin ∧ (dropTransfers h s).store = s.store ∧
    (dropTransfers h s).scan = s.scan ∧ (dropTransfers h s).arbiter = s.arbiter ∧
    (dropTransfers h s).parked = s.parked ∧ (dropTransfers h s).faults = s.faults ∧ (dropTransfers h s).conf = s.conf ∧
    (dropTransfers h s).panel.inFlight = s.panel.inFlight ∧ (dropTransfers h s).panel.timer = s.panel.timer ∧
    (dropTransfers h s).panel.blanking = s.panel.blanking ∧ (∀ i, (dropTransfers h s).port i = s.port i) ∧
    (∀ i, (dropTransfers h s).host i = s.host i) ∧ (∀ i, (dropTransfers h s).lane i = s.lane i) ∧
    (∀ i, (dropTransfers h s).queue i = s.queue i) ∧ (∀ i, (dropTransfers h s).isActive i = s.isActive i) ∧
    (∀ i, (dropTransfers h s).pane i = s.pane i) := by
  simp -implicitDefEqProofs [dropTransfers]

@[simp] theorem discardInFlight_frame (h : HostNo) (s : State) :
    (discardInFlight h s).pending = s.pending ∧ (discardInFlight h s).choices = s.choices ∧
    (discardInFlight h s).resetPin = s.resetPin ∧ (discardInFlight h s).store = s.store ∧
    (discardInFlight h s).scan = s.scan ∧ (discardInFlight h s).arbiter = s.arbiter ∧
    (discardInFlight h s).parked = s.parked ∧ (discardInFlight h s).faults = s.faults ∧
    (discardInFlight h s).conf = s.conf ∧ (discardInFlight h s).panel.fifo = s.panel.fifo ∧
    (discardInFlight h s).panel.timer = s.panel.timer ∧ (discardInFlight h s).panel.blanking = s.panel.blanking ∧
    (∀ i, (discardInFlight h s).port i = s.port i) ∧ (∀ i, (discardInFlight h s).host i = s.host i) ∧
    (∀ i, (discardInFlight h s).lane i = s.lane i) ∧ (∀ i, (discardInFlight h s).queue i = s.queue i) ∧
    (∀ i, (discardInFlight h s).isActive i = s.isActive i) ∧ (∀ i, (discardInFlight h s).pane i = s.pane i) := by
  simp -implicitDefEqProofs [discardInFlight]

end Sys2Proof.Machine
end

