-- ==== Sys2Proof/Laws/ScanFrames.lean ====
section
/-! SUPPORT. What the operations of the Scan Engine leave as it stands. -/

set_option Elab.async false

namespace Sys2Proof.Machine

@[simp] theorem boundaryPane_frame (frame : Half) (p : PaneNo) (s : State) :
    (boundaryPane frame p s).pending = s.pending ∧ (boundaryPane frame p s).choices = s.choices ∧
    (boundaryPane frame p s).resetPin = s.resetPin ∧ (boundaryPane frame p s).store = s.store ∧
    (boundaryPane frame p s).scan = s.scan ∧ (boundaryPane frame p s).arbiter = s.arbiter ∧
    (boundaryPane frame p s).parked = s.parked ∧ (boundaryPane frame p s).faults = s.faults ∧
    (boundaryPane frame p s).panel = s.panel ∧ (boundaryPane frame p s).conf = s.conf ∧
    (∀ i, (boundaryPane frame p s).host i = s.host i) ∧ (∀ i, (boundaryPane frame p s).lane i = s.lane i) ∧
    (∀ i, ((boundaryPane frame p s).port i).present = (s.port i).present) ∧
    (∀ i, ((boundaryPane frame p s).port i).responses = (s.port i).responses) ∧
    (∀ i, ((boundaryPane frame p s).port i).slots = (s.port i).slots) ∧
    (∀ i, ((boundaryPane frame p s).port i).drop = (s.port i).drop) ∧
    (∀ i, ((boundaryPane frame p s).port i).exchange = (s.port i).exchange) ∧
    (∀ i, ((boundaryPane frame p s).port i).resetSeen = (s.port i).resetSeen) ∧
    (∀ i, ((boundaryPane frame p s).port i).lapsedSeen = (s.port i).lapsedSeen) ∧
    (∀ i, (boundaryPane frame p s).isActive i = s.isActive i) := by
  unfold boundaryPane; dsimp only; (repeat' split) <;> simp -implicitDefEqProofs

@[simp] theorem frameBoundary_frame (frame : Half) (s : State) :
    (frameBoundary frame s).pending = s.pending ∧ (frameBoundary frame s).choices = s.choices ∧
    (frameBoundary frame s).resetPin = s.resetPin ∧ (frameBoundary frame s).store = s.store ∧
    (frameBoundary frame s).arbiter = s.arbiter ∧ (frameBoundary frame s).parked = s.parked ∧
    (frameBoundary frame s).faults = s.faults ∧ (frameBoundary frame s).panel = s.panel ∧
    (frameBoundary frame s).conf = s.conf ∧ (frameBoundary frame s).scan.link = s.scan.link ∧
    (frameBoundary frame s).scan.queue = s.scan.queue ∧ (frameBoundary frame s).scan.mark = s.scan.mark ∧
    (frameBoundary frame s).scan.emission = s.scan.emission ∧ (frameBoundary frame s).scan.lane = s.scan.lane ∧
    (frameBoundary frame s).scan.emitter = s.scan.emitter ∧ (frameBoundary frame s).scan.timer = s.scan.timer ∧
    (frameBoundary frame s).scan.cursorLine = s.scan.cursorLine ∧ (frameBoundary frame s).scan.latch = s.scan.latch ∧
    (∀ i, ((frameBoundary frame s).port i).present = (s.port i).present) ∧
    (∀ i, ((frameBoundary frame s).port i).responses = (s.port i).responses) ∧
    (∀ i, ((frameBoundary frame s).port i).slots = (s.port i).slots) ∧
    (∀ i, ((frameBoundary frame s).port i).drop = (s.port i).drop) ∧
    (∀ i, ((frameBoundary frame s).port i).exchange = (s.port i).exchange) ∧
    (∀ i, ((frameBoundary frame s).port i).resetSeen = (s.port i).resetSeen) ∧
    (∀ i, ((frameBoundary frame s).port i).lapsedSeen = (s.port i).lapsedSeen) ∧
    (∀ i, ((frameBoundary frame s).host i).state = (s.host i).state) ∧
    (∀ i, ((frameBoundary frame s).host i).lease = (s.host i).lease) ∧
    (∀ i, ((frameBoundary frame s).host i).warned = (s.host i).warned) ∧
    (∀ i, ((frameBoundary frame s).host i).reserved = (s.host i).reserved) ∧
    (∀ i, ((frameBoundary frame s).host i).budget = (s.host i).budget) ∧
    (∀ i, ((frameBoundary frame s).host i).vote = (s.host i).vote) ∧
    (∀ i, ((frameBoundary frame s).host i).tickets = (s.host i).tickets) ∧
    (∀ i, ((frameBoundary frame s).host i).overflow = (s.host i).overflow) ∧
    (∀ i, ((frameBoundary frame s).lane i).queued = (s.lane i).queued) ∧
    (∀ i, (frameBoundary frame s).isActive i = s.isActive i) := by
  simp -implicitDefEqProofs [frameBoundary]

@[simp] theorem startLatchAs_frame (frame : Half) (s : State) :
    (startLatchAs frame s).pending = s.pending ∧ (startLatchAs frame s).choices = s.choices ∧
    (startLatchAs frame s).resetPin = s.resetPin ∧ (startLatchAs frame s).store = s.store ∧
    (startLatchAs frame s).arbiter = s.arbiter ∧ (startLatchAs frame s).parked = s.parked ∧
    (startLatchAs frame s).faults = s.faults ∧ (startLatchAs frame s).panel = s.panel ∧
    (startLatchAs frame s).conf = s.conf ∧ (startLatchAs frame s).scan.link = s.scan.link ∧
    (startLatchAs frame s).scan.queue = s.scan.queue ∧ (startLatchAs frame s).scan.mark = s.scan.mark ∧
    (startLatchAs frame s).scan.emission = s.scan.emission ∧ (startLatchAs frame s).scan.lane = s.scan.lane ∧
    (startLatchAs frame s).scan.emitter = s.scan.emitter ∧ (startLatchAs frame s).scan.timer = s.scan.timer ∧
    (startLatchAs frame s).scan.cursorLine = s.scan.cursorLine ∧
    (∀ i, ((startLatchAs frame s).port i).present = (s.port i).present) ∧
    (∀ i, ((startLatchAs frame s).port i).responses = (s.port i).responses) ∧
    (∀ i, ((startLatchAs frame s).port i).slots = (s.port i).slots) ∧
    (∀ i, ((startLatchAs frame s).port i).drop = (s.port i).drop) ∧
    (∀ i, ((startLatchAs frame s).port i).exchange = (s.port i).exchange) ∧
    (∀ i, ((startLatchAs frame s).port i).resetSeen = (s.port i).resetSeen) ∧
    (∀ i, ((startLatchAs frame s).port i).lapsedSeen = (s.port i).lapsedSeen) ∧
    (∀ i, ((startLatchAs frame s).host i).state = (s.host i).state) ∧
    (∀ i, ((startLatchAs frame s).host i).lease = (s.host i).lease) ∧
    (∀ i, ((startLatchAs frame s).host i).warned = (s.host i).warned) ∧
    (∀ i, ((startLatchAs frame s).host i).reserved = (s.host i).reserved) ∧
    (∀ i, ((startLatchAs frame s).host i).budget = (s.host i).budget) ∧
    (∀ i, ((startLatchAs frame s).host i).vote = (s.host i).vote) ∧
    (∀ i, ((startLatchAs frame s).host i).tickets = (s.host i).tickets) ∧
    (∀ i, ((startLatchAs frame s).host i).overflow = (s.host i).overflow) ∧
    (∀ i, ((startLatchAs frame s).lane i).queued = (s.lane i).queued) ∧
    (∀ i, (startLatchAs frame s).isActive i = s.isActive i) := by
  unfold startLatchAs; dsimp only; (repeat' split) <;> simp -implicitDefEqProofs

@[simp] theorem startLatch_frame (s : State) :
    (startLatch s).pending = s.pending ∧ (startLatch s).choices = s.choices ∧ (startLatch s).resetPin = s.resetPin ∧
    (startLatch s).store = s.store ∧ (startLatch s).arbiter = s.arbiter ∧ (startLatch s).parked = s.parked ∧
    (startLatch s).faults = s.faults ∧ (startLatch s).panel = s.panel ∧ (startLatch s).conf = s.conf ∧
    (startLatch s).scan.link = s.scan.link ∧ (startLatch s).scan.queue = s.scan.queue ∧
    (startLatch s).scan.mark = s.scan.mark ∧ (startLatch s).scan.emission = s.scan.emission ∧
    (startLatch s).scan.lane = s.scan.lane ∧ (startLatch s).scan.emitter = s.scan.emitter ∧
    (startLatch s).scan.timer = s.scan.timer ∧ (startLatch s).scan.cursorLine = s.scan.cursorLine ∧
    (∀ i, ((startLatch s).port i).present = (s.port i).present) ∧
    (∀ i, ((startLatch s).port i).responses = (s.port i).responses) ∧
    (∀ i, ((startLatch s).port i).slots = (s.port i).slots) ∧ (∀ i, ((startLatch s).port i).drop = (s.port i).drop) ∧
    (∀ i, ((startLatch s).port i).exchange = (s.port i).exchange) ∧
    (∀ i, ((startLatch s).port i).resetSeen = (s.port i).resetSeen) ∧
    (∀ i, ((startLatch s).port i).lapsedSeen = (s.port i).lapsedSeen) ∧
    (∀ i, ((startLatch s).host i).state = (s.host i).state) ∧ (∀ i, ((startLatch s).host i).lease = (s.host i).lease) ∧
    (∀ i, ((startLatch s).host i).warned = (s.host i).warned) ∧
    (∀ i, ((startLatch s).host i).reserved = (s.host i).reserved) ∧
    (∀ i, ((startLatch s).host i).budget = (s.host i).budget) ∧ (∀ i, ((startLatch s).host i).vote = (s.host i).vote) ∧
    (∀ i, ((startLatch s).host i).tickets = (s.host i).tickets) ∧
    (∀ i, ((startLatch s).host i).overflow = (s.host i).overflow) ∧
    (∀ i, ((startLatch s).lane i).queued = (s.lane i).queued) ∧ (∀ i, (startLatch s).isActive i = s.isActive i) := by
  simp -implicitDefEqProofs [startLatch]

@[simp] theorem releaseAndStart_frame (s : State) :
    (releaseAndStart s).pending = s.pending ∧ (releaseAndStart s).resetPin = s.resetPin ∧
    (releaseAndStart s).store = s.store ∧ (releaseAndStart s).arbiter = s.arbiter ∧
    (releaseAndStart s).faults = s.faults ∧ (releaseAndStart s).panel = s.panel ∧ (releaseAndStart s).conf = s.conf ∧
    (releaseAndStart s).scan.link = s.scan.link ∧ (releaseAndStart s).scan.queue = s.scan.queue ∧
    (releaseAndStart s).scan.mark = s.scan.mark ∧ (releaseAndStart s).scan.emission = s.scan.emission ∧
    (releaseAndStart s).scan.lane = s.scan.lane ∧ (releaseAndStart s).scan.emitter = s.scan.emitter ∧
    (releaseAndStart s).scan.timer = s.scan.timer ∧ (releaseAndStart s).scan.cursorLine = s.scan.cursorLine ∧
    (∀ i, ((releaseAndStart s).port i).present = (s.port i).present) ∧
    (∀ i, ((releaseAndStart s).port i).responses = (s.port i).responses) ∧
    (∀ i, ((releaseAndStart s).port i).slots = (s.port i).slots) ∧
    (∀ i, ((releaseAndStart s).port i).drop = (s.port i).drop) ∧
    (∀ i, ((releaseAndStart s).port i).exchange = (s.port i).exchange) ∧
    (∀ i, ((releaseAndStart s).port i).resetSeen = (s.port i).resetSeen) ∧
    (∀ i, ((releaseAndStart s).port i).lapsedSeen = (s.port i).lapsedSeen) ∧
    (∀ i, ((releaseAndStart s).host i).state = (s.host i).state) ∧
    (∀ i, ((releaseAndStart s).host i).lease = (s.host i).lease) ∧
    (∀ i, ((releaseAndStart s).host i).warned = (s.host i).warned) ∧
    (∀ i, ((releaseAndStart s).host i).reserved = (s.host i).reserved) ∧
    (∀ i, ((releaseAndStart s).host i).budget = (s.host i).budget) ∧
    (∀ i, ((releaseAndStart s).host i).vote = (s.host i).vote) ∧
    (∀ i, ((releaseAndStart s).host i).tickets = (s.host i).tickets) ∧
    (∀ i, ((releaseAndStart s).host i).overflow = (s.host i).overflow) ∧
    (∀ i, ((releaseAndStart s).lane i).queued = (s.lane i).queued) ∧
    (∀ i, (releaseAndStart s).isActive i = s.isActive i) := by
  unfold releaseAndStart; dsimp only; (repeat' split) <;> simp -implicitDefEqProofs

@[simp] theorem completeLatch_frame (l : Latch) (s : State) :
    (completeLatch l s).pending = s.pending ∧ (completeLatch l s).resetPin = s.resetPin ∧
    (completeLatch l s).store = s.store ∧ (completeLatch l s).faults = s.faults ∧ (completeLatch l s).panel = s.panel ∧
    (completeLatch l s).conf = s.conf ∧ (completeLatch l s).scan.link = s.scan.link ∧
    (completeLatch l s).scan.mark = s.scan.mark ∧ (completeLatch l s).scan.emission = s.scan.emission ∧
    (completeLatch l s).scan.lane = s.scan.lane ∧ (completeLatch l s).scan.emitter = s.scan.emitter ∧
    (completeLatch l s).scan.timer = s.scan.timer ∧ (completeLatch l s).arbiter.access = s.arbiter.access ∧
    (completeLatch l s).arbiter.lastGrant = s.arbiter.lastGrant ∧
    (completeLatch l s).arbiter.rotation = s.arbiter.rotation ∧
    (∀ i, ((completeLatch l s).port i).present = (s.port i).present) ∧
    (∀ i, ((completeLatch l s).port i).responses = (s.port i).responses) ∧
    (∀ i, ((completeLatch l s).port i).slots = (s.port i).slots) ∧
    (∀ i, ((completeLatch l s).port i).drop = (s.port i).drop) ∧
    (∀ i, ((completeLatch l s).port i).exchange = (s.port i).exchange) ∧
    (∀ i, ((completeLatch l s).port i).resetSeen = (s.port i).resetSeen) ∧
    (∀ i, ((completeLatch l s).port i).lapsedSeen = (s.port i).lapsedSeen) ∧
    (∀ i, ((completeLatch l s).host i).state = (s.host i).state) ∧
    (∀ i, ((completeLatch l s).host i).lease = (s.host i).lease) ∧
    (∀ i, ((completeLatch l s).host i).warned = (s.host i).warned) ∧
    (∀ i, ((completeLatch l s).host i).reserved = (s.host i).reserved) ∧
    (∀ i, ((completeLatch l s).host i).budget = (s.host i).budget) ∧
    (∀ i, ((completeLatch l s).host i).vote = (s.host i).vote) ∧
    (∀ i, ((completeLatch l s).host i).tickets = (s.host i).tickets) ∧
    (∀ i, ((completeLatch l s).host i).overflow = (s.host i).overflow) ∧
    (∀ i, ((completeLatch l s).lane i).queued = (s.lane i).queued) ∧
    (∀ i, (completeLatch l s).isActive i = s.isActive i) := by
  simp -implicitDefEqProofs [completeLatch]

@[simp] theorem gatherSegment_frame (cells : List Cell) (s : State) :
    (gatherSegment cells s).pending = s.pending ∧ (gatherSegment cells s).resetPin = s.resetPin ∧
    (gatherSegment cells s).store = s.store ∧ (gatherSegment cells s).faults = s.faults ∧
    (gatherSegment cells s).panel = s.panel ∧ (gatherSegment cells s).conf = s.conf ∧
    (gatherSegment cells s).scan.link = s.scan.link ∧ (gatherSegment cells s).scan.mark = s.scan.mark ∧
    (gatherSegment cells s).scan.emission = s.scan.emission ∧ (gatherSegment cells s).scan.lane = s.scan.lane ∧
    (gatherSegment cells s).scan.emitter = s.scan.emitter ∧ (gatherSegment cells s).scan.timer = s.scan.timer ∧
    (gatherSegment cells s).arbiter.access = s.arbiter.access ∧
    (gatherSegment cells s).arbiter.lastGrant = s.arbiter.lastGrant ∧
    (gatherSegment cells s).arbiter.rotation = s.arbiter.rotation ∧
    (∀ i, ((gatherSegment cells s).port i).present = (s.port i).present) ∧
    (∀ i, ((gatherSegment cells s).port i).responses = (s.port i).responses) ∧
    (∀ i, ((gatherSegment cells s).port i).slots = (s.port i).slots) ∧
    (∀ i, ((gatherSegment cells s).port i).drop = (s.port i).drop) ∧
    (∀ i, ((gatherSegment cells s).port i).exchange = (s.port i).exchange) ∧
    (∀ i, ((gatherSegment cells s).port i).resetSeen = (s.port i).resetSeen) ∧
    (∀ i, ((gatherSegment cells s).port i).lapsedSeen = (s.port i).lapsedSeen) ∧
    (∀ i, ((gatherSegment cells s).host i).state = (s.host i).state) ∧
    (∀ i, ((gatherSegment cells s).host i).lease = (s.host i).lease) ∧
    (∀ i, ((gatherSegment cells s).host i).warned = (s.host i).warned) ∧
    (∀ i, ((gatherSegment cells s).host i).reserved = (s.host i).reserved) ∧
    (∀ i, ((gatherSegment cells s).host i).budget = (s.host i).budget) ∧
    (∀ i, ((gatherSegment cells s).host i).vote = (s.host i).vote) ∧
    (∀ i, ((gatherSegment cells s).host i).tickets = (s.host i).tickets) ∧
    (∀ i, ((gatherSegment cells s).host i).overflow = (s.host i).overflow) ∧
    (∀ i, ((gatherSegment cells s).lane i).queued = (s.lane i).queued) ∧
    (∀ i, (gatherSegment cells s).isActive i = s.isActive i) := by
  unfold gatherSegment; dsimp only; (repeat' split) <;> simp -implicitDefEqProofs

@[simp] theorem restartLatch_frame (re : Option (Half × Nat)) (s : State) :
    (restartLatch re s).pending = s.pending ∧ (restartLatch re s).choices = s.choices ∧
    (restartLatch re s).resetPin = s.resetPin ∧ (restartLatch re s).store = s.store ∧
    (restartLatch re s).arbiter = s.arbiter ∧ (restartLatch re s).parked = s.parked ∧
    (restartLatch re s).faults = s.faults ∧ (restartLatch re s).panel = s.panel ∧ (restartLatch re s).conf = s.conf ∧
    (restartLatch re s).scan.link = s.scan.link ∧ (restartLatch re s).scan.frame = s.scan.frame ∧
    (restartLatch re s).scan.queue = s.scan.queue ∧ (restartLatch re s).scan.mark = s.scan.mark ∧
    (restartLatch re s).scan.emission = s.scan.emission ∧ (restartLatch re s).scan.lane = s.scan.lane ∧
    (restartLatch re s).scan.emitter = s.scan.emitter ∧ (restartLatch re s).scan.timer = s.scan.timer ∧
    (restartLatch re s).scan.cursorLine = s.scan.cursorLine ∧
    (restartLatch re s).scan.cursorFrame = s.scan.cursorFrame ∧ (∀ i, (restartLatch re s).port i = s.port i) ∧
    (∀ i, (restartLatch re s).host i = s.host i) ∧ (∀ i, (restartLatch re s).lane i = s.lane i) ∧
    (∀ i, (restartLatch re s).queue i = s.queue i) ∧ (∀ i, (restartLatch re s).isActive i = s.isActive i) ∧
    (∀ i, (restartLatch re s).pane i = s.pane i) := by
  unfold restartLatch; (repeat' split) <;> simp -implicitDefEqProofs

@[simp] theorem freeStore_frame (s : State) :
    (freeStore s).pending = s.pending ∧ (freeStore s).choices = s.choices ∧ (freeStore s).resetPin = s.resetPin ∧
    (freeStore s).store = s.store ∧ (freeStore s).scan = s.scan ∧ (freeStore s).parked = s.parked ∧
    (freeStore s).faults = s.faults ∧ (freeStore s).panel = s.panel ∧ (freeStore s).conf = s.conf ∧
    (freeStore s).arbiter.urgency = s.arbiter.urgency ∧ (freeStore s).arbiter.lastGrant = s.arbiter.lastGrant ∧
    (freeStore s).arbiter.rotation = s.arbiter.rotation ∧ (∀ i, (freeStore s).port i = s.port i) ∧
    (∀ i, (freeStore s).host i = s.host i) ∧ (∀ i, (freeStore s).lane i = s.lane i) ∧
    (∀ i, (freeStore s).queue i = s.queue i) ∧ (∀ i, (freeStore s).isActive i = s.isActive i) ∧
    (∀ i, (freeStore s).pane i = s.pane i) := by
  simp -implicitDefEqProofs [freeStore]

@[simp] theorem storeCells_frame (bank : Bank) (line first : Nat) (cells : List Cell) (s : State) :
    (storeCells bank line first cells s).pending = s.pending ∧
    (storeCells bank line first cells s).choices = s.choices ∧
    (storeCells bank line first cells s).resetPin = s.resetPin ∧ (storeCells bank line first cells s).scan = s.scan ∧
    (storeCells bank line first cells s).arbiter = s.arbiter ∧ (storeCells bank line first cells s).parked = s.parked ∧
    (storeCells bank line first cells s).faults = s.faults ∧ (storeCells bank line first cells s).panel = s.panel ∧
    (storeCells bank line first cells s).conf = s.conf ∧ (∀ i, (storeCells bank line first cells s).port i = s.port i) ∧
    (∀ i, (storeCells bank line first cells s).host i = s.host i) ∧
    (∀ i, (storeCells bank line first cells s).lane i = s.lane i) ∧
    (∀ i, (storeCells bank line first cells s).queue i = s.queue i) ∧
    (∀ i, (storeCells bank line first cells s).isActive i = s.isActive i) ∧
    (∀ i, (storeCells bank line first cells s).pane i = s.pane i) := by
  simp -implicitDefEqProofs [storeCells]

@[simp] theorem segmentReadComplete_frame (s : State) :
    (segmentReadComplete s).pending = s.pending ∧ (segmentReadComplete s).resetPin = s.resetPin ∧
    (segmentReadComplete s).store = s.store ∧ (segmentReadComplete s).panel = s.panel ∧
    (segmentReadComplete s).conf = s.conf ∧ (segmentReadComplete s).scan.link = s.scan.link ∧
    (segmentReadComplete s).scan.mark = s.scan.mark ∧ (segmentReadComplete s).scan.emission = s.scan.emission ∧
    (segmentReadComplete s).scan.lane = s.scan.lane ∧ (segmentReadComplete s).scan.emitter = s.scan.emitter ∧
    (segmentReadComplete s).scan.timer = s.scan.timer ∧
    (∀ i, ((segmentReadComplete s).port i).present = (s.port i).present) ∧
    (∀ i, ((segmentReadComplete s).port i).drop = (s.port i).drop) ∧
    (∀ i, ((segmentReadComplete s).port i).exchange = (s.port i).exchange) ∧
    (∀ i, ((segmentReadComplete s).port i).resetSeen = (s.port i).resetSeen) ∧
    (∀ i, ((segmentReadComplete s).port i).lapsedSeen = (s.port i).lapsedSeen) ∧
    (∀ i, ((segmentReadComplete s).host i).state = (s.host i).state) ∧
    (∀ i, ((segmentReadComplete s).host i).lease = (s.host i).lease) ∧
    (∀ i, ((segmentReadComplete s).host i).warned = (s.host i).warned) ∧
    (∀ i, ((segmentReadComplete s).host i).reserved = (s.host i).reserved) ∧
    (∀ i, ((segmentReadComplete s).host i).budget = (s.host i).budget) ∧
    (∀ i, ((segmentReadComplete s).host i).vote = (s.host i).vote) ∧
    (∀ i, (segmentReadComplete s).isActive i = s.isActive i) := by
  unfold segmentReadComplete; (repeat' split) <;> simp -implicitDefEqProofs

@[simp] theorem writeAccessComplete_frame (s : State) :
    (writeAccessComplete s).pending = s.pending ∧ (writeAccessComplete s).choices = s.choices ∧
    (writeAccessComplete s).resetPin = s.resetPin ∧ (writeAccessComplete s).panel = s.panel ∧
    (writeAccessComplete s).conf = s.conf ∧ (writeAccessComplete s).scan.link = s.scan.link ∧
    (writeAccessComplete s).scan.frame = s.scan.frame ∧ (writeAccessComplete s).scan.queue = s.scan.queue ∧
    (writeAccessComplete s).scan.mark = s.scan.mark ∧ (writeAccessComplete s).scan.emission = s.scan.emission ∧
    (writeAccessComplete s).scan.lane = s.scan.lane ∧ (writeAccessComplete s).scan.emitter = s.scan.emitter ∧
    (writeAccessComplete s).scan.timer = s.scan.timer ∧ (writeAccessComplete s).scan.cursorLine = s.scan.cursorLine ∧
    (writeAccessComplete s).scan.cursorFrame = s.scan.cursorFrame ∧
    (writeAccessComplete s).arbiter.urgency = s.arbiter.urgency ∧
    (∀ i, ((writeAccessComplete s).port i).present = (s.port i).present) ∧
    (∀ i, ((writeAccessComplete s).port i).drop = (s.port i).drop) ∧
    (∀ i, ((writeAccessComplete s).port i).exchange = (s.port i).exchange) ∧
    (∀ i, ((writeAccessComplete s).port i).resetSeen = (s.port i).resetSeen) ∧
    (∀ i, ((writeAccessComplete s).port i).lapsedSeen = (s.port i).lapsedSeen) ∧
    (∀ i, ((writeAccessComplete s).host i).state = (s.host i).state) ∧
    (∀ i, ((writeAccessComplete s).host i).lease = (s.host i).lease) ∧
    (∀ i, ((writeAccessComplete s).host i).warned = (s.host i).warned) ∧
    (∀ i, ((writeAccessComplete s).host i).reserved = (s.host i).reserved) ∧
    (∀ i, ((writeAccessComplete s).host i).budget = (s.host i).budget) ∧
    (∀ i, ((writeAccessComplete s).host i).vote = (s.host i).vote) ∧
    (∀ i, (writeAccessComplete s).isActive i = s.isActive i) ∧
    (∀ i, ((writeAccessComplete s).pane i).state = (s.pane i).state) ∧
    (∀ i, ((writeAccessComplete s).pane i).owner = (s.pane i).owner) ∧
    (∀ i, ((writeAccessComplete s).pane i).former = (s.pane i).former) ∧
    (∀ i, ((writeAccessComplete s).pane i).guest = (s.pane i).guest) ∧
    (∀ i, ((writeAccessComplete s).pane i).current = (s.pane i).current) ∧
    (∀ i, ((writeAccessComplete s).pane i).modes = (s.pane i).modes) := by
  unfold writeAccessComplete; dsimp only; (repeat' split) <;> simp -implicitDefEqProofs

@[simp] theorem readAccessComplete_frame (s : State) :
    (readAccessComplete s).pending = s.pending ∧ (readAccessComplete s).choices = s.choices ∧
    (readAccessComplete s).resetPin = s.resetPin ∧ (readAccessComplete s).store = s.store ∧
    (readAccessComplete s).panel = s.panel ∧ (readAccessComplete s).conf = s.conf ∧
    (readAccessComplete s).scan.link = s.scan.link ∧ (readAccessComplete s).scan.frame = s.scan.frame ∧
    (readAccessComplete s).scan.queue = s.scan.queue ∧ (readAccessComplete s).scan.mark = s.scan.mark ∧
    (readAccessComplete s).scan.emission = s.scan.emission ∧ (readAccessComplete s).scan.lane = s.scan.lane ∧
    (readAccessComplete s).scan.emitter = s.scan.emitter ∧ (readAccessComplete s).scan.timer = s.scan.timer ∧
    (readAccessComplete s).scan.cursorLine = s.scan.cursorLine ∧
    (readAccessComplete s).scan.cursorFrame = s.scan.cursorFrame ∧
    (readAccessComplete s).arbiter.urgency = s.arbiter.urgency ∧
    (∀ i, ((readAccessComplete s).port i).present = (s.port i).present) ∧
    (∀ i, ((readAccessComplete s).port i).drop = (s.port i).drop) ∧
    (∀ i, ((readAccessComplete s).port i).exchange = (s.port i).exchange) ∧
    (∀ i, ((readAccessComplete s).port i).resetSeen = (s.port i).resetSeen) ∧
    (∀ i, ((readAccessComplete s).port i).lapsedSeen = (s.port i).lapsedSeen) ∧
    (∀ i, ((readAccessComplete s).host i).state = (s.host i).state) ∧
    (∀ i, ((readAccessComplete s).host i).lease = (s.host i).lease) ∧
    (∀ i, ((readAccessComplete s).host i).warned = (s.host i).warned) ∧
    (∀ i, ((readAccessComplete s).host i).reserved = (s.host i).reserved) ∧
    (∀ i, ((readAccessComplete s).host i).budget = (s.host i).budget) ∧
    (∀ i, ((readAccessComplete s).host i).vote = (s.host i).vote) ∧
    (∀ i, (readAccessComplete s).isActive i = s.isActive i) ∧
    (∀ i, ((readAccessComplete s).pane i).state = (s.pane i).state) ∧
    (∀ i, ((readAccessComplete s).pane i).owner = (s.pane i).owner) ∧
    (∀ i, ((readAccessComplete s).pane i).former = (s.pane i).former) ∧
    (∀ i, ((readAccessComplete s).pane i).guest = (s.pane i).guest) ∧
    (∀ i, ((readAccessComplete s).pane i).current = (s.pane i).current) ∧
    (∀ i, ((readAccessComplete s).pane i).modes = (s.pane i).modes) := by
  unfold readAccessComplete; (repeat' split) <;> simp -implicitDefEqProofs

@[simp] theorem advanceMark_frame (s : State) :
    (advanceMark s).pending = s.pending ∧ (advanceMark s).choices = s.choices ∧ (advanceMark s).resetPin = s.resetPin ∧
    (advanceMark s).store = s.store ∧ (advanceMark s).arbiter = s.arbiter ∧ (advanceMark s).parked = s.parked ∧
    (advanceMark s).faults = s.faults ∧ (advanceMark s).panel = s.panel ∧ (advanceMark s).conf = s.conf ∧
    (advanceMark s).scan.link = s.scan.link ∧ (advanceMark s).scan.frame = s.scan.frame ∧
    (advanceMark s).scan.queue = s.scan.queue ∧ (advanceMark s).scan.cursorLine = s.scan.cursorLine ∧
    (advanceMark s).scan.cursorFrame = s.scan.cursorFrame ∧ (advanceMark s).scan.latch = s.scan.latch ∧
    (∀ i, (advanceMark s).port i = s.port i) ∧ (∀ i, (advanceMark s).host i = s.host i) ∧
    (∀ i, (advanceMark s).lane i = s.lane i) ∧ (∀ i, (advanceMark s).queue i = s.queue i) ∧
    (∀ i, (advanceMark s).isActive i = s.isActive i) ∧ (∀ i, (advanceMark s).pane i = s.pane i) := by
  simp -implicitDefEqProofs [advanceMark]

@[simp] theorem emit_frame (packets : List LaneWord) (s : State) :
    (emit packets s).pending = s.pending ∧ (emit packets s).choices = s.choices ∧
    (emit packets s).resetPin = s.resetPin ∧ (emit packets s).store = s.store ∧ (emit packets s).arbiter = s.arbiter ∧
    (emit packets s).parked = s.parked ∧ (emit packets s).faults = s.faults ∧ (emit packets s).panel = s.panel ∧
    (emit packets s).conf = s.conf ∧ (emit packets s).scan.link = s.scan.link ∧
    (emit packets s).scan.frame = s.scan.frame ∧ (emit packets s).scan.queue = s.scan.queue ∧
    (emit packets s).scan.mark = s.scan.mark ∧ (emit packets s).scan.emission = s.scan.emission ∧
    (emit packets s).scan.emitter = s.scan.emitter ∧ (emit packets s).scan.timer = s.scan.timer ∧
    (emit packets s).scan.cursorLine = s.scan.cursorLine ∧ (emit packets s).scan.cursorFrame = s.scan.cursorFrame ∧
    (emit packets s).scan.latch = s.scan.latch ∧ (∀ i, (emit packets s).port i = s.port i) ∧
    (∀ i, (emit packets s).host i = s.host i) ∧ (∀ i, (emit packets s).lane i = s.lane i) ∧
    (∀ i, (emit packets s).queue i = s.queue i) ∧ (∀ i, (emit packets s).isActive i = s.isActive i) ∧
    (∀ i, (emit packets s).pane i = s.pane i) := by
  unfold emit; (repeat' split) <;> simp -implicitDefEqProofs

@[simp] theorem abandonLatch_frame (s : State) :
    (abandonLatch s).pending = s.pending ∧ (abandonLatch s).choices = s.choices ∧
    (abandonLatch s).resetPin = s.resetPin ∧ (abandonLatch s).store = s.store ∧ (abandonLatch s).parked = s.parked ∧
    (abandonLatch s).faults = s.faults ∧ (abandonLatch s).panel = s.panel ∧ (abandonLatch s).conf = s.conf ∧
    (abandonLatch s).scan.link = s.scan.link ∧ (abandonLatch s).scan.frame = s.scan.frame ∧
    (abandonLatch s).scan.queue = s.scan.queue ∧ (abandonLatch s).scan.mark = s.scan.mark ∧
    (abandonLatch s).scan.emission = s.scan.emission ∧ (abandonLatch s).scan.lane = s.scan.lane ∧
    (abandonLatch s).scan.emitter = s.scan.emitter ∧ (abandonLatch s).scan.timer = s.scan.timer ∧
    (abandonLatch s).scan.cursorLine = s.scan.cursorLine ∧ (abandonLatch s).scan.cursorFrame = s.scan.cursorFrame ∧
    (abandonLatch s).arbiter.urgency = s.arbiter.urgency ∧ (abandonLatch s).arbiter.lastGrant = s.arbiter.lastGrant ∧
    (abandonLatch s).arbiter.rotation = s.arbiter.rotation ∧ (∀ i, (abandonLatch s).port i = s.port i) ∧
    (∀ i, (abandonLatch s).host i = s.host i) ∧ (∀ i, (abandonLatch s).lane i = s.lane i) ∧
    (∀ i, (abandonLatch s).queue i = s.queue i) ∧ (∀ i, (abandonLatch s).isActive i = s.isActive i) ∧
    (∀ i, (abandonLatch s).pane i = s.pane i) := by
  simp -implicitDefEqProofs [abandonLatch]

@[simp] theorem underrun_frame (k : Nat) (s : State) :
    (underrun k s).pending = s.pending ∧ (underrun k s).resetPin = s.resetPin ∧ (underrun k s).store = s.store ∧
    (underrun k s).panel = s.panel ∧ (underrun k s).conf = s.conf ∧ (underrun k s).scan.link = s.scan.link ∧
    (underrun k s).scan.queue = s.scan.queue ∧ (underrun k s).scan.mark = s.scan.mark ∧
    (underrun k s).scan.emission = s.scan.emission ∧ (underrun k s).scan.emitter = s.scan.emitter ∧
    (underrun k s).scan.timer = s.scan.timer ∧ (underrun k s).arbiter.urgency = s.arbiter.urgency ∧
    (underrun k s).arbiter.lastGrant = s.arbiter.lastGrant ∧ (underrun k s).arbiter.rotation = s.arbiter.rotation ∧
    (∀ i, ((underrun k s).port i).present = (s.port i).present) ∧
    (∀ i, ((underrun k s).port i).responses = (s.port i).responses) ∧
    (∀ i, ((underrun k s).port i).slots = (s.port i).slots) ∧ (∀ i, ((underrun k s).port i).drop = (s.port i).drop) ∧
    (∀ i, ((underrun k s).port i).exchange = (s.port i).exchange) ∧
    (∀ i, ((underrun k s).port i).resetSeen = (s.port i).resetSeen) ∧
    (∀ i, ((underrun k s).port i).lapsedSeen = (s.port i).lapsedSeen) ∧
    (∀ i, ((underrun k s).host i).state = (s.host i).state) ∧ (∀ i, ((underrun k s).host i).lease = (s.host i).lease) ∧
    (∀ i, ((underrun k s).host i).warned = (s.host i).warned) ∧
    (∀ i, ((underrun k s).host i).reserved = (s.host i).reserved) ∧
    (∀ i, ((underrun k s).host i).budget = (s.host i).budget) ∧ (∀ i, ((underrun k s).host i).vote = (s.host i).vote) ∧
    (∀ i, ((underrun k s).host i).tickets = (s.host i).tickets) ∧
    (∀ i, ((underrun k s).lane i).queued = (s.lane i).queued) ∧ (∀ i, (underrun k s).isActive i = s.isActive i) := by
  unfold underrun; dsimp only; (repeat' split) <;> simp -implicitDefEqProofs

@[simp] theorem visibleMark_frame (k : Nat) (s : State) :
    (visibleMark k s).pending = s.pending ∧ (visibleMark k s).resetPin = s.resetPin ∧
    (visibleMark k s).store = s.store ∧ (visibleMark k s).panel = s.panel ∧ (visibleMark k s).conf = s.conf ∧
    (visibleMark k s).scan.link = s.scan.link ∧ (visibleMark k s).scan.mark = s.scan.mark ∧
    (visibleMark k s).scan.emission = s.scan.emission ∧ (visibleMark k s).scan.emitter = s.scan.emitter ∧
    (visibleMark k s).scan.timer = s.scan.timer ∧ (visibleMark k s).arbiter.lastGrant = s.arbiter.lastGrant ∧
    (visibleMark k s).arbiter.rotation = s.arbiter.rotation ∧
    (∀ i, ((visibleMark k s).port i).present = (s.port i).present) ∧
    (∀ i, ((visibleMark k s).port i).responses = (s.port i).responses) ∧
    (∀ i, ((visibleMark k s).port i).slots = (s.port i).slots) ∧
    (∀ i, ((visibleMark k s).port i).drop = (s.port i).drop) ∧
    (∀ i, ((visibleMark k s).port i).exchange = (s.port i).exchange) ∧
    (∀ i, ((visibleMark k s).port i).resetSeen = (s.port i).resetSeen) ∧
    (∀ i, ((visibleMark k s).port i).lapsedSeen = (s.port i).lapsedSeen) ∧
    (∀ i, ((visibleMark k s).host i).state = (s.host i).state) ∧
    (∀ i, ((visibleMark k s).host i).lease = (s.host i).lease) ∧
    (∀ i, ((visibleMark k s).host i).warned = (s.host i).warned) ∧
    (∀ i, ((visibleMark k s).host i).reserved = (s.host i).reserved) ∧
    (∀ i, ((visibleMark k s).host i).budget = (s.host i).budget) ∧
    (∀ i, ((visibleMark k s).host i).vote = (s.host i).vote) ∧
    (∀ i, ((visibleMark k s).host i).tickets = (s.host i).tickets) ∧
    (∀ i, ((visibleMark k s).lane i).queued = (s.lane i).queued) ∧ (∀ i, (visibleMark k s).isActive i = s.isActive i) := by
  unfold visibleMark; dsimp only; (repeat' split) <;> simp -implicitDefEqProofs

@[simp] theorem announceBlanking_frame (first : Bool) (k : Nat) (s : State) :
    (announceBlanking first k s).pending = s.pending ∧ (announceBlanking first k s).choices = s.choices ∧
    (announceBlanking first k s).resetPin = s.resetPin ∧ (announceBlanking first k s).store = s.store ∧
    (announceBlanking first k s).scan = s.scan ∧ (announceBlanking first k s).arbiter = s.arbiter ∧
    (announceBlanking first k s).parked = s.parked ∧ (announceBlanking first k s).faults = s.faults ∧
    (announceBlanking first k s).conf = s.conf ∧ (announceBlanking first k s).panel.timer = s.panel.timer ∧
    (∀ i, (announceBlanking first k s).port i = s.port i) ∧ (∀ i, (announceBlanking first k s).host i = s.host i) ∧
    (∀ i, (announceBlanking first k s).lane i = s.lane i) ∧ (∀ i, (announceBlanking first k s).queue i = s.queue i) ∧
    (∀ i, (announceBlanking first k s).isActive i = s.isActive i) ∧
    (∀ i, (announceBlanking first k s).pane i = s.pane i) := by
  unfold announceBlanking; (repeat' split) <;> simp -implicitDefEqProofs

@[simp] theorem markWork_frame (first : Bool) (k : Nat) (s : State) :
    (markWork first k s).pending = s.pending ∧ (markWork first k s).resetPin = s.resetPin ∧
    (markWork first k s).store = s.store ∧ (markWork first k s).conf = s.conf ∧
    (markWork first k s).scan.link = s.scan.link ∧ (markWork first k s).scan.mark = s.scan.mark ∧
    (markWork first k s).scan.emission = s.scan.emission ∧ (markWork first k s).scan.emitter = s.scan.emitter ∧
    (markWork first k s).scan.timer = s.scan.timer ∧ (markWork first k s).arbiter.lastGrant = s.arbiter.lastGrant ∧
    (markWork first k s).arbiter.rotation = s.arbiter.rotation ∧ (markWork first k s).panel.timer = s.panel.timer ∧
    (∀ i, ((markWork first k s).port i).present = (s.port i).present) ∧
    (∀ i, ((markWork first k s).port i).responses = (s.port i).responses) ∧
    (∀ i, ((markWork first k s).port i).slots = (s.port i).slots) ∧
    (∀ i, ((markWork first k s).port i).drop = (s.port i).drop) ∧
    (∀ i, ((markWork first k s).port i).exchange = (s.port i).exchange) ∧
    (∀ i, ((markWork first k s).port i).resetSeen = (s.port i).resetSeen) ∧
    (∀ i, ((markWork first k s).port i).lapsedSeen = (s.port i).lapsedSeen) ∧
    (∀ i, ((markWork first k s).host i).state = (s.host i).state) ∧
    (∀ i, ((markWork first k s).host i).lease = (s.host i).lease) ∧
    (∀ i, ((markWork first k s).host i).warned = (s.host i).warned) ∧
    (∀ i, ((markWork first k s).host i).reserved = (s.host i).reserved) ∧
    (∀ i, ((markWork first k s).host i).budget = (s.host i).budget) ∧
    (∀ i, ((markWork first k s).host i).vote = (s.host i).vote) ∧
    (∀ i, ((markWork first k s).host i).tickets = (s.host i).tickets) ∧
    (∀ i, ((markWork first k s).lane i).queued = (s.lane i).queued) ∧
    (∀ i, (markWork first k s).isActive i = s.isActive i) := by
  unfold markWork; dsimp only; (repeat' split) <;> simp -implicitDefEqProofs

@[simp] theorem lineMark_frame (s : State) :
    (lineMark s).pending = s.pending ∧ (lineMark s).resetPin = s.resetPin ∧ (lineMark s).store = s.store ∧
    (lineMark s).conf = s.conf ∧ (lineMark s).scan.link = s.scan.link ∧ (lineMark s).panel.timer = s.panel.timer ∧
    (∀ i, ((lineMark s).port i).present = (s.port i).present) ∧ (∀ i, ((lineMark s).port i).drop = (s.port i).drop) ∧
    (∀ i, ((lineMark s).port i).exchange = (s.port i).exchange) ∧
    (∀ i, ((lineMark s).port i).resetSeen = (s.port i).resetSeen) ∧
    (∀ i, ((lineMark s).port i).lapsedSeen = (s.port i).lapsedSeen) ∧
    (∀ i, ((lineMark s).host i).state = (s.host i).state) ∧ (∀ i, ((lineMark s).host i).lease = (s.host i).lease) ∧
    (∀ i, ((lineMark s).host i).warned = (s.host i).warned) ∧
    (∀ i, ((lineMark s).host i).reserved = (s.host i).reserved) ∧
    (∀ i, ((lineMark s).host i).budget = (s.host i).budget) ∧ (∀ i, ((lineMark s).host i).vote = (s.host i).vote) ∧
    (∀ i, (lineMark s).isActive i = s.isActive i) := by
  unfold lineMark; (repeat' split) <;> simp -implicitDefEqProofs

@[simp] theorem linkUp_frame (s : State) :
    (linkUp s).pending = s.pending ∧ (linkUp s).choices = s.choices ∧ (linkUp s).resetPin = s.resetPin ∧
    (linkUp s).store = s.store ∧ (linkUp s).arbiter = s.arbiter ∧ (linkUp s).parked = s.parked ∧
    (linkUp s).faults = s.faults ∧ (linkUp s).conf = s.conf ∧ (linkUp s).scan.frame = s.scan.frame ∧
    (linkUp s).scan.queue = s.scan.queue ∧ (linkUp s).scan.mark = s.scan.mark ∧
    (linkUp s).scan.emission = s.scan.emission ∧ (linkUp s).scan.lane = s.scan.lane ∧
    (linkUp s).scan.timer = s.scan.timer ∧ (linkUp s).scan.cursorLine = s.scan.cursorLine ∧
    (linkUp s).scan.cursorFrame = s.scan.cursorFrame ∧ (linkUp s).scan.latch = s.scan.latch ∧
    (linkUp s).panel.timer = s.panel.timer ∧ (linkUp s).panel.blanking = s.panel.blanking ∧
    (∀ i, (linkUp s).port i = s.port i) ∧ (∀ i, (linkUp s).host i = s.host i) ∧ (∀ i, (linkUp s).lane i = s.lane i) ∧
    (∀ i, (linkUp s).queue i = s.queue i) ∧ (∀ i, (linkUp s).isActive i = s.isActive i) ∧
    (∀ i, (linkUp s).pane i = s.pane i) := by
  unfold linkUp; (repeat' split) <;> simp -implicitDefEqProofs

@[simp] theorem linkDown_frame (s : State) :
    (linkDown s).pending = s.pending ∧ (linkDown s).choices = s.choices ∧ (linkDown s).resetPin = s.resetPin ∧
    (linkDown s).store = s.store ∧ (linkDown s).arbiter = s.arbiter ∧ (linkDown s).parked = s.parked ∧
    (linkDown s).conf = s.conf ∧ (linkDown s).scan.frame = s.scan.frame ∧ (linkDown s).scan.queue = s.scan.queue ∧
    (linkDown s).scan.mark = s.scan.mark ∧ (linkDown s).scan.emission = s.scan.emission ∧
    (linkDown s).scan.timer = s.scan.timer ∧ (linkDown s).scan.cursorLine = s.scan.cursorLine ∧
    (linkDown s).scan.cursorFrame = s.scan.cursorFrame ∧ (linkDown s).scan.latch = s.scan.latch ∧
    (linkDown s).panel.blanking = s.panel.blanking ∧ (∀ i, (linkDown s).lane i = s.lane i) ∧
    (∀ i, ((linkDown s).port i).present = (s.port i).present) ∧ (∀ i, ((linkDown s).port i).drop = (s.port i).drop) ∧
    (∀ i, ((linkDown s).port i).exchange = (s.port i).exchange) ∧
    (∀ i, ((linkDown s).port i).resetSeen = (s.port i).resetSeen) ∧
    (∀ i, ((linkDown s).port i).lapsedSeen = (s.port i).lapsedSeen) ∧
    (∀ i, ((linkDown s).host i).state = (s.host i).state) ∧ (∀ i, ((linkDown s).host i).lease = (s.host i).lease) ∧
    (∀ i, ((linkDown s).host i).warned = (s.host i).warned) ∧
    (∀ i, ((linkDown s).host i).reserved = (s.host i).reserved) ∧
    (∀ i, ((linkDown s).host i).budget = (s.host i).budget) ∧ (∀ i, ((linkDown s).host i).vote = (s.host i).vote) ∧
    (∀ i, ((linkDown s).host i).tickets = (s.host i).tickets) ∧ (∀ i, ((linkDown s).host i).cells = (s.host i).cells) ∧
    (∀ i, ((linkDown s).host i).budgetHit = (s.host i).budgetHit) ∧ (∀ i, (linkDown s).isActive i = s.isActive i) ∧
    (∀ i, (linkDown s).pane i = s.pane i) := by
  unfold linkDown; (repeat' split) <;> simp -implicitDefEqProofs

end Sys2Proof.Machine
end

