-- ==== Sys2Proof/Laws/PaneFrames.lean ====
section
/-! SUPPORT. What the operations of the Pane Manager and of departures leave as it stands. -/

set_option Elab.async false

namespace Sys2Proof.Machine

@[simp] theorem revokeGuest_frame (p : PaneNo) (o : HostNo) (why : RevokeReason) (h : HostNo) (s : State) :
    (revokeGuest p o why h s).pending = s.pending ∧ (revokeGuest p o why h s).choices = s.choices ∧
    (revokeGuest p o why h s).resetPin = s.resetPin ∧ (revokeGuest p o why h s).store = s.store ∧
    (revokeGuest p o why h s).scan = s.scan ∧ (revokeGuest p o why h s).arbiter = s.arbiter ∧
    (revokeGuest p o why h s).faults = s.faults ∧ (revokeGuest p o why h s).panel = s.panel ∧
    (revokeGuest p o why h s).conf = s.conf ∧ (∀ i, (revokeGuest p o why h s).host i = s.host i) ∧
    (∀ i, ((revokeGuest p o why h s).port i).present = (s.port i).present) ∧
    (∀ i, ((revokeGuest p o why h s).port i).drop = (s.port i).drop) ∧
    (∀ i, ((revokeGuest p o why h s).port i).exchange = (s.port i).exchange) ∧
    (∀ i, ((revokeGuest p o why h s).port i).resetSeen = (s.port i).resetSeen) ∧
    (∀ i, ((revokeGuest p o why h s).port i).lapsedSeen = (s.port i).lapsedSeen) ∧
    (∀ i, (revokeGuest p o why h s).isActive i = s.isActive i) ∧
    (∀ i, ((revokeGuest p o why h s).pane i).state = (s.pane i).state) ∧
    (∀ i, ((revokeGuest p o why h s).pane i).owner = (s.pane i).owner) ∧
    (∀ i, ((revokeGuest p o why h s).pane i).former = (s.pane i).former) ∧
    (∀ i, ((revokeGuest p o why h s).pane i).guest = (s.pane i).guest) ∧
    (∀ i, ((revokeGuest p o why h s).pane i).current = (s.pane i).current) ∧
    (∀ i, ((revokeGuest p o why h s).pane i).modes = (s.pane i).modes) ∧
    (∀ i, ((revokeGuest p o why h s).pane i).tears = (s.pane i).tears) ∧
    (∀ i, ((revokeGuest p o why h s).pane i).commit = (s.pane i).commit) := by
  simp -implicitDefEqProofs [revokeGuest]

@[simp] theorem changeGuest_frame (h : HostNo) (p : PaneNo) (g : Option HostNo) (s : State) :
    (changeGuest h p g s).pending = s.pending ∧ (changeGuest h p g s).choices = s.choices ∧
    (changeGuest h p g s).resetPin = s.resetPin ∧ (changeGuest h p g s).store = s.store ∧
    (changeGuest h p g s).scan = s.scan ∧ (changeGuest h p g s).arbiter = s.arbiter ∧
    (changeGuest h p g s).faults = s.faults ∧ (changeGuest h p g s).panel = s.panel ∧
    (changeGuest h p g s).conf = s.conf ∧ (∀ i, (changeGuest h p g s).host i = s.host i) ∧
    (∀ i, ((changeGuest h p g s).port i).present = (s.port i).present) ∧
    (∀ i, ((changeGuest h p g s).port i).drop = (s.port i).drop) ∧
    (∀ i, ((changeGuest h p g s).port i).exchange = (s.port i).exchange) ∧
    (∀ i, ((changeGuest h p g s).port i).resetSeen = (s.port i).resetSeen) ∧
    (∀ i, ((changeGuest h p g s).port i).lapsedSeen = (s.port i).lapsedSeen) ∧
    (∀ i, (changeGuest h p g s).isActive i = s.isActive i) ∧
    (∀ i, ((changeGuest h p g s).pane i).state = (s.pane i).state) ∧
    (∀ i, ((changeGuest h p g s).pane i).owner = (s.pane i).owner) ∧
    (∀ i, ((changeGuest h p g s).pane i).former = (s.pane i).former) ∧
    (∀ i, ((changeGuest h p g s).pane i).current = (s.pane i).current) ∧
    (∀ i, ((changeGuest h p g s).pane i).modes = (s.pane i).modes) ∧
    (∀ i, ((changeGuest h p g s).pane i).tears = (s.pane i).tears) ∧
    (∀ i, ((changeGuest h p g s).pane i).commit = (s.pane i).commit) := by
  simp -implicitDefEqProofs [changeGuest]

@[simp] theorem guestPane_frame (h : HostNo) (tag : Byte) (g : Option HostNo) (p : PaneNo) (s : State) :
    (guestPane h tag g p s).pending = s.pending ∧ (guestPane h tag g p s).choices = s.choices ∧
    (guestPane h tag g p s).resetPin = s.resetPin ∧ (guestPane h tag g p s).store = s.store ∧
    (guestPane h tag g p s).panel = s.panel ∧ (guestPane h tag g p s).conf = s.conf ∧
    (guestPane h tag g p s).scan.link = s.scan.link ∧ (guestPane h tag g p s).scan.frame = s.scan.frame ∧
    (guestPane h tag g p s).scan.queue = s.scan.queue ∧ (guestPane h tag g p s).scan.mark = s.scan.mark ∧
    (guestPane h tag g p s).scan.emission = s.scan.emission ∧ (guestPane h tag g p s).scan.lane = s.scan.lane ∧
    (guestPane h tag g p s).scan.emitter = s.scan.emitter ∧ (guestPane h tag g p s).scan.timer = s.scan.timer ∧
    (guestPane h tag g p s).scan.cursorLine = s.scan.cursorLine ∧
    (guestPane h tag g p s).scan.cursorFrame = s.scan.cursorFrame ∧
    (guestPane h tag g p s).arbiter.urgency = s.arbiter.urgency ∧
    (∀ i, ((guestPane h tag g p s).port i).present = (s.port i).present) ∧
    (∀ i, ((guestPane h tag g p s).port i).drop = (s.port i).drop) ∧
    (∀ i, ((guestPane h tag g p s).port i).exchange = (s.port i).exchange) ∧
    (∀ i, ((guestPane h tag g p s).port i).resetSeen = (s.port i).resetSeen) ∧
    (∀ i, ((guestPane h tag g p s).port i).lapsedSeen = (s.port i).lapsedSeen) ∧
    (∀ i, ((guestPane h tag g p s).host i).state = (s.host i).state) ∧
    (∀ i, ((guestPane h tag g p s).host i).lease = (s.host i).lease) ∧
    (∀ i, ((guestPane h tag g p s).host i).warned = (s.host i).warned) ∧
    (∀ i, ((guestPane h tag g p s).host i).reserved = (s.host i).reserved) ∧
    (∀ i, ((guestPane h tag g p s).host i).budget = (s.host i).budget) ∧
    (∀ i, ((guestPane h tag g p s).host i).vote = (s.host i).vote) ∧
    (∀ i, (guestPane h tag g p s).isActive i = s.isActive i) ∧
    (∀ i, ((guestPane h tag g p s).pane i).state = (s.pane i).state) ∧
    (∀ i, ((guestPane h tag g p s).pane i).owner = (s.pane i).owner) ∧
    (∀ i, ((guestPane h tag g p s).pane i).former = (s.pane i).former) ∧
    (∀ i, ((guestPane h tag g p s).pane i).current = (s.pane i).current) ∧
    (∀ i, ((guestPane h tag g p s).pane i).modes = (s.pane i).modes) := by
  unfold guestPane; (repeat' split) <;> simp -implicitDefEqProofs

@[simp] theorem stagePane_frame (h : HostNo) (tag : Byte) (r : Option Rect) (p : PaneNo) (s : State) :
    (stagePane h tag r p s).pending = s.pending ∧ (stagePane h tag r p s).choices = s.choices ∧
    (stagePane h tag r p s).resetPin = s.resetPin ∧ (stagePane h tag r p s).store = s.store ∧
    (stagePane h tag r p s).scan = s.scan ∧ (stagePane h tag r p s).arbiter = s.arbiter ∧
    (stagePane h tag r p s).parked = s.parked ∧ (stagePane h tag r p s).faults = s.faults ∧
    (stagePane h tag r p s).panel = s.panel ∧ (stagePane h tag r p s).conf = s.conf ∧
    (∀ i, (stagePane h tag r p s).host i = s.host i) ∧ (∀ i, (stagePane h tag r p s).lane i = s.lane i) ∧
    (∀ i, (stagePane h tag r p s).queue i = s.queue i) ∧
    (∀ i, ((stagePane h tag r p s).port i).present = (s.port i).present) ∧
    (∀ i, ((stagePane h tag r p s).port i).drop = (s.port i).drop) ∧
    (∀ i, ((stagePane h tag r p s).port i).exchange = (s.port i).exchange) ∧
    (∀ i, ((stagePane h tag r p s).port i).resetSeen = (s.port i).resetSeen) ∧
    (∀ i, ((stagePane h tag r p s).port i).lapsedSeen = (s.port i).lapsedSeen) ∧
    (∀ i, (stagePane h tag r p s).isActive i = s.isActive i) ∧
    (∀ i, ((stagePane h tag r p s).pane i).state = (s.pane i).state) ∧
    (∀ i, ((stagePane h tag r p s).pane i).owner = (s.pane i).owner) ∧
    (∀ i, ((stagePane h tag r p s).pane i).former = (s.pane i).former) ∧
    (∀ i, ((stagePane h tag r p s).pane i).guest = (s.pane i).guest) ∧
    (∀ i, ((stagePane h tag r p s).pane i).current = (s.pane i).current) ∧
    (∀ i, ((stagePane h tag r p s).pane i).modes = (s.pane i).modes) ∧
    (∀ i, ((stagePane h tag r p s).pane i).tears = (s.pane i).tears) ∧
    (∀ i, ((stagePane h tag r p s).pane i).commit = (s.pane i).commit) := by
  unfold stagePane; (repeat' split) <;> simp -implicitDefEqProofs

@[simp] theorem commitPane_frame (h : HostNo) (tag : Byte) (p : PaneNo) (s : State) :
    (commitPane h tag p s).pending = s.pending ∧ (commitPane h tag p s).choices = s.choices ∧
    (commitPane h tag p s).resetPin = s.resetPin ∧ (commitPane h tag p s).store = s.store ∧
    (commitPane h tag p s).scan = s.scan ∧ (commitPane h tag p s).arbiter = s.arbiter ∧
    (commitPane h tag p s).parked = s.parked ∧ (commitPane h tag p s).faults = s.faults ∧
    (commitPane h tag p s).panel = s.panel ∧ (commitPane h tag p s).conf = s.conf ∧
    (∀ i, (commitPane h tag p s).queue i = s.queue i) ∧
    (∀ i, ((commitPane h tag p s).port i).present = (s.port i).present) ∧
    (∀ i, ((commitPane h tag p s).port i).drop = (s.port i).drop) ∧
    (∀ i, ((commitPane h tag p s).port i).exchange = (s.port i).exchange) ∧
    (∀ i, ((commitPane h tag p s).port i).resetSeen = (s.port i).resetSeen) ∧
    (∀ i, ((commitPane h tag p s).port i).lapsedSeen = (s.port i).lapsedSeen) ∧
    (∀ i, ((commitPane h tag p s).host i).state = (s.host i).state) ∧
    (∀ i, ((commitPane h tag p s).host i).lease = (s.host i).lease) ∧
    (∀ i, ((commitPane h tag p s).host i).warned = (s.host i).warned) ∧
    (∀ i, ((commitPane h tag p s).host i).reserved = (s.host i).reserved) ∧
    (∀ i, ((commitPane h tag p s).host i).budget = (s.host i).budget) ∧
    (∀ i, ((commitPane h tag p s).host i).vote = (s.host i).vote) ∧
    (∀ i, ((commitPane h tag p s).host i).cells = (s.host i).cells) ∧
    (∀ i, ((commitPane h tag p s).host i).overflow = (s.host i).overflow) ∧
    (∀ i, ((commitPane h tag p s).lane i).queued = (s.lane i).queued) ∧
    (∀ i, ((commitPane h tag p s).host i).budgetHit = (s.host i).budgetHit) ∧
    (∀ i, (commitPane h tag p s).isActive i = s.isActive i) ∧
    (∀ i, ((commitPane h tag p s).pane i).state = (s.pane i).state) ∧
    (∀ i, ((commitPane h tag p s).pane i).owner = (s.pane i).owner) ∧
    (∀ i, ((commitPane h tag p s).pane i).former = (s.pane i).former) ∧
    (∀ i, ((commitPane h tag p s).pane i).guest = (s.pane i).guest) ∧
    (∀ i, ((commitPane h tag p s).pane i).current = (s.pane i).current) ∧
    (∀ i, ((commitPane h tag p s).pane i).staged = (s.pane i).staged) ∧
    (∀ i, ((commitPane h tag p s).pane i).modes = (s.pane i).modes) ∧
    (∀ i, ((commitPane h tag p s).pane i).tears = (s.pane i).tears) := by
  unfold commitPane; (repeat' split) <;> simp -implicitDefEqProofs

@[simp] theorem releasePane_frame (h : HostNo) (tag : Byte) (p : PaneNo) (s : State) :
    (releasePane h tag p s).pending = s.pending ∧ (releasePane h tag p s).choices = s.choices ∧
    (releasePane h tag p s).resetPin = s.resetPin ∧ (releasePane h tag p s).store = s.store ∧
    (releasePane h tag p s).panel = s.panel ∧ (releasePane h tag p s).conf = s.conf ∧
    (releasePane h tag p s).scan.link = s.scan.link ∧ (releasePane h tag p s).scan.frame = s.scan.frame ∧
    (releasePane h tag p s).scan.queue = s.scan.queue ∧ (releasePane h tag p s).scan.mark = s.scan.mark ∧
    (releasePane h tag p s).scan.emission = s.scan.emission ∧ (releasePane h tag p s).scan.lane = s.scan.lane ∧
    (releasePane h tag p s).scan.emitter = s.scan.emitter ∧ (releasePane h tag p s).scan.timer = s.scan.timer ∧
    (releasePane h tag p s).scan.cursorLine = s.scan.cursorLine ∧
    (releasePane h tag p s).scan.cursorFrame = s.scan.cursorFrame ∧
    (releasePane h tag p s).arbiter.urgency = s.arbiter.urgency ∧
    (∀ i, ((releasePane h tag p s).port i).present = (s.port i).present) ∧
    (∀ i, ((releasePane h tag p s).port i).drop = (s.port i).drop) ∧
    (∀ i, ((releasePane h tag p s).port i).exchange = (s.port i).exchange) ∧
    (∀ i, ((releasePane h tag p s).port i).resetSeen = (s.port i).resetSeen) ∧
    (∀ i, ((releasePane h tag p s).port i).lapsedSeen = (s.port i).lapsedSeen) ∧
    (∀ i, ((releasePane h tag p s).host i).state = (s.host i).state) ∧
    (∀ i, ((releasePane h tag p s).host i).lease = (s.host i).lease) ∧
    (∀ i, ((releasePane h tag p s).host i).warned = (s.host i).warned) ∧
    (∀ i, ((releasePane h tag p s).host i).reserved = (s.host i).reserved) ∧
    (∀ i, ((releasePane h tag p s).host i).budget = (s.host i).budget) ∧
    (∀ i, ((releasePane h tag p s).host i).vote = (s.host i).vote) ∧
    (∀ i, (releasePane h tag p s).isActive i = s.isActive i) := by
  simp -implicitDefEqProofs [releasePane]

@[simp] theorem closeVote_frame (s : State) :
    (closeVote s).pending = s.pending ∧ (closeVote s).choices = s.choices ∧ (closeVote s).resetPin = s.resetPin ∧
    (closeVote s).store = s.store ∧ (closeVote s).scan = s.scan ∧ (closeVote s).arbiter = s.arbiter ∧
    (closeVote s).parked = s.parked ∧ (closeVote s).faults = s.faults ∧ (closeVote s).panel = s.panel ∧
    (closeVote s).conf.settings = s.conf.settings ∧ (closeVote s).conf.part = s.conf.part ∧
    (closeVote s).conf.writers = s.conf.writers ∧ (closeVote s).conf.cause = s.conf.cause ∧
    (∀ i, (closeVote s).port i = s.port i) ∧ (∀ i, (closeVote s).host i = s.host i) ∧
    (∀ i, (closeVote s).lane i = s.lane i) ∧ (∀ i, (closeVote s).queue i = s.queue i) ∧
    (∀ i, (closeVote s).isActive i = s.isActive i) ∧ (∀ i, (closeVote s).pane i = s.pane i) := by
  simp -implicitDefEqProofs [closeVote]

@[simp] theorem leaveActive_frame (h : HostNo) (after : HostState) (s : State) :
    (leaveActive h after s).pending = s.pending ∧ (leaveActive h after s).choices = s.choices ∧
    (leaveActive h after s).resetPin = s.resetPin ∧ (leaveActive h after s).store = s.store ∧
    (leaveActive h after s).scan = s.scan ∧ (leaveActive h after s).arbiter = s.arbiter ∧
    (leaveActive h after s).parked = s.parked ∧ (leaveActive h after s).faults = s.faults ∧
    (leaveActive h after s).panel = s.panel ∧ (leaveActive h after s).conf = s.conf ∧
    (∀ i, (leaveActive h after s).port i = s.port i) ∧ (∀ i, (leaveActive h after s).lane i = s.lane i) ∧
    (∀ i, (leaveActive h after s).queue i = s.queue i) ∧
    (∀ i, ((leaveActive h after s).host i).reserved = (s.host i).reserved) ∧
    (∀ i, ((leaveActive h after s).host i).budget = (s.host i).budget) ∧
    (∀ i, ((leaveActive h after s).host i).tickets = (s.host i).tickets) ∧
    (∀ i, ((leaveActive h after s).host i).cells = (s.host i).cells) ∧
    (∀ i, ((leaveActive h after s).host i).overflow = (s.host i).overflow) ∧
    (∀ i, ((leaveActive h after s).host i).budgetHit = (s.host i).budgetHit) ∧
    (∀ i, (leaveActive h after s).pane i = s.pane i) := by
  simp -implicitDefEqProofs [leaveActive]

@[simp] theorem portDeparture_frame (h : HostNo) (lapse : Bool) (s : State) :
    (portDeparture h lapse s).pending = s.pending ∧ (portDeparture h lapse s).choices = s.choices ∧
    (portDeparture h lapse s).resetPin = s.resetPin ∧ (portDeparture h lapse s).store = s.store ∧
    (portDeparture h lapse s).scan = s.scan ∧ (portDeparture h lapse s).arbiter = s.arbiter ∧
    (portDeparture h lapse s).parked = s.parked ∧ (portDeparture h lapse s).faults = s.faults ∧
    (portDeparture h lapse s).panel = s.panel ∧ (portDeparture h lapse s).conf = s.conf ∧
    (∀ i, (portDeparture h lapse s).host i = s.host i) ∧ (∀ i, (portDeparture h lapse s).lane i = s.lane i) ∧
    (∀ i, (portDeparture h lapse s).queue i = s.queue i) ∧
    (∀ i, ((portDeparture h lapse s).port i).present = (s.port i).present) ∧
    (∀ i, ((portDeparture h lapse s).port i).drop = (s.port i).drop) ∧
    (∀ i, ((portDeparture h lapse s).port i).resetSeen = (s.port i).resetSeen) ∧
    (∀ i, (portDeparture h lapse s).isActive i = s.isActive i) ∧ (∀ i, (portDeparture h lapse s).pane i = s.pane i) := by
  simp -implicitDefEqProofs [portDeparture]

@[simp] theorem departPane_frame (h : HostNo) (kind : Departure) (p : PaneNo) (s : State) :
    (departPane h kind p s).pending = s.pending ∧ (departPane h kind p s).choices = s.choices ∧
    (departPane h kind p s).resetPin = s.resetPin ∧ (departPane h kind p s).store = s.store ∧
    (departPane h kind p s).scan = s.scan ∧ (departPane h kind p s).arbiter = s.arbiter ∧
    (departPane h kind p s).parked = s.parked ∧ (departPane h kind p s).faults = s.faults ∧
    (departPane h kind p s).panel = s.panel ∧ (departPane h kind p s).conf = s.conf ∧
    (∀ i, (departPane h kind p s).port i = s.port i) ∧ (∀ i, (departPane h kind p s).host i = s.host i) ∧
    (∀ i, (departPane h kind p s).lane i = s.lane i) ∧ (∀ i, (departPane h kind p s).queue i = s.queue i) ∧
    (∀ i, (departPane h kind p s).isActive i = s.isActive i) := by
  unfold departPane; dsimp only; (repeat' split) <;> simp -implicitDefEqProofs

@[simp] theorem departGuest_frame (h : HostNo) (kind : Departure) (g : HostNo) (ps : List PaneNo) (s : State) :
    (departGuest h kind g ps s).pending = s.pending ∧ (departGuest h kind g ps s).choices = s.choices ∧
    (departGuest h kind g ps s).resetPin = s.resetPin ∧ (departGuest h kind g ps s).store = s.store ∧
    (departGuest h kind g ps s).scan = s.scan ∧ (departGuest h kind g ps s).arbiter = s.arbiter ∧
    (departGuest h kind g ps s).faults = s.faults ∧ (departGuest h kind g ps s).panel = s.panel ∧
    (departGuest h kind g ps s).conf = s.conf ∧ (∀ i, (departGuest h kind g ps s).host i = s.host i) ∧
    (∀ i, ((departGuest h kind g ps s).port i).present = (s.port i).present) ∧
    (∀ i, ((departGuest h kind g ps s).port i).drop = (s.port i).drop) ∧
    (∀ i, ((departGuest h kind g ps s).port i).exchange = (s.port i).exchange) ∧
    (∀ i, ((departGuest h kind g ps s).port i).resetSeen = (s.port i).resetSeen) ∧
    (∀ i, ((departGuest h kind g ps s).port i).lapsedSeen = (s.port i).lapsedSeen) ∧
    (∀ i, (departGuest h kind g ps s).isActive i = s.isActive i) ∧
    (∀ i, ((departGuest h kind g ps s).pane i).state = (s.pane i).state) ∧
    (∀ i, ((departGuest h kind g ps s).pane i).owner = (s.pane i).owner) ∧
    (∀ i, ((departGuest h kind g ps s).pane i).former = (s.pane i).former) ∧
    (∀ i, ((departGuest h kind g ps s).pane i).guest = (s.pane i).guest) ∧
    (∀ i, ((departGuest h kind g ps s).pane i).current = (s.pane i).current) ∧
    (∀ i, ((departGuest h kind g ps s).pane i).modes = (s.pane i).modes) ∧
    (∀ i, ((departGuest h kind g ps s).pane i).tears = (s.pane i).tears) ∧
    (∀ i, ((departGuest h kind g ps s).pane i).commit = (s.pane i).commit) := by
  simp -implicitDefEqProofs [departGuest]

@[simp] theorem removeGuest_frame (h : HostNo) (p : PaneNo) (s : State) :
    (removeGuest h p s).pending = s.pending ∧ (removeGuest h p s).choices = s.choices ∧
    (removeGuest h p s).resetPin = s.resetPin ∧ (removeGuest h p s).store = s.store ∧
    (removeGuest h p s).scan = s.scan ∧ (removeGuest h p s).arbiter = s.arbiter ∧
    (removeGuest h p s).parked = s.parked ∧ (removeGuest h p s).faults = s.faults ∧
    (removeGuest h p s).panel = s.panel ∧ (removeGuest h p s).conf = s.conf ∧
    (∀ i, (removeGuest h p s).port i = s.port i) ∧ (∀ i, (removeGuest h p s).host i = s.host i) ∧
    (∀ i, (removeGuest h p s).lane i = s.lane i) ∧ (∀ i, (removeGuest h p s).queue i = s.queue i) ∧
    (∀ i, (removeGuest h p s).isActive i = s.isActive i) ∧
    (∀ i, ((removeGuest h p s).pane i).state = (s.pane i).state) ∧
    (∀ i, ((removeGuest h p s).pane i).owner = (s.pane i).owner) ∧
    (∀ i, ((removeGuest h p s).pane i).former = (s.pane i).former) ∧
    (∀ i, ((removeGuest h p s).pane i).current = (s.pane i).current) ∧
    (∀ i, ((removeGuest h p s).pane i).staged = (s.pane i).staged) ∧
    (∀ i, ((removeGuest h p s).pane i).modes = (s.pane i).modes) ∧
    (∀ i, ((removeGuest h p s).pane i).tears = (s.pane i).tears) ∧
    (∀ i, ((removeGuest h p s).pane i).commit = (s.pane i).commit) ∧
    (∀ i, ((removeGuest h p s).pane i).held = (s.pane i).held) := by
  unfold removeGuest; (repeat' split) <;> simp -implicitDefEqProofs

@[simp] theorem departPanes_frame (h : HostNo) (kind : Departure) (s : State) :
    (departPanes h kind s).pending = s.pending ∧ (departPanes h kind s).choices = s.choices ∧
    (departPanes h kind s).resetPin = s.resetPin ∧ (departPanes h kind s).store = s.store ∧
    (departPanes h kind s).scan = s.scan ∧ (departPanes h kind s).arbiter = s.arbiter ∧
    (departPanes h kind s).faults = s.faults ∧ (departPanes h kind s).panel = s.panel ∧
    (departPanes h kind s).conf = s.conf ∧ (∀ i, (departPanes h kind s).host i = s.host i) ∧
    (∀ i, ((departPanes h kind s).port i).present = (s.port i).present) ∧
    (∀ i, ((departPanes h kind s).port i).drop = (s.port i).drop) ∧
    (∀ i, ((departPanes h kind s).port i).exchange = (s.port i).exchange) ∧
    (∀ i, ((departPanes h kind s).port i).resetSeen = (s.port i).resetSeen) ∧
    (∀ i, ((departPanes h kind s).port i).lapsedSeen = (s.port i).lapsedSeen) ∧
    (∀ i, (departPanes h kind s).isActive i = s.isActive i) := by
  simp -implicitDefEqProofs [departPanes]

@[simp] theorem placeDetach_frame (h : HostNo) (r : Response) (s : State) :
    (placeDetach h r s).pending = s.pending ∧ (placeDetach h r s).choices = s.choices ∧
    (placeDetach h r s).resetPin = s.resetPin ∧ (placeDetach h r s).store = s.store ∧
    (placeDetach h r s).scan = s.scan ∧ (placeDetach h r s).arbiter = s.arbiter ∧
    (placeDetach h r s).parked = s.parked ∧ (placeDetach h r s).faults = s.faults ∧
    (placeDetach h r s).panel = s.panel ∧ (placeDetach h r s).conf = s.conf ∧
    (∀ i, (placeDetach h r s).host i = s.host i) ∧ (∀ i, (placeDetach h r s).queue i = s.queue i) ∧
    (∀ i, ((placeDetach h r s).port i).present = (s.port i).present) ∧
    (∀ i, ((placeDetach h r s).port i).drop = (s.port i).drop) ∧
    (∀ i, ((placeDetach h r s).port i).exchange = (s.port i).exchange) ∧
    (∀ i, ((placeDetach h r s).port i).resetSeen = (s.port i).resetSeen) ∧
    (∀ i, ((placeDetach h r s).port i).lapsedSeen = (s.port i).lapsedSeen) ∧
    (∀ i, ((placeDetach h r s).lane i).queued = (s.lane i).queued) ∧
    (∀ i, (placeDetach h r s).isActive i = s.isActive i) ∧ (∀ i, (placeDetach h r s).pane i = s.pane i) := by
  unfold placeDetach; (repeat' split) <;> simp -implicitDefEqProofs

end Sys2Proof.Machine
end

