-- ==== Sys2Proof/Laws/HostFrames.lean ====
section
/-! SUPPORT. What the operations of the Configuration Block, the Host Table, the ports and the clock leave as it stands. -/

set_option Elab.async false

namespace Sys2Proof.Machine

@[simp] theorem copyHostFields_frame (h : HostNo) (s : State) :
    (copyHostFields h s).pending = s.pending ∧ (copyHostFields h s).choices = s.choices ∧
    (copyHostFields h s).resetPin = s.resetPin ∧ (copyHostFields h s).store = s.store ∧
    (copyHostFields h s).scan = s.scan ∧ (copyHostFields h s).arbiter = s.arbiter ∧
    (copyHostFields h s).parked = s.parked ∧ (copyHostFields h s).faults = s.faults ∧
    (copyHostFields h s).panel = s.panel ∧ (copyHostFields h s).conf = s.conf ∧
    (∀ i, (copyHostFields h s).port i = s.port i) ∧ (∀ i, (copyHostFields h s).lane i = s.lane i) ∧
    (∀ i, (copyHostFields h s).queue i = s.queue i) ∧ (∀ i, ((copyHostFields h s).host i).state = (s.host i).state) ∧
    (∀ i, ((copyHostFields h s).host i).lease = (s.host i).lease) ∧
    (∀ i, ((copyHostFields h s).host i).warned = (s.host i).warned) ∧
    (∀ i, ((copyHostFields h s).host i).vote = (s.host i).vote) ∧
    (∀ i, ((copyHostFields h s).host i).tickets = (s.host i).tickets) ∧
    (∀ i, ((copyHostFields h s).host i).cells = (s.host i).cells) ∧
    (∀ i, ((copyHostFields h s).host i).overflow = (s.host i).overflow) ∧
    (∀ i, ((copyHostFields h s).host i).budgetHit = (s.host i).budgetHit) ∧
    (∀ i, (copyHostFields h s).isActive i = s.isActive i) ∧ (∀ i, (copyHostFields h s).pane i = s.pane i) := by
  simp -implicitDefEqProofs [copyHostFields]

@[simp] theorem loadIfActive_frame (h : HostNo) (s : State) :
    (loadIfActive h s).pending = s.pending ∧ (loadIfActive h s).choices = s.choices ∧
    (loadIfActive h s).resetPin = s.resetPin ∧ (loadIfActive h s).store = s.store ∧ (loadIfActive h s).scan = s.scan ∧
    (loadIfActive h s).arbiter = s.arbiter ∧ (loadIfActive h s).parked = s.parked ∧
    (loadIfActive h s).faults = s.faults ∧ (loadIfActive h s).panel = s.panel ∧ (loadIfActive h s).conf = s.conf ∧
    (∀ i, (loadIfActive h s).port i = s.port i) ∧ (∀ i, (loadIfActive h s).lane i = s.lane i) ∧
    (∀ i, (loadIfActive h s).queue i = s.queue i) ∧ (∀ i, ((loadIfActive h s).host i).state = (s.host i).state) ∧
    (∀ i, ((loadIfActive h s).host i).reserved = (s.host i).reserved) ∧
    (∀ i, ((loadIfActive h s).host i).budget = (s.host i).budget) ∧
    (∀ i, ((loadIfActive h s).host i).vote = (s.host i).vote) ∧
    (∀ i, ((loadIfActive h s).host i).tickets = (s.host i).tickets) ∧
    (∀ i, ((loadIfActive h s).host i).cells = (s.host i).cells) ∧
    (∀ i, ((loadIfActive h s).host i).overflow = (s.host i).overflow) ∧
    (∀ i, ((loadIfActive h s).host i).budgetHit = (s.host i).budgetHit) ∧
    (∀ i, (loadIfActive h s).isActive i = s.isActive i) ∧ (∀ i, (loadIfActive h s).pane i = s.pane i) := by
  unfold loadIfActive; (repeat' split) <;> simp -implicitDefEqProofs

@[simp] theorem startScan_frame (s : State) :
    (startScan s).pending = s.pending ∧ (startScan s).choices = s.choices ∧ (startScan s).resetPin = s.resetPin ∧
    (startScan s).store = s.store ∧ (startScan s).arbiter = s.arbiter ∧ (startScan s).parked = s.parked ∧
    (startScan s).faults = s.faults ∧ (startScan s).panel = s.panel ∧ (startScan s).conf = s.conf ∧
    (startScan s).scan.link = s.scan.link ∧ (startScan s).scan.frame = s.scan.frame ∧
    (startScan s).scan.queue = s.scan.queue ∧ (startScan s).scan.lane = s.scan.lane ∧
    (startScan s).scan.cursorLine = s.scan.cursorLine ∧ (startScan s).scan.cursorFrame = s.scan.cursorFrame ∧
    (startScan s).scan.latch = s.scan.latch ∧ (∀ i, (startScan s).port i = s.port i) ∧
    (∀ i, (startScan s).host i = s.host i) ∧ (∀ i, (startScan s).lane i = s.lane i) ∧
    (∀ i, (startScan s).queue i = s.queue i) ∧ (∀ i, (startScan s).isActive i = s.isActive i) ∧
    (∀ i, (startScan s).pane i = s.pane i) := by
  simp -implicitDefEqProofs [startScan]

@[simp] theorem enterRun_frame (s : State) :
    (enterRun s).pending = s.pending ∧ (enterRun s).choices = s.choices ∧ (enterRun s).resetPin = s.resetPin ∧
    (enterRun s).store = s.store ∧ (enterRun s).parked = s.parked ∧ (enterRun s).faults = s.faults ∧
    (enterRun s).panel = s.panel ∧ (enterRun s).conf.settings = s.conf.settings ∧ (enterRun s).scan.link = s.scan.link ∧
    (enterRun s).scan.queue = s.scan.queue ∧ (enterRun s).scan.lane = s.scan.lane ∧
    (enterRun s).scan.cursorLine = s.scan.cursorLine ∧ (enterRun s).arbiter.access = s.arbiter.access ∧
    (enterRun s).arbiter.lastGrant = s.arbiter.lastGrant ∧ (enterRun s).arbiter.rotation = s.arbiter.rotation ∧
    (enterRun s).conf.writers = s.conf.writers ∧ (enterRun s).conf.cause = s.conf.cause ∧
    (∀ i, ((enterRun s).port i).present = (s.port i).present) ∧
    (∀ i, ((enterRun s).port i).responses = (s.port i).responses) ∧
    (∀ i, ((enterRun s).port i).slots = (s.port i).slots) ∧ (∀ i, ((enterRun s).port i).drop = (s.port i).drop) ∧
    (∀ i, ((enterRun s).port i).exchange = (s.port i).exchange) ∧
    (∀ i, ((enterRun s).port i).resetSeen = (s.port i).resetSeen) ∧
    (∀ i, ((enterRun s).port i).lapsedSeen = (s.port i).lapsedSeen) ∧
    (∀ i, ((enterRun s).host i).state = (s.host i).state) ∧ (∀ i, ((enterRun s).host i).vote = (s.host i).vote) ∧
    (∀ i, ((enterRun s).host i).tickets = (s.host i).tickets) ∧
    (∀ i, ((enterRun s).host i).overflow = (s.host i).overflow) ∧
    (∀ i, ((enterRun s).lane i).queued = (s.lane i).queued) ∧ (∀ i, (enterRun s).isActive i = s.isActive i) := by
  simp -implicitDefEqProofs [enterRun]

@[simp] theorem openVote_frame (h : HostNo) (s : State) :
    (openVote h s).pending = s.pending ∧ (openVote h s).choices = s.choices ∧ (openVote h s).resetPin = s.resetPin ∧
    (openVote h s).store = s.store ∧ (openVote h s).scan = s.scan ∧ (openVote h s).arbiter = s.arbiter ∧
    (openVote h s).parked = s.parked ∧ (openVote h s).faults = s.faults ∧ (openVote h s).panel = s.panel ∧
    (openVote h s).conf.settings = s.conf.settings ∧ (openVote h s).conf.part = s.conf.part ∧
    (openVote h s).conf.writers = s.conf.writers ∧ (openVote h s).conf.cause = s.conf.cause ∧
    (∀ i, (openVote h s).host i = s.host i) ∧ (∀ i, (openVote h s).lane i = s.lane i) ∧
    (∀ i, ((openVote h s).port i).present = (s.port i).present) ∧
    (∀ i, ((openVote h s).port i).responses = (s.port i).responses) ∧
    (∀ i, ((openVote h s).port i).slots = (s.port i).slots) ∧ (∀ i, ((openVote h s).port i).drop = (s.port i).drop) ∧
    (∀ i, ((openVote h s).port i).exchange = (s.port i).exchange) ∧
    (∀ i, ((openVote h s).port i).resetSeen = (s.port i).resetSeen) ∧
    (∀ i, ((openVote h s).port i).lapsedSeen = (s.port i).lapsedSeen) ∧
    (∀ i, (openVote h s).isActive i = s.isActive i) ∧ (∀ i, (openVote h s).pane i = s.pane i) := by
  simp -implicitDefEqProofs [openVote]

@[simp] theorem clearVote_frame (h : HostNo) (s : State) :
    (clearVote h s).pending = s.pending ∧ (clearVote h s).choices = s.choices ∧ (clearVote h s).resetPin = s.resetPin ∧
    (clearVote h s).store = s.store ∧ (clearVote h s).scan = s.scan ∧ (clearVote h s).arbiter = s.arbiter ∧
    (clearVote h s).parked = s.parked ∧ (clearVote h s).faults = s.faults ∧ (clearVote h s).panel = s.panel ∧
    (clearVote h s).conf = s.conf ∧ (∀ i, (clearVote h s).port i = s.port i) ∧
    (∀ i, (clearVote h s).lane i = s.lane i) ∧ (∀ i, (clearVote h s).queue i = s.queue i) ∧
    (∀ i, ((clearVote h s).host i).state = (s.host i).state) ∧
    (∀ i, ((clearVote h s).host i).lease = (s.host i).lease) ∧
    (∀ i, ((clearVote h s).host i).warned = (s.host i).warned) ∧
    (∀ i, ((clearVote h s).host i).reserved = (s.host i).reserved) ∧
    (∀ i, ((clearVote h s).host i).budget = (s.host i).budget) ∧
    (∀ i, ((clearVote h s).host i).tickets = (s.host i).tickets) ∧
    (∀ i, ((clearVote h s).host i).cells = (s.host i).cells) ∧
    (∀ i, ((clearVote h s).host i).overflow = (s.host i).overflow) ∧
    (∀ i, ((clearVote h s).host i).budgetHit = (s.host i).budgetHit) ∧
    (∀ i, (clearVote h s).isActive i = s.isActive i) ∧ (∀ i, (clearVote h s).pane i = s.pane i) := by
  simp -implicitDefEqProofs [clearVote]

@[simp] theorem windowExpiry_frame (s : State) :
    (windowExpiry s).pending = s.pending ∧ (windowExpiry s).choices = s.choices ∧
    (windowExpiry s).resetPin = s.resetPin ∧ (windowExpiry s).store = s.store ∧ (windowExpiry s).scan = s.scan ∧
    (windowExpiry s).arbiter = s.arbiter ∧ (windowExpiry s).parked = s.parked ∧ (windowExpiry s).faults = s.faults ∧
    (windowExpiry s).panel = s.panel ∧ (windowExpiry s).conf.settings = s.conf.settings ∧
    (windowExpiry s).conf.part = s.conf.part ∧ (windowExpiry s).conf.writers = s.conf.writers ∧
    (windowExpiry s).conf.cause = s.conf.cause ∧ (∀ i, (windowExpiry s).lane i = s.lane i) ∧
    (∀ i, ((windowExpiry s).port i).present = (s.port i).present) ∧
    (∀ i, ((windowExpiry s).port i).responses = (s.port i).responses) ∧
    (∀ i, ((windowExpiry s).port i).slots = (s.port i).slots) ∧
    (∀ i, ((windowExpiry s).port i).drop = (s.port i).drop) ∧
    (∀ i, ((windowExpiry s).port i).exchange = (s.port i).exchange) ∧
    (∀ i, ((windowExpiry s).port i).resetSeen = (s.port i).resetSeen) ∧
    (∀ i, ((windowExpiry s).port i).lapsedSeen = (s.port i).lapsedSeen) ∧
    (∀ i, ((windowExpiry s).host i).state = (s.host i).state) ∧
    (∀ i, ((windowExpiry s).host i).lease = (s.host i).lease) ∧
    (∀ i, ((windowExpiry s).host i).warned = (s.host i).warned) ∧
    (∀ i, ((windowExpiry s).host i).reserved = (s.host i).reserved) ∧
    (∀ i, ((windowExpiry s).host i).budget = (s.host i).budget) ∧
    (∀ i, ((windowExpiry s).host i).tickets = (s.host i).tickets) ∧
    (∀ i, ((windowExpiry s).host i).cells = (s.host i).cells) ∧
    (∀ i, ((windowExpiry s).host i).overflow = (s.host i).overflow) ∧
    (∀ i, ((windowExpiry s).host i).budgetHit = (s.host i).budgetHit) ∧
    (∀ i, (windowExpiry s).isActive i = s.isActive i) ∧ (∀ i, (windowExpiry s).pane i = s.pane i) := by
  unfold windowExpiry; (repeat' split) <;> simp -implicitDefEqProofs

@[simp] theorem attachHost_frame (h : HostNo) (s : State) :
    (attachHost h s).pending = s.pending ∧ (attachHost h s).choices = s.choices ∧
    (attachHost h s).resetPin = s.resetPin ∧ (attachHost h s).store = s.store ∧ (attachHost h s).scan = s.scan ∧
    (attachHost h s).arbiter = s.arbiter ∧ (attachHost h s).parked = s.parked ∧ (attachHost h s).faults = s.faults ∧
    (attachHost h s).panel = s.panel ∧ (attachHost h s).conf = s.conf ∧ (∀ i, (attachHost h s).port i = s.port i) ∧
    (∀ i, (attachHost h s).lane i = s.lane i) ∧ (∀ i, (attachHost h s).queue i = s.queue i) ∧
    (∀ i, ((attachHost h s).host i).lease = (s.host i).lease) ∧
    (∀ i, ((attachHost h s).host i).warned = (s.host i).warned) ∧
    (∀ i, ((attachHost h s).host i).reserved = (s.host i).reserved) ∧
    (∀ i, ((attachHost h s).host i).budget = (s.host i).budget) ∧
    (∀ i, ((attachHost h s).host i).tickets = (s.host i).tickets) ∧
    (∀ i, ((attachHost h s).host i).cells = (s.host i).cells) ∧
    (∀ i, ((attachHost h s).host i).overflow = (s.host i).overflow) ∧
    (∀ i, ((attachHost h s).host i).budgetHit = (s.host i).budgetHit) ∧ (∀ i, (attachHost h s).pane i = s.pane i) := by
  unfold attachHost; (repeat' split) <;> simp -implicitDefEqProofs

@[simp] theorem clearSeen_frame (h : HostNo) (s : State) :
    (clearSeen h s).pending = s.pending ∧ (clearSeen h s).choices = s.choices ∧ (clearSeen h s).resetPin = s.resetPin ∧
    (clearSeen h s).store = s.store ∧ (clearSeen h s).scan = s.scan ∧ (clearSeen h s).arbiter = s.arbiter ∧
    (clearSeen h s).parked = s.parked ∧ (clearSeen h s).faults = s.faults ∧ (clearSeen h s).panel = s.panel ∧
    (clearSeen h s).conf = s.conf ∧ (∀ i, (clearSeen h s).host i = s.host i) ∧
    (∀ i, (clearSeen h s).lane i = s.lane i) ∧ (∀ i, (clearSeen h s).queue i = s.queue i) ∧
    (∀ i, ((clearSeen h s).port i).present = (s.port i).present) ∧
    (∀ i, ((clearSeen h s).port i).responses = (s.port i).responses) ∧
    (∀ i, ((clearSeen h s).port i).slots = (s.port i).slots) ∧ (∀ i, ((clearSeen h s).port i).drop = (s.port i).drop) ∧
    (∀ i, ((clearSeen h s).port i).exchange = (s.port i).exchange) ∧
    (∀ i, ((clearSeen h s).port i).attention = (s.port i).attention) ∧
    (∀ i, (clearSeen h s).isActive i = s.isActive i) ∧ (∀ i, (clearSeen h s).pane i = s.pane i) := by
  simp -implicitDefEqProofs [clearSeen]

@[simp] theorem leaseWarn_frame (h : HostNo) (s : State) :
    (leaseWarn h s).pending = s.pending ∧ (leaseWarn h s).choices = s.choices ∧ (leaseWarn h s).resetPin = s.resetPin ∧
    (leaseWarn h s).store = s.store ∧ (leaseWarn h s).scan = s.scan ∧ (leaseWarn h s).arbiter = s.arbiter ∧
    (leaseWarn h s).parked = s.parked ∧ (leaseWarn h s).faults = s.faults ∧ (leaseWarn h s).panel = s.panel ∧
    (leaseWarn h s).conf = s.conf ∧ (∀ i, (leaseWarn h s).lane i = s.lane i) ∧
    (∀ i, ((leaseWarn h s).port i).present = (s.port i).present) ∧
    (∀ i, ((leaseWarn h s).port i).responses = (s.port i).responses) ∧
    (∀ i, ((leaseWarn h s).port i).slots = (s.port i).slots) ∧ (∀ i, ((leaseWarn h s).port i).drop = (s.port i).drop) ∧
    (∀ i, ((leaseWarn h s).port i).exchange = (s.port i).exchange) ∧
    (∀ i, ((leaseWarn h s).port i).resetSeen = (s.port i).resetSeen) ∧
    (∀ i, ((leaseWarn h s).port i).lapsedSeen = (s.port i).lapsedSeen) ∧
    (∀ i, ((leaseWarn h s).host i).state = (s.host i).state) ∧
    (∀ i, ((leaseWarn h s).host i).reserved = (s.host i).reserved) ∧
    (∀ i, ((leaseWarn h s).host i).budget = (s.host i).budget) ∧
    (∀ i, ((leaseWarn h s).host i).vote = (s.host i).vote) ∧
    (∀ i, ((leaseWarn h s).host i).tickets = (s.host i).tickets) ∧
    (∀ i, ((leaseWarn h s).host i).cells = (s.host i).cells) ∧
    (∀ i, ((leaseWarn h s).host i).overflow = (s.host i).overflow) ∧
    (∀ i, ((leaseWarn h s).host i).budgetHit = (s.host i).budgetHit) ∧
    (∀ i, (leaseWarn h s).isActive i = s.isActive i) ∧ (∀ i, (leaseWarn h s).pane i = s.pane i) := by
  unfold leaseWarn; (repeat' split) <;> simp -implicitDefEqProofs

@[simp] theorem dropLine_frame (h : HostNo) (s : State) :
    (dropLine h s).pending = s.pending ∧ (dropLine h s).choices = s.choices ∧ (dropLine h s).resetPin = s.resetPin ∧
    (dropLine h s).store = s.store ∧ (dropLine h s).scan = s.scan ∧ (dropLine h s).arbiter = s.arbiter ∧
    (dropLine h s).parked = s.parked ∧ (dropLine h s).faults = s.faults ∧ (dropLine h s).panel = s.panel ∧
    (dropLine h s).conf = s.conf ∧ (∀ i, (dropLine h s).host i = s.host i) ∧ (∀ i, (dropLine h s).lane i = s.lane i) ∧
    (∀ i, (dropLine h s).queue i = s.queue i) ∧ (∀ i, ((dropLine h s).port i).slots = (s.port i).slots) ∧
    (∀ i, ((dropLine h s).port i).resetSeen = (s.port i).resetSeen) ∧
    (∀ i, ((dropLine h s).port i).lapsedSeen = (s.port i).lapsedSeen) ∧
    (∀ i, (dropLine h s).isActive i = s.isActive i) ∧ (∀ i, (dropLine h s).pane i = s.pane i) := by
  simp -implicitDefEqProofs [dropLine]

@[simp] theorem takeSlot_frame (h : HostNo) (s : State) :
    (takeSlot h s).pending = s.pending ∧ (takeSlot h s).choices = s.choices ∧ (takeSlot h s).resetPin = s.resetPin ∧
    (takeSlot h s).store = s.store ∧ (takeSlot h s).scan = s.scan ∧ (takeSlot h s).arbiter = s.arbiter ∧
    (takeSlot h s).parked = s.parked ∧ (takeSlot h s).faults = s.faults ∧ (takeSlot h s).panel = s.panel ∧
    (takeSlot h s).conf = s.conf ∧ (∀ i, (takeSlot h s).host i = s.host i) ∧ (∀ i, (takeSlot h s).lane i = s.lane i) ∧
    (∀ i, (takeSlot h s).queue i = s.queue i) ∧ (∀ i, ((takeSlot h s).port i).present = (s.port i).present) ∧
    (∀ i, ((takeSlot h s).port i).responses = (s.port i).responses) ∧
    (∀ i, ((takeSlot h s).port i).drop = (s.port i).drop) ∧
    (∀ i, ((takeSlot h s).port i).exchange = (s.port i).exchange) ∧
    (∀ i, ((takeSlot h s).port i).resetSeen = (s.port i).resetSeen) ∧
    (∀ i, ((takeSlot h s).port i).lapsedSeen = (s.port i).lapsedSeen) ∧
    (∀ i, ((takeSlot h s).port i).attention = (s.port i).attention) ∧ (∀ i, (takeSlot h s).isActive i = s.isActive i) ∧
    (∀ i, (takeSlot h s).pane i = s.pane i) := by
  simp -implicitDefEqProofs [takeSlot]

@[simp] theorem dropFrame_frame (h : HostNo) (s : State) :
    (dropFrame h s).pending = s.pending ∧ (dropFrame h s).choices = s.choices ∧ (dropFrame h s).resetPin = s.resetPin ∧
    (dropFrame h s).store = s.store ∧ (dropFrame h s).scan = s.scan ∧ (dropFrame h s).arbiter = s.arbiter ∧
    (dropFrame h s).parked = s.parked ∧ (dropFrame h s).panel = s.panel ∧ (dropFrame h s).conf = s.conf ∧
    (∀ i, (dropFrame h s).lane i = s.lane i) ∧ (∀ i, ((dropFrame h s).port i).present = (s.port i).present) ∧
    (∀ i, ((dropFrame h s).port i).responses = (s.port i).responses) ∧
    (∀ i, ((dropFrame h s).port i).slots = (s.port i).slots) ∧
    (∀ i, ((dropFrame h s).port i).exchange = (s.port i).exchange) ∧
    (∀ i, ((dropFrame h s).port i).resetSeen = (s.port i).resetSeen) ∧
    (∀ i, ((dropFrame h s).port i).lapsedSeen = (s.port i).lapsedSeen) ∧
    (∀ i, ((dropFrame h s).host i).state = (s.host i).state) ∧
    (∀ i, ((dropFrame h s).host i).lease = (s.host i).lease) ∧
    (∀ i, ((dropFrame h s).host i).warned = (s.host i).warned) ∧
    (∀ i, ((dropFrame h s).host i).reserved = (s.host i).reserved) ∧
    (∀ i, ((dropFrame h s).host i).budget = (s.host i).budget) ∧
    (∀ i, ((dropFrame h s).host i).vote = (s.host i).vote) ∧
    (∀ i, ((dropFrame h s).host i).tickets = (s.host i).tickets) ∧
    (∀ i, ((dropFrame h s).host i).cells = (s.host i).cells) ∧
    (∀ i, ((dropFrame h s).host i).budgetHit = (s.host i).budgetHit) ∧
    (∀ i, (dropFrame h s).isActive i = s.isActive i) ∧ (∀ i, (dropFrame h s).pane i = s.pane i) := by
  simp -implicitDefEqProofs [dropFrame]

@[simp] theorem exchangeStart_frame (h : HostNo) (s : State) :
    (exchangeStart h s).pending = s.pending ∧ (exchangeStart h s).choices = s.choices ∧
    (exchangeStart h s).resetPin = s.resetPin ∧ (exchangeStart h s).store = s.store ∧
    (exchangeStart h s).scan = s.scan ∧ (exchangeStart h s).arbiter = s.arbiter ∧
    (exchangeStart h s).parked = s.parked ∧ (exchangeStart h s).faults = s.faults ∧
    (exchangeStart h s).panel = s.panel ∧ (exchangeStart h s).conf = s.conf ∧
    (∀ i, (exchangeStart h s).host i = s.host i) ∧ (∀ i, (exchangeStart h s).lane i = s.lane i) ∧
    (∀ i, (exchangeStart h s).queue i = s.queue i) ∧ (∀ i, ((exchangeStart h s).port i).present = (s.port i).present) ∧
    (∀ i, ((exchangeStart h s).port i).responses = (s.port i).responses) ∧
    (∀ i, ((exchangeStart h s).port i).slots = (s.port i).slots) ∧
    (∀ i, ((exchangeStart h s).port i).drop = (s.port i).drop) ∧
    (∀ i, ((exchangeStart h s).port i).resetSeen = (s.port i).resetSeen) ∧
    (∀ i, ((exchangeStart h s).port i).lapsedSeen = (s.port i).lapsedSeen) ∧
    (∀ i, ((exchangeStart h s).port i).attention = (s.port i).attention) ∧
    (∀ i, (exchangeStart h s).isActive i = s.isActive i) ∧ (∀ i, (exchangeStart h s).pane i = s.pane i) := by
  unfold exchangeStart; dsimp only; (repeat' split) <;> simp -implicitDefEqProofs

@[simp] theorem removeSent_frame (h : HostNo) (x : Exchange) (n : Nat) (s : State) :
    (removeSent h x n s).pending = s.pending ∧ (removeSent h x n s).choices = s.choices ∧
    (removeSent h x n s).resetPin = s.resetPin ∧ (removeSent h x n s).store = s.store ∧
    (removeSent h x n s).scan = s.scan ∧ (removeSent h x n s).arbiter = s.arbiter ∧
    (removeSent h x n s).parked = s.parked ∧ (removeSent h x n s).faults = s.faults ∧
    (removeSent h x n s).panel = s.panel ∧ (removeSent h x n s).conf = s.conf ∧
    (∀ i, (removeSent h x n s).host i = s.host i) ∧ (∀ i, (removeSent h x n s).lane i = s.lane i) ∧
    (∀ i, (removeSent h x n s).queue i = s.queue i) ∧
    (∀ i, ((removeSent h x n s).port i).present = (s.port i).present) ∧
    (∀ i, ((removeSent h x n s).port i).slots = (s.port i).slots) ∧
    (∀ i, ((removeSent h x n s).port i).resetSeen = (s.port i).resetSeen) ∧
    (∀ i, ((removeSent h x n s).port i).lapsedSeen = (s.port i).lapsedSeen) ∧
    (∀ i, (removeSent h x n s).isActive i = s.isActive i) ∧ (∀ i, (removeSent h x n s).pane i = s.pane i) := by
  unfold removeSent; dsimp only; (repeat' split) <;> simp -implicitDefEqProofs

@[simp] theorem countLease_frame (h : HostNo) (s : State) :
    (countLease h s).pending = s.pending ∧ (countLease h s).choices = s.choices ∧
    (countLease h s).resetPin = s.resetPin ∧ (countLease h s).store = s.store ∧ (countLease h s).scan = s.scan ∧
    (countLease h s).arbiter = s.arbiter ∧ (countLease h s).parked = s.parked ∧ (countLease h s).faults = s.faults ∧
    (countLease h s).panel = s.panel ∧ (countLease h s).conf = s.conf ∧ (∀ i, (countLease h s).port i = s.port i) ∧
    (∀ i, (countLease h s).lane i = s.lane i) ∧ (∀ i, (countLease h s).queue i = s.queue i) ∧
    (∀ i, ((countLease h s).host i).state = (s.host i).state) ∧
    (∀ i, ((countLease h s).host i).warned = (s.host i).warned) ∧
    (∀ i, ((countLease h s).host i).reserved = (s.host i).reserved) ∧
    (∀ i, ((countLease h s).host i).budget = (s.host i).budget) ∧
    (∀ i, ((countLease h s).host i).vote = (s.host i).vote) ∧
    (∀ i, ((countLease h s).host i).tickets = (s.host i).tickets) ∧
    (∀ i, ((countLease h s).host i).cells = (s.host i).cells) ∧
    (∀ i, ((countLease h s).host i).overflow = (s.host i).overflow) ∧
    (∀ i, ((countLease h s).host i).budgetHit = (s.host i).budgetHit) ∧
    (∀ i, (countLease h s).isActive i = s.isActive i) ∧ (∀ i, (countLease h s).pane i = s.pane i) := by
  unfold countLease; (repeat' split) <;> simp -implicitDefEqProofs

@[simp] theorem countWindow_frame (s : State) :
    (countWindow s).pending = s.pending ∧ (countWindow s).choices = s.choices ∧ (countWindow s).resetPin = s.resetPin ∧
    (countWindow s).store = s.store ∧ (countWindow s).scan = s.scan ∧ (countWindow s).arbiter = s.arbiter ∧
    (countWindow s).parked = s.parked ∧ (countWindow s).faults = s.faults ∧ (countWindow s).panel = s.panel ∧
    (countWindow s).conf.settings = s.conf.settings ∧ (countWindow s).conf.part = s.conf.part ∧
    (countWindow s).conf.writers = s.conf.writers ∧ (countWindow s).conf.cause = s.conf.cause ∧
    (countWindow s).conf.vote = s.conf.vote ∧ (∀ i, (countWindow s).port i = s.port i) ∧
    (∀ i, (countWindow s).host i = s.host i) ∧ (∀ i, (countWindow s).lane i = s.lane i) ∧
    (∀ i, (countWindow s).queue i = s.queue i) ∧ (∀ i, (countWindow s).isActive i = s.isActive i) ∧
    (∀ i, (countWindow s).pane i = s.pane i) := by
  unfold countWindow; (repeat' split) <;> simp -implicitDefEqProofs

@[simp] theorem countReply_frame (s : State) :
    (countReply s).pending = s.pending ∧ (countReply s).choices = s.choices ∧ (countReply s).resetPin = s.resetPin ∧
    (countReply s).store = s.store ∧ (countReply s).scan = s.scan ∧ (countReply s).arbiter = s.arbiter ∧
    (countReply s).parked = s.parked ∧ (countReply s).faults = s.faults ∧ (countReply s).conf = s.conf ∧
    (countReply s).panel.fifo = s.panel.fifo ∧ (countReply s).panel.inFlight = s.panel.inFlight ∧
    (countReply s).panel.blanking = s.panel.blanking ∧ (∀ i, (countReply s).port i = s.port i) ∧
    (∀ i, (countReply s).host i = s.host i) ∧ (∀ i, (countReply s).lane i = s.lane i) ∧
    (∀ i, (countReply s).queue i = s.queue i) ∧ (∀ i, (countReply s).isActive i = s.isActive i) ∧
    (∀ i, (countReply s).pane i = s.pane i) := by
  simp -implicitDefEqProofs [countReply]

@[simp] theorem countLine_frame (s : State) :
    (countLine s).pending = s.pending ∧ (countLine s).choices = s.choices ∧ (countLine s).resetPin = s.resetPin ∧
    (countLine s).store = s.store ∧ (countLine s).arbiter = s.arbiter ∧ (countLine s).parked = s.parked ∧
    (countLine s).faults = s.faults ∧ (countLine s).panel = s.panel ∧ (countLine s).conf = s.conf ∧
    (countLine s).scan.link = s.scan.link ∧ (countLine s).scan.frame = s.scan.frame ∧
    (countLine s).scan.queue = s.scan.queue ∧ (countLine s).scan.mark = s.scan.mark ∧
    (countLine s).scan.emission = s.scan.emission ∧ (countLine s).scan.emitter = s.scan.emitter ∧
    (countLine s).scan.cursorLine = s.scan.cursorLine ∧ (countLine s).scan.cursorFrame = s.scan.cursorFrame ∧
    (countLine s).scan.latch = s.scan.latch ∧ (∀ i, (countLine s).port i = s.port i) ∧
    (∀ i, (countLine s).host i = s.host i) ∧ (∀ i, (countLine s).lane i = s.lane i) ∧
    (∀ i, (countLine s).queue i = s.queue i) ∧ (∀ i, (countLine s).isActive i = s.isActive i) ∧
    (∀ i, (countLine s).pane i = s.pane i) := by
  unfold countLine; (repeat' split) <;> simp -implicitDefEqProofs

@[simp] theorem countTick_frame (s : State) :
    (countTick s).pending = s.pending ∧ (countTick s).choices = s.choices ∧ (countTick s).resetPin = s.resetPin ∧
    (countTick s).store = s.store ∧ (countTick s).arbiter = s.arbiter ∧ (countTick s).parked = s.parked ∧
    (countTick s).faults = s.faults ∧ (countTick s).conf.settings = s.conf.settings ∧
    (countTick s).scan.link = s.scan.link ∧ (countTick s).scan.frame = s.scan.frame ∧
    (countTick s).scan.queue = s.scan.queue ∧ (countTick s).scan.mark = s.scan.mark ∧
    (countTick s).scan.emission = s.scan.emission ∧ (countTick s).scan.emitter = s.scan.emitter ∧
    (countTick s).scan.cursorLine = s.scan.cursorLine ∧ (countTick s).scan.cursorFrame = s.scan.cursorFrame ∧
    (countTick s).scan.latch = s.scan.latch ∧ (countTick s).panel.fifo = s.panel.fifo ∧
    (countTick s).panel.inFlight = s.panel.inFlight ∧ (countTick s).panel.blanking = s.panel.blanking ∧
    (countTick s).conf.part = s.conf.part ∧ (countTick s).conf.writers = s.conf.writers ∧
    (countTick s).conf.cause = s.conf.cause ∧ (countTick s).conf.vote = s.conf.vote ∧
    (∀ i, (countTick s).port i = s.port i) ∧ (∀ i, (countTick s).lane i = s.lane i) ∧
    (∀ i, (countTick s).queue i = s.queue i) ∧ (∀ i, ((countTick s).host i).state = (s.host i).state) ∧
    (∀ i, ((countTick s).host i).warned = (s.host i).warned) ∧
    (∀ i, ((countTick s).host i).reserved = (s.host i).reserved) ∧
    (∀ i, ((countTick s).host i).budget = (s.host i).budget) ∧ (∀ i, ((countTick s).host i).vote = (s.host i).vote) ∧
    (∀ i, ((countTick s).host i).tickets = (s.host i).tickets) ∧
    (∀ i, ((countTick s).host i).cells = (s.host i).cells) ∧
    (∀ i, ((countTick s).host i).overflow = (s.host i).overflow) ∧
    (∀ i, ((countTick s).host i).budgetHit = (s.host i).budgetHit) ∧ (∀ i, (countTick s).isActive i = s.isActive i) ∧
    (∀ i, (countTick s).pane i = s.pane i) := by
  simp -implicitDefEqProofs [countTick]

@[simp] theorem windowDue_frame (s : State) :
    (windowDue s).pending = s.pending ∧ (windowDue s).choices = s.choices ∧ (windowDue s).resetPin = s.resetPin ∧
    (windowDue s).store = s.store ∧ (windowDue s).scan = s.scan ∧ (windowDue s).arbiter = s.arbiter ∧
    (windowDue s).parked = s.parked ∧ (windowDue s).faults = s.faults ∧ (windowDue s).panel = s.panel ∧
    (windowDue s).conf.settings = s.conf.settings ∧ (windowDue s).conf.part = s.conf.part ∧
    (windowDue s).conf.writers = s.conf.writers ∧ (windowDue s).conf.cause = s.conf.cause ∧
    (∀ i, (windowDue s).lane i = s.lane i) ∧ (∀ i, ((windowDue s).port i).present = (s.port i).present) ∧
    (∀ i, ((windowDue s).port i).responses = (s.port i).responses) ∧
    (∀ i, ((windowDue s).port i).slots = (s.port i).slots) ∧ (∀ i, ((windowDue s).port i).drop = (s.port i).drop) ∧
    (∀ i, ((windowDue s).port i).exchange = (s.port i).exchange) ∧
    (∀ i, ((windowDue s).port i).resetSeen = (s.port i).resetSeen) ∧
    (∀ i, ((windowDue s).port i).lapsedSeen = (s.port i).lapsedSeen) ∧
    (∀ i, ((windowDue s).host i).state = (s.host i).state) ∧ (∀ i, ((windowDue s).host i).lease = (s.host i).lease) ∧
    (∀ i, ((windowDue s).host i).warned = (s.host i).warned) ∧
    (∀ i, ((windowDue s).host i).reserved = (s.host i).reserved) ∧
    (∀ i, ((windowDue s).host i).budget = (s.host i).budget) ∧
    (∀ i, ((windowDue s).host i).tickets = (s.host i).tickets) ∧
    (∀ i, ((windowDue s).host i).cells = (s.host i).cells) ∧
    (∀ i, ((windowDue s).host i).overflow = (s.host i).overflow) ∧
    (∀ i, ((windowDue s).host i).budgetHit = (s.host i).budgetHit) ∧ (∀ i, (windowDue s).isActive i = s.isActive i) ∧
    (∀ i, (windowDue s).pane i = s.pane i) := by
  unfold windowDue; (repeat' split) <;> simp -implicitDefEqProofs

@[simp] theorem replyDue_frame (s : State) :
    (replyDue s).pending = s.pending ∧ (replyDue s).choices = s.choices ∧ (replyDue s).resetPin = s.resetPin ∧
    (replyDue s).store = s.store ∧ (replyDue s).scan = s.scan ∧ (replyDue s).arbiter = s.arbiter ∧
    (replyDue s).parked = s.parked ∧ (replyDue s).conf = s.conf ∧ (replyDue s).panel.blanking = s.panel.blanking ∧
    (∀ i, (replyDue s).lane i = s.lane i) ∧ (∀ i, ((replyDue s).port i).present = (s.port i).present) ∧
    (∀ i, ((replyDue s).port i).drop = (s.port i).drop) ∧ (∀ i, ((replyDue s).port i).exchange = (s.port i).exchange) ∧
    (∀ i, ((replyDue s).port i).resetSeen = (s.port i).resetSeen) ∧
    (∀ i, ((replyDue s).port i).lapsedSeen = (s.port i).lapsedSeen) ∧
    (∀ i, ((replyDue s).host i).state = (s.host i).state) ∧ (∀ i, ((replyDue s).host i).lease = (s.host i).lease) ∧
    (∀ i, ((replyDue s).host i).warned = (s.host i).warned) ∧
    (∀ i, ((replyDue s).host i).reserved = (s.host i).reserved) ∧
    (∀ i, ((replyDue s).host i).budget = (s.host i).budget) ∧ (∀ i, ((replyDue s).host i).vote = (s.host i).vote) ∧
    (∀ i, ((replyDue s).host i).tickets = (s.host i).tickets) ∧ (∀ i, ((replyDue s).host i).cells = (s.host i).cells) ∧
    (∀ i, ((replyDue s).host i).budgetHit = (s.host i).budgetHit) ∧ (∀ i, (replyDue s).isActive i = s.isActive i) ∧
    (∀ i, (replyDue s).pane i = s.pane i) := by
  unfold replyDue; (repeat' split) <;> simp -implicitDefEqProofs

end Sys2Proof.Machine
end

