-- ==== Sys2Proof/Laws/Specs.lean ====
section
/-! SUPPORT. What each shared operation does, said once: placing and answering responses, events, fault reports, the port's
admission of a request, the checks of the Host Table and of panes, and what follows at once. -/

set_option Elab.async false

namespace Sys2Proof.Machine

/-! ## Lookups -/

/-- A test over the four hosts in order. -/
theorem allHosts_eq : allHosts = [0, 1, 2, 3] := by decide

theorem mem_allHosts (h : HostNo) : h ∈ allHosts := by revert h; decide
theorem mem_allPanes (p : PaneNo) : p ∈ allPanes := by revert p; decide

/-- The panes stand in rising order. -/
theorem allPanes_rising : allPanes.Pairwise (· < ·) := by decide

/-- A lookup over the panes finds the lowest that meets the test. -/
theorem allPanes_find?_some (f : PaneNo → Bool) (p : PaneNo) :
    allPanes.find? f = some p ↔ f p = true ∧ ∀ q, q < p → f q = false := by
  have key : ∀ l : List PaneNo, l.Pairwise (· < ·) →
      (l.find? f = some p ↔ p ∈ l ∧ f p = true ∧ ∀ q ∈ l, q < p → f q = false) := by
    intro l hl
    induction l with
    | nil => simp
    | cons a l ih =>
      obtain ⟨h1, h2⟩ := List.pairwise_cons.1 hl
      by_cases ha : f a = true
      · simp only [List.find?_cons, ha, Option.some.injEq, List.mem_cons]
        constructor
        · rintro rfl
          refine ⟨.inl rfl, ha, ?_⟩
          rintro q (rfl | hq) hlt
          · exact absurd hlt (lt_irrefl _)
          · exact absurd (h1 q hq) (lt_asymm hlt)
        · rintro ⟨rfl | hp, -, h⟩
          · rfl
          · have := h a (.inl rfl) (h1 p hp); simp [ha] at this
      · simp only [Bool.not_eq_true] at ha
        simp only [List.find?_cons, ha, ih h2, List.mem_cons]
        constructor
        · rintro ⟨hp, hf, h⟩
          refine ⟨.inr hp, hf, ?_⟩
          rintro q (rfl | hq) hlt
          · exact ha
          · exact h q hq hlt
        · rintro ⟨rfl | hp, hf, h⟩
          · simp [ha] at hf
          · exact ⟨hp, hf, fun q hq => h q (.inr hq)⟩
  rw [key _ allPanes_rising]
  exact ⟨fun ⟨_, b, c⟩ => ⟨b, fun q => c q (mem_allPanes q)⟩, fun ⟨b, c⟩ => ⟨mem_allPanes p, b, fun q _ => c q⟩⟩

theorem allPanes_find?_none (f : PaneNo → Bool) : allPanes.find? f = none ↔ ∀ p, f p = false := by
  rw [List.find?_eq_none]
  exact ⟨fun h p => by simpa using h p (mem_allPanes p), fun h p _ => by simp [h p]⟩

/-- Running a function for each host is running it for the four in order. -/
theorem forEach_allHosts (f : HostNo → State → State) (s : State) :
    forEach allHosts f s = f 3 (f 2 (f 1 (f 0 s))) := by simp [forEach, allHosts_eq]

@[simp] theorem forEach_nil {α : Type} (f : α → State → State) (s : State) : forEach [] f s = s := rfl
@[simp] theorem forEach_cons {α : Type} (a : α) (l : List α) (f : α → State → State) (s : State) :
    forEach (a :: l) f s = forEach l f (f a s) := rfl

/-- What every pass keeps, the whole run keeps. -/
theorem forEach_induct {α : Type} (P : State → Prop) (f : α → State → State) (hf : ∀ a s, P s → P (f a s)) (l : List α)
    (s : State) (h : P s) : P (forEach l f s) := by
  induction l generalizing s with
  | nil => exact h
  | cons a l ih => exact ih _ (hf a s h)

/-! ## Responses (R127, R130, R132) -/

/-- Placing a response: it stands at the tail and HATN is asserted. -/
theorem placeResponse_eq (h : HostNo) (r : Response) (s : State) : placeResponse h r s = s.answered h r := by
  have he : ((s.port h).responses ++ [r]).isEmpty = false := by cases (s.port h).responses <;> rfl
  simp [placeResponse, refreshAttention, State.answered, he]

/-- Answering frees one slot and places the response. -/
theorem answer_eq (h : HostNo) (r : Response) (s : State) :
    answer h r s = (s.setPort h { s.port h with slots := (s.port h).slots - 1 }).answered h r := by
  simp [answer, placeResponse_eq]

/-- A request answered with the slot it has just been given leaves only its response. -/
theorem reply_slotTaken (h : HostNo) (k : Kind) (tag : Byte) (st : Status) (pl : Payload) (s : State) :
    reply h k tag st pl (s.slotTaken h) = s.answered h (responseTo k tag st pl) := by
  simp [reply, answer_eq, State.slotTaken, State.answered, responseTo]

/-- The port of the host answered, and every other port. -/
theorem answer_port (h g : HostNo) (r : Response) (s : State) :
    (answer h r s).port g = if h = g then
      { s.port g with
        slots := (s.port g).slots - 1, responses := (s.port g).responses ++ [r], attention := true }
    else s.port g := by
  by_cases hg : h = g
  · subst hg; simp [answer_eq, State.answered]
  · simp [answer_eq, State.answered, hg]

theorem answerAll_nil (h : HostNo) (s : State) : answerAll h [] s = s := rfl

theorem answerAll_cons (h : HostNo) (r : Response) (rs : List Response) (s : State) :
    answerAll h (r :: rs) s = answerAll h rs (answer h r s) := rfl

/-- Several answers of one host stand in order behind those already queued, each frees a slot, and no other port changes. -/
theorem answerAll_port (h g : HostNo) (rs : List Response) (s : State) :
    ((answerAll h rs s).port g).responses = (if h = g then (s.port g).responses ++ rs else (s.port g).responses) ∧
    ((answerAll h rs s).port g).slots = (if h = g then (s.port g).slots - rs.length else (s.port g).slots) := by
  induction rs generalizing s with
  | nil => simp [answerAll_nil]
  | cons r rs ih =>
    rw [answerAll_cons, (ih _).1, (ih _).2, answer_port]
    by_cases hg : h = g
    · subst hg; simp [Nat.sub_sub, Nat.add_comm]
    · simp [hg]

/-- Clearing a response queue: empty, and a response an exchange has chosen is no longer queued (R133). -/
theorem clearResponses_port (h : HostNo) (s : State) :
    (clearResponses h s).port h = { s.port h with
      responses := [], exchange := (s.port h).exchange.map fun x => { x with queued := false },
      attention := !(s.queue h).events.isEmpty } := by
  simp [clearResponses, refreshAttention]

/-! ## Events (R143, R145) -/

/-- Posting an event: to the tail, or counted as lost at a full queue, or not made for a host that is not ACTIVE. -/
theorem postEvent_queue (h g : HostNo) (e : Event) (s : State) :
    (postEvent h e s).queue g =
      if h = g ∧ s.isActive h = true then
        if (s.queue g).events.length < 8 then { s.queue g with events := (s.queue g).events ++ [e] }
        else { s.queue g with lost := min ((s.queue g).lost + 1) 255 }
      else s.queue g := by
  unfold postEvent
  by_cases hg : h = g
  · subst hg
    split
    · next ha =>
      by_cases hl : (s.queue h).events.length < 8
      · simp [ha, hl, Config.eventPlaces, refreshAttention]
      · simp [ha, hl, Config.eventPlaces, satSucc, Config.countMax]
    · next ha => simp [ha]
  · (repeat' split) <;> simp_all [refreshAttention]

/-- Events posted in turn are posted one list after the other. -/
theorem EventQueue.posted_append (q : EventQueue) (es fs : List Event) :
    q.posted (es ++ fs) = (q.posted es).posted fs := by
  induction es generalizing q with
  | nil => rfl
  | cons e es ih => exact ih _

/-- Several events posted to one ACTIVE host reach its queue in turn, and no other queue. -/
theorem forEach_postEvent_queue {α : Type} (h g : HostNo) (f : α → Event) (l : List α) (s : State) :
    (forEach l (fun a => postEvent h (f a)) s).queue g =
      if h = g ∧ s.isActive h = true then (s.queue g).posted (l.map f) else s.queue g := by
  induction l generalizing s with
  | nil => simp [forEach, EventQueue.posted]
  | cons a l ih =>
    rw [show forEach (a :: l) (fun a => postEvent h (f a)) s =
      forEach l (fun a => postEvent h (f a)) (postEvent h (f a) s) from rfl, ih, postEvent_queue]
    simp only [postEvent_frame, List.map_cons, EventQueue.posted]
    split <;> simp_all

/-- HATN after a post: asserted where the event joined its queue, and elsewhere as before. -/
theorem postEvent_attention (h g : HostNo) (e : Event) (s : State) :
    ((postEvent h e s).port g).attention =
      if h = g ∧ s.isActive h = true ∧ (s.queue h).events.length < 8 then true else (s.port g).attention := by
  unfold postEvent
  by_cases hg : h = g
  · subst hg
    by_cases ha : s.isActive h = true
    · by_cases hl : (s.queue h).events.length < 8
      · simp [ha, hl, Config.eventPlaces, refreshAttention]
      · simp [ha, hl, Config.eventPlaces]
    · simp [ha]
  · (repeat' split) <;> simp_all [refreshAttention]

/-- A departure empties the event queue and its lost count (R145). -/
theorem clearEvents_queue (h : HostNo) (s : State) : (clearEvents h s).queue h = ⟨[], 0⟩ := by
  simp [clearEvents, refreshAttention]

theorem clearEvents_attention (h : HostNo) (s : State) :
    ((clearEvents h s).port h).attention = !(s.port h).responses.isEmpty := by
  simp [clearEvents, refreshAttention]

/-! ## The end of cell work (R21, R23, R87) -/

/-- On no pane nothing ends. -/
theorem endWork_nil (status : Status) (h : HostNo) (s : State) : endWork [] status h s = s := by
  have hs : (s.lane h).service.bind (stoppedService (fun _ => false) status) = (s.lane h).service := by
    cases (s.lane h).service <;> simp [stoppedService]
  have hq : stoppedResponses s h (fun _ => false) status = [] := by simp [stoppedResponses]
  have hl : s.setLane h (s.lane h) = s := by simp [State.setLane, State.lane]
  show answerAll h (stoppedResponses s h (fun _ => false) status) (stopOps h (fun _ => false) (fun _ => false) status s) = s
  rw [hq, answerAll_nil]
  simp only [stopOps, hs, Bool.not_false, Bool.and_false, List.filter_true]
  rw [hl]; exact State.setParked_self s

/-- A host that guests no pane of the departing owner is not touched (R89). -/
theorem departGuest_nil (h g : HostNo) (kind : Departure) (s : State) : departGuest h kind g [] s = s :=
  endWork_nil _ g s

/-! ## Fault reports (R136 to R139) -/

/-- The three ways a report is taken: merged, recorded, or counted as overflow. -/
theorem takeReport_cases (notes : List HostNo) (r : FaultRecord) (s : State) :
    (∃ i : Fin 16, ∃ q, s.faults.slots[i] = some q ∧ sameFault r q = true ∧
      takeReport notes r s = s.setFaults { s.faults with slots := s.faults.slots.set i (some (mergeFault q r)) }) ∨
    ((∀ i : Fin 16, ∀ q, s.faults.slots[i] = some q → sameFault r q = false) ∧
      ∃ i : Fin 16, s.faults.slots[i] = none ∧ (∀ j : Fin 16, j < i → s.faults.slots[j] ≠ none) ∧
        takeReport notes r s = postTo notes (.faultNote i r.kind)
          (s.setFaults { s.faults with slots := s.faults.slots.set i (some r) })) ∨
    ((∀ i : Fin 16, ∃ q, s.faults.slots[i] = some q ∧ sameFault r q = false) ∧ takeReport notes r s = countOverflow r s) := by
  unfold takeReport
  split
  · next i hi =>
    obtain ⟨ht, -⟩ := (allPanes_find?_some _ i).1 hi
    cases hq : s.faults.slots[i] with
    | none => rw [hq] at ht; simp at ht
    | some q => exact .inl ⟨i, q, hq, by simpa [hq] using ht, rfl⟩
  · next hn =>
    have hn' : ∀ i : Fin 16, ∀ q, s.faults.slots[i] = some q → sameFault r q = false := by
      intro i q hq
      have := (allPanes_find?_none _).1 hn i
      rw [hq] at this; simpa using this
    split
    · next i hi =>
      obtain ⟨ht, hl⟩ := (allPanes_find?_some _ i).1 hi
      exact .inr (.inl ⟨hn', i, by simpa using ht, fun j hj h => by simpa [h] using hl j hj, rfl⟩)
    · next hf =>
      refine .inr (.inr ⟨fun i => ?_, rfl⟩)
      have := (allPanes_find?_none _).1 hf i
      cases hc : s.faults.slots[i] with
      | none => rw [hc] at this; simp at this
      | some q => exact ⟨q, rfl, hn' i q hc⟩

/-- A report with its notes is a taken report. -/
theorem reportFault_eq (r : FaultRecord) (s : State) : reportFault r s = takeReport (noteHosts r) r s := rfl

/-- A report without a note changes no queue and no port (R151). -/
theorem reportUnnoted_eq (r : FaultRecord) (s : State) :
    reportUnnoted r s = { s with faults := (reportFault r s).faults, hosts := (reportFault r s).hosts } := by
  have hp : ∀ (hs : List HostNo) (e : Event) (u : State), (postTo hs e u).faults = u.faults ∧ (postTo hs e u).hosts = u.hosts := by
    intro hs e u
    exact ⟨(by simp), forEach_induct (fun t => t.hosts = u.hosts) _ (fun a t ht => by
      rw [← ht]; unfold postEvent; (repeat' split) <;> rfl) hs u rfl⟩
  unfold reportUnnoted reportFault takeReport
  cases hm : findSlot s.faults (fun c => c.any (sameFault r)) with
  | some i => rfl
  | none =>
    cases hf : findSlot s.faults (fun c => c.isNone) with
    | some i => simp only [(hp _ _ _).1, (hp _ _ _).2]; rfl
    | none => unfold countOverflow; cases r.host <;> rfl

/-- The overflow count of the named host, or of no host (R139). -/
theorem countOverflow_eq (r : FaultRecord) (s : State) :
    countOverflow r s = match r.host with
      | some h => s.setHost h { s.host h with overflow := min ((s.host h).overflow + 1) 255 }
      | none => s.setFaults { s.faults with hostless := min (s.faults.hostless + 1) 255 } := by
  unfold countOverflow; cases r.host <;> rfl

/-! ## The bytes of the serial links (R121, R123, R161) -/

/-- The two reply bytes the panel has, and any other, which is ignored (R161). -/
theorem panelByte_ack (s : State) : panelByte 0x06#8 s = panelAck s := rfl

theorem panelByte_nak (s : State) : panelByte 0x15#8 s = panelNak s := rfl

theorem panelByte_other (b : Byte) (s : State) (ha : b ≠ 0x06#8) (hn : b ≠ 0x15#8) : panelByte b s = s := by
  simp [panelByte, panelReplyOf, ha, hn]

/-- With no exchange served every byte shifted out is 00h (R123). -/
theorem hdoByte_none (s : State) (h : HostNo) (k : Nat) (hx : (s.port h).exchange = none) : hdoByte s h k = 0x00#8 := by
  simp [hdoByte, hx]

/-- An exchange shifts out its frame byte by byte, then 00h (R121). -/
theorem hdoByte_frame (s : State) (h : HostNo) (x : Exchange) (k : Nat) (hx : (s.port h).exchange = some x) :
    hdoByte s h k = if hk : k < x.frame.length then x.frame[k] else 0x00#8 := by
  simp only [hdoByte, hx, List.getD_eq_getElem?_getD]
  split
  · next hk => simp [hk]
  · next hk => simp [Nat.not_lt.1 hk]

/-! ## Admission of a request (R107, R111, R126) -/

theorem takeSlot_eq (h : HostNo) (s : State) : takeSlot h s = s.slotTaken h := rfl

theorem loadLease_eq (h : HostNo) (s : State) : loadLease h s = s.heard h := rfl

/-- An admitted request is given a slot and taken. -/
theorem request_admitted (h : HostNo) (k : Kind) (tag : Byte) (take : State → State) (s : State) (ha : s.admits h) :
    request h k tag true take s = take (s.slotTaken h) := by
  obtain ⟨hp, hr, ho, hs⟩ := ha
  simp [request, portServes, admitFrame, hp, hr, hs, Nat.not_le.2 ho, takeSlot_eq]

/-- A port that serves nothing takes no request. -/
theorem request_unserved (h : HostNo) (k : Kind) (tag : Byte) (ok : Bool) (take : State → State) (s : State)
    (hs : portServes s h = false) : request h k tag ok take s = s := by simp [request, hs]

/-- A served request frame: dropped, refused at its counts, refused without a slot, or taken. -/
theorem request_served (h : HostNo) (k : Kind) (tag : Byte) (ok : Bool) (take : State → State) (s : State)
    (hs : portServes s h = true) :
    request h k tag ok take s =
      if 24 ≤ outstanding s h then dropFrame h s
      else if ok = false then s.answered h (responseTo k tag .badRequest .empty)
      else if slotFree s h = false then s.answered h (responseTo k tag .noSlot .empty)
      else take (s.slotTaken h) := by
  cases ok <;> simp [request, admitFrame, hs, Config.hostCeiling, placeResponse_eq, responseTo, takeSlot_eq]
  (repeat' split) <;> simp_all

/-- The Host Table lets a request of an ACTIVE host through with its lease full. -/
theorem hostCheck_active (h : HostNo) (k : Kind) (tag : Byte) (take : State → State) (s : State)
    (ha : s.isActive h = true) : hostCheck h k tag take s = take (s.heard h) := by
  have : (s.host h).state = .active := by simpa [State.isActive] using ha
  simp [hostCheck, this, loadLease_eq]

/-- An admitted request of an ACTIVE host is taken with its slot and its lease full. -/
theorem request_speaks (h : HostNo) (k : Kind) (tag : Byte) (take : State → State) (s : State) (hs : s.speaks h) :
    request h k tag true (hostCheck h k tag take) s = take ((s.heard h).slotTaken h) := by
  rw [request_admitted _ _ _ _ _ hs.1, hostCheck_active]
  · rfl
  · simpa [State.slotTaken] using hs.2

/-- What a full lease leaves. -/
theorem heard_frame (h : HostNo) (s : State) :
    (∀ g, (s.heard h).port g = s.port g) ∧ (∀ g, (s.heard h).lane g = s.lane g) ∧ (∀ g, (s.heard h).queue g = s.queue g) ∧
    (∀ p, (s.heard h).pane p = s.pane p) ∧ (s.heard h).inRun = s.inRun ∧ (∀ g, (s.heard h).isActive g = s.isActive g) ∧
    (s.heard h).conf = s.conf ∧ (s.heard h).scan = s.scan ∧ (s.heard h).panel = s.panel ∧
    (s.heard h).faults = s.faults ∧ (s.heard h).store = s.store ∧ (s.heard h).arbiter = s.arbiter ∧
    (s.heard h).parked = s.parked ∧ (s.heard h).pending = s.pending := by
  have hr : (loadLease h s).inRun = s.inRun := rfl
  simp -implicitDefEqProofs [← loadLease_eq, hr]

/-! ## Pane checks (R15) -/

/-- A pane request in RUN that names pane `p`: the first failing check refuses it, otherwise it is taken. -/
theorem withPane_run (h : HostNo) (k : Kind) (tag : Byte) (p : PaneNo) (checks : PaneNo → List (Bool × Status))
    (take : PaneNo → State → State) (s : State) (hr : s.inRun = true) :
    withPane h k tag (byteOf p.val) checks take s =
      match firstFailing (checks p) with
      | some status => reply h k tag status .empty s
      | none => take p s := by
  have hp : paneOf (byteOf p.val) = some p := by
    revert p; decide
  simp only [withPane, namedPane, hr, hp]
  rfl

/-! ## The Panel Channel (R147) -/

/-- Starting the head transfer touches the Panel Channel alone. -/
theorem startTransfer_eq (s : State) : startTransfer s = s.setPanel (s.panelStarted s.panel) := by
  have same : s = s.setPanel s.panel := rfl
  unfold startTransfer State.panelStarted
  cases hi : s.panel.inFlight with
  | some f => exact same
  | none =>
    cases hf : s.panel.fifo with
    | nil => exact same
    | cons t rest =>
      dsimp only
      by_cases hc : s.scan.link = .up ∧ (t.synced = false ∨ s.inRun = false ∨ s.panel.blanking = true)
      · rw [if_pos hc, if_pos]
        obtain ⟨h1, h2⟩ := hc
        simp only [mayStart, h1]
        rcases h2 with h | h | h <;> simp [h]
      · rw [if_neg hc, if_neg]
        · exact same
        · intro hm
          apply hc
          simpa [mayStart, Bool.or_eq_true, or_assoc] using hm

/-! ## What follows at once (R66, R73) -/

theorem settle_setup (s : State) (h : s.inRun = false) : settle s = s := by simp [settle, h]

theorem settle_run (s : State) (h : s.inRun = true) : settle s = arbitrate 5 (startServices s) := by simp [settle, h]

/-- No lane whose queue is empty starts anything. -/
theorem startServices_idle (s : State) (h : ∀ g, (s.lane g).queued = []) : startServices s = s := by
  simp [startServices, forEach_allHosts, h, startHead]

/-- A busy store makes no grant decision. -/
theorem arbitrate_busy (n : Nat) (s : State) (h : s.arbiter.access.isSome = true) : arbitrate n s = s := by
  cases n <;> simp [arbitrate, h]

/-- An idle store: one decision. -/
theorem arbitrate_free (n : Nat) (s : State) (h : s.arbiter.access = none) :
    arbitrate (n + 1) s = match decision s with
      | none => s
      | some .latch => match s.scan.latch with
        | some l => grantSegment l s
        | none => s
      | some .write => match nextReady s with
        | some g => arbitrate n (serveHost g s)
        | none => s := by
  simp only [arbitrate, h]
  rfl

end Sys2Proof.Machine
end

