-- ==== Sys2Proof/Laws/Store.lean ====
section
/-! SUPPORT. The laws of the Cell Store: a read after a write gives the value written, every other place reads as before, and
every operation keeps the one form of the list. -/

set_option Elab.async false

namespace Sys2Proof.Machine

/-! ## One place -/

theorem lookupCell_insertCell (a b : Nat) (v : Cell) (m : List (Nat × Cell)) :
    lookupCell b (insertCell a v m) = if b = a then some v else lookupCell b m := by
  induction m with
  | nil => simp [insertCell, lookupCell]
  | cons x rest ih =>
    obtain ⟨c, w⟩ := x
    unfold insertCell
    split
    · simp [lookupCell]
    · split
      · next h => subst h; simp only [lookupCell]; split <;> rfl
      · next h =>
        simp only [lookupCell, ih]
        split
        · next hc => subst hc; simp [Ne.symm h]
        · rfl

theorem mem_insertCell (a : Nat) (v : Cell) (m : List (Nat × Cell)) (c : Nat × Cell) (h : c ∈ insertCell a v m) :
    c = (a, v) ∨ c ∈ m := by
  induction m with
  | nil => simpa [insertCell] using h
  | cons x rest ih =>
    obtain ⟨b, w⟩ := x
    unfold insertCell at h
    (repeat' split at h) <;> simp only [List.mem_cons] at h ⊢ <;> tauto

theorem insertCell_rising (a : Nat) (v : Cell) (m : List (Nat × Cell)) (h : (m.map Prod.fst).Pairwise (· < ·)) :
    ((insertCell a v m).map Prod.fst).Pairwise (· < ·) := by
  induction m with
  | nil => simp [insertCell]
  | cons x rest ih =>
    obtain ⟨b, w⟩ := x
    simp only [List.map_cons, List.pairwise_cons] at h
    unfold insertCell
    split
    · next hab =>
      simp only [List.map_cons, List.pairwise_cons, List.mem_cons]
      refine ⟨?_, h⟩
      rintro c (rfl | hc)
      · exact hab
      · exact Nat.lt_trans hab (h.1 c hc)
    · split
      · next hab => subst hab; simpa using h
      · next h1 h2 =>
        simp only [List.map_cons, List.pairwise_cons]
        refine ⟨fun c hc => ?_, ih h.2⟩
        obtain ⟨d, hd, rfl⟩ := List.mem_map.1 hc
        rcases mem_insertCell a v rest d hd with rfl | hd
        · simp only; omega
        · exact h.1 _ (List.mem_map_of_mem hd)

/-! ## A run of places -/

theorem lookupCell_storeFrom (cells : List Cell) (a b : Nat) (m : List (Nat × Cell)) :
    lookupCell b (storeFrom a cells m) =
      if a ≤ b ∧ b < a + cells.length then cells[b - a]? else lookupCell b m := by
  induction cells generalizing a m with
  | nil => simp [storeFrom]
  | cons c rest ih =>
    simp only [storeFrom, ih, lookupCell_insertCell, List.length_cons]
    rcases Nat.lt_trichotomy b a with h | h | h
    · rw [if_neg (by omega), if_neg (by omega), if_neg (by omega)]
    · subst h; simp
    · by_cases hb : b < a + (rest.length + 1)
      · rw [if_pos (by omega), if_pos (by omega), show b - a = (b - (a + 1)) + 1 by omega, List.getElem?_cons_succ]
      · rw [if_neg (by omega), if_neg (by omega), if_neg (by omega)]

theorem storeFrom_form (cells : List Cell) (a : Nat) (m : List (Nat × Cell)) (n : Nat)
    (h : (m.map Prod.fst).Pairwise (· < ·) ∧ ∀ c ∈ m, c.1 < n) (ha : a + cells.length ≤ n) :
    ((storeFrom a cells m).map Prod.fst).Pairwise (· < ·) ∧ ∀ c ∈ storeFrom a cells m, c.1 < n := by
  induction cells generalizing a m with
  | nil => exact h
  | cons c rest ih =>
    simp only [List.length_cons] at ha
    refine ih (a + 1) _ ⟨insertCell_rising a c m h.1, fun x hx => ?_⟩ (by omega)
    rcases mem_insertCell a c m x hx with rfl | hx
    · simp only; omega
    · exact h.2 x hx

/-! ## The store's operations -/

/-- A run lies in the banks when its line is one of 480 and its columns are among 800 (R2). -/
theorem runInStore_iff (line first n : Nat) : runInStore line first n = true ↔ line < 480 ∧ first + n ≤ 800 := by
  simp only [runInStore, Bool.and_eq_true, decide_eq_true_eq]; rfl

/-- A run inside the banks lies below the number of places (R2). -/
theorem placeOf_run_lt (bank : Bank) (line first n : Nat) (h : runInStore line first n = true) :
    placeOf bank first line + n ≤ Config.places := by
  rw [runInStore_iff] at h
  cases bank <;> simp only [placeOf, Config.bankCells, Config.columns, Config.places] <;> omega

/-- What a place reads as after a run was stored (R9). -/
theorem CellStore.read_writeRun (st : CellStore) (bank : Bank) (line first : Nat) (cells : List Cell)
    (h : runInStore line first cells.length = true) (a : Nat) :
    (st.writeRun bank line first cells).read a =
      if placeOf bank first line ≤ a ∧ a < placeOf bank first line + cells.length
      then (cells[a - placeOf bank first line]?).getD (Config.unknownCell st.powerOns a) else st.read a := by
  simp only [writeRun, h, if_true, read, lookupCell_storeFrom]
  split <;> rfl

/-- A cell of a stored run reads as the cell stored (R9). -/
theorem CellStore.read_writeRun_same (st : CellStore) (bank : Bank) (line first : Nat) (cells : List Cell)
    (h : runInStore line first cells.length = true) (i : Nat) (c : Cell) (hc : cells[i]? = some c) :
    (st.writeRun bank line first cells).read (placeOf bank first line + i) = c := by
  have hi : i < cells.length := (List.getElem?_eq_some_iff.1 hc).1
  rw [read_writeRun _ _ _ _ _ h, if_pos ⟨by omega, by omega⟩]
  simp [hc]

/-- A place outside a stored run reads as before (R9). -/
theorem CellStore.read_writeRun_other (st : CellStore) (bank : Bank) (line first : Nat) (cells : List Cell) (a : Nat)
    (ha : ¬(placeOf bank first line ≤ a ∧ a < placeOf bank first line + cells.length)) :
    (st.writeRun bank line first cells).read a = st.read a := by
  by_cases h : runInStore line first cells.length = true
  · rw [read_writeRun _ _ _ _ _ h, if_neg ha]
  · simp [writeRun, h]

/-- The count of power-ons is no cell: a stored run leaves it. -/
@[simp] theorem CellStore.powerOns_writeRun (st : CellStore) (bank : Bank) (line first : Nat) (cells : List Cell) :
    (st.writeRun bank line first cells).powerOns = st.powerOns := by
  unfold writeRun; split <;> rfl

/-- Storing a run keeps the list's one form. -/
theorem CellStore.wf_writeRun (st : CellStore) (bank : Bank) (line first : Nat) (cells : List Cell) (h : st.wf) :
    (st.writeRun bank line first cells).wf := by
  unfold writeRun
  split
  · next hr => exact storeFrom_form cells _ _ _ h (placeOf_run_lt bank line first _ hr)
  · exact h

/-- What a part reset leaves keeps the form (R11). -/
theorem wf_resetStore (cause : Cause) (s : State) (h : s.store.wf) : (resetStore cause s).wf := by
  unfold resetStore
  split
  · simp [CellStore.wf]
  · exact CellStore.wf_writeRun _ _ _ _ _ h
  · exact h

/-- The store right after power-on has the form. -/
theorem wf_store_reset : State.reset.store.wf := by simp [State.reset, CellStore.wf]

/-- A run read has one cell for each column (R10). -/
@[simp] theorem CellStore.length_readRun (st : CellStore) (bank : Bank) (line first n : Nat) :
    (st.readRun bank line first n).length = n := by simp [readRun]

end Sys2Proof.Machine
end

