-- ==== Sys2Proof/Tests/Slice0.lean ====
section
/-! SUPPORT. The model's own tests: ill-formed commands refused, frames written out from Chapter 12, one step for each command
with the result the manual's text, tables or worked examples give, and the witnesses of the statements. -/

set_option Elab.async false

namespace Sys2Proof.Tests
open Sys2Proof.Machine

/-! ## Helpers -/

/-- A test on the next state. -/
def after (o : Host.Outcome State Fault Refusal) (f : State → Bool) : Bool :=
  match o with
  | .next t => f t
  | _ => false

/-- The state after a command that answers one. -/
def then_ (o : Host.Outcome State Fault Refusal) (s : State) : State :=
  match o with
  | .next t => t
  | _ => s

/-- RUN with the reset values of the fields, every host ACTIVE with 8 reserved slots, no budget and a lease of 20,000,000 ticks,
the link UP and nothing in flight. -/
def runState : State :=
  { State.reset with
    hosts := .replicate 4 { HostRecord.reset with state := .active, lease := 20000000, reserved := 8 }
    ports := .replicate 4 { Port.reset true with resetSeen := false }
    scan := { Scan.reset .up with emitter := .sending, timer := 4000 }
    arbiter := { Arbiter.reset with urgency := .normal }
    conf := { ConfigBlock.reset .power with part := .run } }

/-- A LIVE pane. -/
def livePane (owner : HostNo) (r : Rect) (m : PaneModes) : Pane :=
  ⟨.live, some owner, none, none, some r, none, some m, none, none, 0⟩

def direct (p : Policy) : PaneModes := ⟨.direct, .a, p, .keep⟩
def double : PaneModes := ⟨.double, .b, .defer, .keep⟩

/-- A CELL_WRITE of `n` cells equal to `c`. -/
def writeOf (tag pane : Byte) (px py n : Nat) (c : Cell) : CellOp := ⟨tag, pane, .write px py (.replicate n c)⟩

/-- A record of an operation in service that has made its first access. -/
def inService (op : CellOp) (p : PaneNo) (area : Rect) (a : AccessState) : Service :=
  ⟨op, p, area, area.y, area.x, a, 0, none, []⟩

def red : Cell := ⟨63, 0, 0⟩

/-! ## Well-formedness -/

theorem test_wf_claim : (Instr.paneClaim 0 1 ⟨65536, 0, 1, 1⟩ 0 0 0).wellFormed = false := by decide +kernel
theorem test_wf_stage : (Instr.paneStage 0 1 0 0 ⟨0, 0, 1, 65536⟩).wellFormed = false := by decide +kernel
theorem test_wf_write_empty : (Instr.cellWrite 0 1 0 0 0 []).wellFormed = false := by decide +kernel
theorem test_wf_write_long : (Instr.cellWrite 0 1 0 0 0 (.replicate 65 ⟨0, 0, 0⟩)).wellFormed = false := by decide +kernel
theorem test_wf_write_far : (Instr.cellWrite 0 1 0 65536 0 [⟨0, 0, 0⟩]).wellFormed = false := by decide +kernel
theorem test_wf_fill_flat : (Instr.cellFill 0 1 0 ⟨0, 0, 4, 0⟩ ⟨0, 0, 0⟩).wellFormed = false := by decide +kernel
theorem test_wf_read_none : (Instr.cellRead 0 1 0 0 0 0 0).wellFormed = false := by decide +kernel
theorem test_wf_clear_overflow : (Instr.faultClear 0 1 0xFF#8).wellFormed = false := by decide +kernel
theorem test_wf_panel_long : (Instr.panelSend 0 1 2 0 (.replicate 9 0)).wellFormed = false := by decide +kernel
theorem test_wf_write_64 : (Instr.cellWrite 0 1 0 0 0 (.replicate 64 ⟨0, 0, 0⟩)).wellFormed = true := by decide +kernel

/-! ## Frames (Chapter 12) -/

/-- R160's own example: ATTACH with tag 05h has the check byte C4h. -/
theorem test_crc_example : crc8 [0x01, 0x05, 0x00, 0x00, 0x00, 0x00] = 0xC4#8 := by decide +kernel

theorem test_frame_attach :
    examine 2 [0x01, 0x05, 0x00, 0x00, 0x00, 0x00, 0xC4] = .request (.attach 2 0x05) := by decide +kernel

/-- DETACH, selector 01h ORPHAN, with bytes after the frame. -/
theorem test_frame_detach :
    examine 1 ([0x02, 0x11, 0x00, 0x01, 0x00, 0x00] ++ [crc8 [0x02, 0x11, 0x00, 0x01, 0x00, 0x00], 0xAA]) =
      .request (.detach 1 0x11 0x01) := by decide +kernel

/-- CONFIG_SET of FRAME_WIDTH to 0140h. -/
theorem test_frame_config :
    examine 0 ([0x10, 0x07, 0x00, 0x01, 0x01, 0x40] ++ [crc8 [0x10, 0x07, 0x00, 0x01, 0x01, 0x40]]) =
      .request (.configSet 0 0x07 0x01 0x0140 none) := by decide +kernel

/-- PANE_CLAIM of (400, 0, 400, 480), DIRECT, PASS, BLANK: 11 payload bytes. -/
def claimBytes : List Byte :=
  [0x20, 0x02, 0x0B, 0x00, 0x00, 0x00, 0x01, 0x90, 0x00, 0x00, 0x01, 0x90, 0x01, 0xE0, 0x00, 0x00, 0x01]

theorem test_frame_claim :
    examine 1 (claimBytes ++ [crc8 claimBytes]) =
      .request (.paneClaim 1 0x02 ⟨400, 0, 400, 480⟩ 0x00 0x00 0x01) := by decide +kernel

/-- CELL_WRITE of two cells at (2, 258). -/
def writeBytes : List Byte :=
  [0x30, 0x09, 0x0B, 0x04, 0x00, 0x00, 0x00, 0x02, 0x01, 0x02, 0x02, 0x3F, 0x00, 0x01, 0x02, 0x03, 0x04]

theorem test_frame_write :
    examine 0 (writeBytes ++ [crc8 writeBytes]) =
      .request (.cellWrite 0 0x09 0x04 2 258 [⟨0x3F, 0x00, 0x01⟩, ⟨0x02, 0x03, 0x04⟩]) := by decide +kernel

/-- FAULT_CLEAR with selector FFh names OVERFLOW. -/
theorem test_frame_overflow :
    examine 3 ([0x41, 0x01, 0x00, 0xFF, 0x00, 0x00] ++ [crc8 [0x41, 0x01, 0x00, 0xFF, 0x00, 0x00]]) =
      .request (.faultClearOverflow 3 0x01) := by decide +kernel

/-- PANEL_SEND, address 12h in the high byte of the argument, SYNCED, two data bytes behind their count. -/
theorem test_frame_panel :
    examine 0 ([0x50, 0x03, 0x03, 0x00, 0x12, 0x01, 0x02, 0xAB, 0xCD] ++
        [crc8 [0x50, 0x03, 0x03, 0x00, 0x12, 0x01, 0x02, 0xAB, 0xCD]]) =
      .request (.panelSend 0 0x03 0x12 0x01 [0xAB, 0xCD]) := by decide +kernel

theorem test_frame_short : examine 0 [0x01, 0x05, 0x00] = .badRequest 0x01 0x05 := by decide +kernel
theorem test_frame_check : examine 0 [0x01, 0x05, 0x00, 0x00, 0x00, 0x00, 0xC5] = .badCheck 0x01 0x05 := by decide +kernel
theorem test_frame_kind :
    examine 0 ([0x04, 0x05, 0x00, 0x00, 0x00, 0x00] ++ [crc8 [0x04, 0x05, 0x00, 0x00, 0x00, 0x00]]) =
      .badRequest 0x04 0x05 := by decide +kernel
/-- Table 12-3: a STATUS carries no payload; a CELL_WRITE of 1 cell carries 8 bytes. -/
theorem test_frame_payload :
    examine 0 ([0x03, 0x05, 0x01, 0x00, 0x00, 0x00, 0xAA] ++ [crc8 [0x03, 0x05, 0x01, 0x00, 0x00, 0x00, 0xAA]]) =
      .badRequest 0x03 0x05 ∧ ¬payloadAllowed .status [0xAA] ∧ payloadAllowed .status [] ∧
    ¬payloadAllowed .cellWrite [0, 0, 0, 0, 2, 1, 2, 3] ∧ payloadAllowed .cellWrite [0, 0, 0, 0, 1, 1, 2, 3] ∧
    ¬payloadAllowed .cellWrite [0, 0, 0, 0, 0] := by
  refine ⟨by decide +kernel, ?_⟩; simp [payloadAllowed]
theorem test_table_word : decodeTableWord 8 1 = none := rfl

/-! ## Hosts -/

/-- R108: the first ATTACH after a reset. -/
theorem test_attach :
    after (exec (.attach 1 5) State.reset) (fun t =>
      t.isActive 1 && (t.port 1).resetSeen = false && (t.host 1).lease = 20000000 &&
      (t.port 1).responses = [⟨0x01, 5, .ok, .attach 1 .absent 8 50 .setup⟩] && (t.port 1).attention &&
      (t.port 1).slots = 0) = true := by decide +kernel

/-- R107: a request of an ABSENT host. -/
theorem test_not_attached :
    after (exec (.eventFetch 1 9) State.reset) (fun t =>
      (t.port 1).responses = [⟨0x42, 9, .notAttached, .empty⟩]) = true := by decide +kernel

/-- R116: DETACH(ORPHAN) orphans a LIVE pane and counts it. -/
theorem test_detach :
    after (exec (.detach 1 7 0x01) (runState.setPane 1 (livePane 1 ⟨400, 0, 400, 480⟩ (direct .pass)))) (fun t =>
      (t.pane 1).state = .orphaned && (t.pane 1).former = some 1 && (t.host 1).state = .absent &&
      (t.port 1).responses = [⟨0x02, 7, .ok, .detach .orphan 0 1 0⟩] &&
      (t.queue 0).events = [.orphanNotice 1 1 .detach] && (t.queue 1).events = []) = true := by decide +kernel

/-- R110: STATUS from an ABSENT host; the request's own slot is in use. -/
theorem test_status :
    after (exec (.status 2 3) State.reset) (fun t =>
      (t.port 2).responses = [⟨0x03, 3, .ok, .status
        ⟨.setup, .power, 0, 0, .panic, .absent, 0, 1, 8, 0, .down, .idle, 0, false⟩⟩]) = true := by decide +kernel

/-- R112. -/
theorem test_lease_warn :
    after (exec (.leaseWarn 1) runState) (fun t =>
      (t.host 1).warned && (t.queue 1).events = [.leaseWarn 0] && (t.port 1).attention) = true := by decide +kernel

/-- Chapter 2's worked example, event 7: host 1's lease expires while it owns pane 1 with guest 2; host 3 is ABSENT. -/
def raceState : State :=
  ((runState.setHost 3 HostRecord.reset).setPane 0
    { livePane 0 ⟨0, 0, 400, 240⟩ double with staged := some ⟨0, 0, 400, 480⟩ }).setPane 1
    { livePane 1 ⟨400, 0, 400, 480⟩ ⟨.direct, .a, .pass, .blank⟩ with guest := some 2 }

theorem test_lease_expiry :
    after (exec (.leaseExpiry 1) raceState) (fun t =>
      (t.pane 1).state = .orphaned && (t.pane 1).former = some 1 && (t.pane 1).guest = none &&
      (t.host 1).state = .lapsed && (t.port 1).lapsedSeen &&
      (t.queue 0).events = [.faultNote 0 .leaseLapse, .orphanNotice 1 1 .lapse] &&
      (t.queue 2).events = [.faultNote 0 .leaseLapse, .guestRevoked 1 1 .orphaned, .orphanNotice 1 1 .lapse] &&
      (t.queue 3).events = [] && t.faults.slots[0] = some ⟨.leaseLapse, some 1, none, none, 0, 0, 1⟩) = true := by
  decide +kernel

/-- R115, R26: an abrupt departure frees a PENDING pane. -/
theorem test_present_deasserted :
    after (exec (.hostPresentDeasserted 1)
        (runState.setPane 4 ⟨.pending, some 1, none, none, none, some ⟨0, 0, 8, 8⟩, some double, none, none, 7⟩)) (fun t =>
      t.pane 4 = .free 7 && (t.host 1).state = .absent && (t.port 1).present = false &&
      (t.port 1).lapsedSeen = false) = true := by decide +kernel

/-- R115: an assertion changes no host state. -/
theorem test_present_asserted :
    after (exec (.hostPresentAsserted 1) (runState.setPort 1 (Port.reset false))) (fun t =>
      (t.port 1).present && t.isActive 1) = true := by decide +kernel

/-! ## Configuration -/

/-- SETUP with host 0 ACTIVE. -/
def setupState : State := State.reset.setHost 0 { HostRecord.reset with state := .active, lease := 20000000 }

theorem test_config_set :
    after (exec (.configSet 0 1 0x01 320 none) setupState) (fun t =>
      t.conf.settings.frameWidth = 320 && t.conf.writers[(0 : Fin 19)] = some 0 &&
      (t.port 0).responses = [⟨0x10, 1, .ok, .config 0x01 (.number 320) (some 0)⟩]) = true := by decide +kernel

/-- 328 is no multiple of 16. -/
theorem test_config_range :
    after (exec (.configSet 0 1 0x01 328 none) setupState) (fun t =>
      t.conf.settings.frameWidth = 800 && (t.port 0).responses = [⟨0x10, 1, .range, .empty⟩]) = true := by
  decide +kernel

/-- The field numbers 0Ah to 0Dh are RESERVED_SLOTS_0 to 3, with reset value 8; 12h is PANEL_TIMEOUT, reset value 20. -/
theorem test_config_get :
    after (exec (.configGet 0 1 0x0D) setupState) (fun t =>
      (t.port 0).responses = [⟨0x11, 1, .ok, .config 0x0D (.number 8) none⟩]) = true ∧
    after (exec (.configGet 0 1 0x12) setupState) (fun t =>
      (t.port 0).responses = [⟨0x11, 1, .ok, .config 0x12 (.number 20) none⟩]) = true := by decide +kernel

/-- R155: START latches line 0 of frame 0 at once; the first mark is four periods of 1,000 ticks ahead. -/
theorem test_start :
    after (exec (.start 0 1) setupState) (fun t =>
      t.inRun && t.scan.latch = some ⟨0, 0, 0, [], false, 0⟩ && t.scan.timer = 4000 && t.scan.mark = none &&
      t.arbiter.lastGrant = .latch && (t.host 2).reserved = 8) = true := by decide +kernel

/-- LINE_PERIOD 863 is below 800 + 64. -/
theorem test_start_invalid :
    after (exec (.start 0 1)
        (setupState.setConf { setupState.conf with settings := { Settings.reset with linePeriod := 863 } })) (fun t =>
      t.inRun = false && (t.port 0).responses = [⟨0x12, 1, .configInvalid, .configInvalid 0x04⟩]) = true := by
  decide +kernel

/-- R156: the vote opens and the three other ACTIVE hosts are told. -/
theorem test_reset_vote :
    after (exec (.resetVote 2 1) runState) (fun t =>
      t.conf.vote = .opened && t.conf.window = 20000000 && (t.host 2).vote && (t.queue 2).events = [] &&
      (t.queue 3).events = [.voteOpened 0 2] && (t.port 2).responses = [⟨0x13, 1, .accepted, .empty⟩]) = true := by
  decide +kernel

/-- R157: the last ACTIVE host's vote resets the part. -/
theorem test_reset_vote_unanimous :
    after (exec (.resetVote 0 1) (setupState.setConf { setupState.conf with part := .run })) (fun t =>
      t.inRun = false && t.conf.cause = .vote && (t.port 0).responses = []) = true := by decide +kernel

/-- R158. -/
theorem test_window_expiry :
    after (exec .windowExpiry
        ((runState.setConf { runState.conf with vote := .opened, window := 5 }).setHost 2
          { runState.host 2 with vote := true })) (fun t =>
      t.conf.vote = .idle && t.conf.window = 0 && (t.host 2).vote = false && (t.queue 2).events = [.voteFailed 0] &&
      (t.queue 1).events = []) = true := by decide +kernel

/-- R159. -/
theorem test_power_on :
    after (exec .powerOn raceState) (fun t =>
      t.inRun = false && t.conf.cause = .power && (t.pane 1).state = .free && t.store.powerOns = 1 &&
      t.scan.link = .up) = true := by decide +kernel

theorem test_reset_pin :
    after (exec .resetPin (raceState.setStore ⟨[(5, red)], 0⟩)) (fun t =>
      t.conf.cause = .pin && t.resetPin && t.store.cells = [(5, red)] && (t.port 0).resetSeen) = true := by
  decide +kernel

theorem test_reset_pin_release :
    after (exec .resetPinRelease (State.reset.setResetPin true)) (fun t => t = State.reset) = true := by decide +kernel

/-! ## Panes: Chapter 2's worked example -/

/-- Event 5: the claim overlaps pane 0's staged rectangle. -/
theorem test_claim_overlap :
    after (exec (.paneClaim 2 6 ⟨0, 300, 200, 100⟩ 0x00 0x02 0x00) raceState) (fun t =>
      (t.port 2).responses = [⟨0x20, 6, .overlap, .empty⟩] && (t.pane 2).state = .free) = true := by decide +kernel

/-- Events 1 and 2. -/
theorem test_claim :
    after (exec (.paneClaim 1 6 ⟨400, 0, 400, 480⟩ 0x00 0x00 0x01)
        (runState.setPane 0 ⟨.pending, some 0, none, none, none, some ⟨0, 0, 400, 240⟩, some double, none, none, 0⟩)) (fun t =>
      (t.port 1).responses = [⟨0x20, 6, .ok, .claimed 1⟩] &&
      t.pane 1 = ⟨.pending, some 1, none, none, none, some ⟨400, 0, 400, 480⟩, some ⟨.direct, .a, .pass, .blank⟩, none,
        none, 0⟩) = true := by decide +kernel

/-- Event 4. -/
theorem test_stage :
    after (exec (.paneStage 0 6 0 0 ⟨0, 0, 400, 480⟩)
        (raceState.setPane 0 (livePane 0 ⟨0, 0, 400, 240⟩ double))) (fun t =>
      (t.pane 0).staged = some ⟨0, 0, 400, 480⟩ && (t.pane 0).current = some ⟨0, 0, 400, 240⟩ &&
      (t.port 0).responses = [⟨0x21, 6, .ok, .empty⟩]) = true := by decide +kernel

/-- Event 6. -/
theorem test_guest :
    after (exec (.paneGuest 1 6 1 2)
        (raceState.setPane 1 (livePane 1 ⟨400, 0, 400, 480⟩ (direct .pass)))) (fun t =>
      (t.pane 1).guest = some 2 && (t.queue 2).events = [.guestGranted 1 1]) = true := by decide +kernel

/-- R39: the ticket, which wraps after FFFFh (R34). -/
theorem test_commit :
    after (exec (.paneCommit 0 6 0) (raceState.setHost 0 { raceState.host 0 with tickets := 0xFFFF })) (fun t =>
      (t.pane 0).commit = some 0xFFFF && (t.host 0).tickets = 0 &&
      (t.port 0).responses = [⟨0x23, 6, .accepted, .ticket 0xFFFF⟩]) = true := by decide +kernel

/-- Event 8: host 2 adopts pane 1, and host 0's adoption is then refused. -/
def orphanState : State :=
  raceState.setPane 1 ⟨.orphaned, none, some 1, none, some ⟨400, 0, 400, 480⟩, none, some ⟨.direct, .a, .pass, .blank⟩,
    none, none, 0⟩

theorem test_adopt :
    after (exec (.paneAdopt 2 6 1) orphanState) (fun t =>
      (t.pane 1).state = .live && (t.pane 1).owner = some 2 && (t.pane 1).former = none &&
      (t.port 2).responses = [⟨0x25, 6, .ok, .adopted .direct .a ⟨400, 0, 400, 480⟩⟩]) = true := by decide +kernel

theorem test_adopt_refused :
    after (exec (.paneAdopt 0 6 1) raceState) (fun t =>
      (t.port 0).responses = [⟨0x25, 6, .notOrphaned, .empty⟩]) = true := by decide +kernel

/-- R32 and Table 12-9: 30 bytes; an ORPHANED pane's owner byte is the former owner. -/
theorem test_query :
    after (exec (.paneQuery 3 6 1) (orphanState.setHost 3 (runState.host 3))) (fun t =>
      (t.port 3).responses.map (fun r => payloadBytes r.payload) =
        [[0x01, 0x04, 0x01, 0xFF, 0x01, 0x90, 0x00, 0x00, 0x01, 0x90, 0x01, 0xE0, 0xFF, 0xFF, 0xFF, 0xFF, 0xFF, 0xFF, 0xFF,
          0xFF, 0x00, 0x00, 0x00, 0x01, 0x00, 0xFF, 0xFF, 0xFF, 0xFF, 0x00]]) = true := by decide +kernel

/-- Chapter 5's worked example, event 7: a release overtakes a fill whose run is in progress. -/
def fillState : State :=
  let fill : CellOp := ⟨30, 4, .fill ⟨0, 0, 150, 4⟩ ⟨0, 40, 0⟩⟩
  let f : Service := ⟨fill, 4, ⟨96, 300, 150, 4⟩, 303, 160, .inProgress, 514, none, []⟩
  let own : Pane := { livePane 2 ⟨96, 300, 150, 4⟩ (direct .pass) with guest := some 3, held := some (.commit 31 1) }
  (((((runState.setPane 4 own).setPane 5 (livePane 2 ⟨0, 0, 8, 8⟩ (direct .pass))).setLane 2
    ⟨some f, [writeOf 32 4 0 0 1 red, ⟨33, 5, .read 0 0 1 0⟩]⟩).setLane 3
    ⟨none, [writeOf 40 4 0 0 1 red]⟩).setPort 2 { runState.port 2 with slots := 4 }).setArbiter
    { runState.arbiter with access := some (.write true 2 .a 303 160 (.replicate 64 ⟨0, 40, 0⟩) none) }

theorem test_release :
    after (exec (.paneRelease 2 34 4) fillState) (fun t =>
      (t.pane 4).state = .retiring && (t.pane 4).guest = none && (t.queue 3).events = [.guestRevoked 4 2 .released] &&
      (t.port 2).responses = [⟨0x23, 31, .cancelled, .empty⟩, ⟨0x30, 32, .cancelled, .count 0⟩,
        ⟨0x24, 34, .ok, .released none⟩] &&
      (t.port 3).responses = [⟨0x30, 40, .cancelled, .count 0⟩] && (t.lane 2).queued = [⟨33, 5, .read 0 0 1 0⟩] &&
      (t.lane 2).service.any (fun v => v.stop = some .cancelled)) = true := by decide +kernel

/-- The run in progress then completes, and F is answered with 514 + 64 cells. -/
theorem test_release_then_completion :
    after (exec .writeAccessComplete (then_ (exec (.paneRelease 2 34 4) fillState) runState)) (fun t =>
      (t.port 2).responses.getLast? = some ⟨0x31, 30, .cancelled, .count 578⟩) = true := by decide +kernel

/-! ## Cells and the scan -/

/-- Chapter 1's worked example: segment 6 of line 100 has columns 192 to 199 from bank A and the rest BACKDROP. -/
def lineState : State :=
  ((((runState.setConf { runState.conf with settings := { Settings.reset with backdrop := ⟨0, 0, 8⟩ } }).setPane 2
    (livePane 0 ⟨0, 80, 200, 120⟩ (direct .pass))).setPane 5
    (livePane 1 ⟨400, 50, 300, 100⟩ ⟨.double, .b, .pass, .blank⟩)).setPane 7
    ⟨.orphaned, none, some 2, none, some ⟨200, 100, 100, 10⟩, none, some ⟨.direct, .a, .pass, .blank⟩, none, none, 0⟩).setStore
    ⟨[(80199, red), (80200, red), (464400, red)], 0⟩

theorem test_segment_six :
    (composeSegment lineState 100 6)[7]? = some red ∧ (composeSegment lineState 100 6)[8]? = some ⟨0, 0, 8⟩ ∧
    (composeSegment lineState 100 6).length = 32 := by decide +kernel

/-- Segment 12: columns 384 to 399 BACKDROP, column 400 from bank B. -/
theorem test_segment_twelve :
    (composeSegment lineState 100 12)[15]? = some ⟨0, 0, 8⟩ ∧ (composeSegment lineState 100 12)[16]? = some red := by
  decide +kernel

/-- The sequence of Chapter 6: segment 6 of (57, 120) completes. -/
def conflictState : State :=
  let a0 := writeOf 10 3 0 20 64 red
  let a1 := writeOf 11 8 0 10 32 red
  let a2 := writeOf 12 8 32 10 32 red
  let a3 := writeOf 13 9 0 0 64 red
  let s := ((runState.setPane 3 (livePane 0 ⟨200, 100, 160, 60⟩ (direct .defer))).setPane 8
    (livePane 1 ⟨400, 110, 200, 30⟩ (direct .relatch))).setPane 9
    { livePane 2 ⟨0, 120, 100, 10⟩ (direct .pass) with tears := 4 }
  let s := ((s.setLane 0 ⟨some (inService a0 3 ⟨200, 120, 64, 1⟩ .offered), []⟩).setLane 1
    ⟨some (inService a1 8 ⟨400, 120, 32, 1⟩ .offered), [a2]⟩).setLane 2
    ⟨some (inService a3 9 ⟨0, 120, 64, 1⟩ .offered), []⟩
  let s := s.setConf { s.conf with settings := { Settings.reset with relatchLimit := 1 } }
  let s := s.setScan { s.scan with
    latch := some ⟨57, 120, 6, .replicate 6 (.replicate 32 ⟨0, 0, 0⟩), false, 0⟩, frame := 57, cursorFrame := 57,
    cursorLine := 120, queue := [⟨57, 117, false, []⟩, ⟨57, 118, false, []⟩, ⟨57, 119, false, []⟩] }
  s.setArbiter { s.arbiter with
    urgency := .normal, lastGrant := .latch, rotation := 3,
    access := some (.segment true 120 192 (.replicate 32 ⟨0, 0, 0⟩)) }

/-- Decisions 1 and 2: A0 is parked and A1 granted with a restart. -/
theorem test_segment_read :
    after (exec .segmentReadComplete conflictState) (fun t =>
      t.parked = [⟨0, 3, 120, 200, .replicate 64 red, 0x30, 10⟩] && t.arbiter.rotation = 1 &&
      t.arbiter.lastGrant = .write &&
      t.arbiter.access = some (.write true 1 .a 120 400 (.replicate 32 red) (some (57, 120))) &&
      t.scan.latch.any (fun l => l.segment = 7 && l.torn = false) && (t.host 0).cells = 0) = true := by decide +kernel

/-- Table 6-6, the completion of A1, and decision 3. -/
theorem test_write_complete :
    after (exec .writeAccessComplete (then_ (exec .segmentReadComplete conflictState) runState)) (fun t =>
      t.scan.latch = some ⟨57, 120, 0, [], false, 1⟩ && (t.port 1).responses = [⟨0x30, 11, .ok, .count 32⟩] &&
      (t.lane 1).service.any (fun v => v.op.tag = 12 && v.access = .offered) &&
      t.store.cells.head? = some (96400, red) && t.store.cells.length = 32 &&
      t.arbiter.access.any (fun a => match a with | .segment _ _ first _ => first = 0 | _ => false)) = true := by
  decide +kernel

/-- R80: the cells of a read are those stored at its grant. -/
theorem test_read_complete :
    after (exec .readAccessComplete
        (((runState.setPane 4 (livePane 2 ⟨0, 0, 8, 8⟩ (direct .pass))).setLane 2
          ⟨some (inService ⟨5, 4, .read 0 0 1 0⟩ 4 ⟨0, 0, 1, 1⟩ .inProgress), []⟩).setArbiter
          { runState.arbiter with access := some (.read true 2 .a 0 0 [red]) })) (fun t =>
      (t.port 2).responses = [⟨0x32, 5, .ok, .cells [red]⟩] && (t.lane 2).service = none) = true := by decide +kernel

/-- R2: an access at line 480 has no place. -/
theorem test_outside_store :
    (match exec .writeAccessComplete (runState.setArbiter
        { runState.arbiter with access := some (.write false 0 .a 480 0 [red] none) }) with
      | .fault .outsideStore => true
      | _ => false) = true := by decide +kernel

/-- R1, R75: the low six bits of each channel; the pane's place in the frame; granted at once. -/
theorem test_cell_write :
    after (exec (.cellWrite 2 5 4 3 1 [⟨0xFF, 0x40, 0x41⟩])
        (runState.setPane 4 (livePane 2 ⟨96, 300, 150, 4⟩ (direct .pass)))) (fun t =>
      t.arbiter.access = some (.write true 2 .a 301 99 [⟨63, 0, 1⟩] none) && (t.host 2).cells = 1 &&
      (t.port 2).slots = 1) = true := by decide +kernel

/-- R79: the first run of a fill 150 wide has 64 cells. -/
theorem test_cell_fill :
    after (exec (.cellFill 2 5 4 ⟨0, 0, 150, 4⟩ ⟨0, 40, 0⟩)
        (runState.setPane 4 (livePane 2 ⟨96, 300, 150, 4⟩ (direct .pass)))) (fun t =>
      t.arbiter.access = some (.write true 2 .a 300 96 (.replicate 64 ⟨0, 40, 0⟩) none)) = true := by decide +kernel

/-- R5: BACK of a DOUBLE pane whose front bank is B is bank A; RANGE for a bank selector 02h. -/
theorem test_cell_read :
    after (exec (.cellRead 2 5 4 0 0 1 0x01)
        ((runState.setPane 4 (livePane 2 ⟨96, 300, 150, 4⟩ double)).setStore ⟨[(240096, red)], 0⟩)) (fun t =>
      t.arbiter.access = some (.read true 2 .a 300 96 [red])) = true ∧
    after (exec (.cellRead 2 5 4 0 0 1 0x02)
        (runState.setPane 4 (livePane 2 ⟨96, 300, 150, 4⟩ double))) (fun t =>
      (t.port 2).responses = [⟨0x32, 5, .range, .count 0⟩]) = true := by decide +kernel

/-- R59, R161: line 0 of frame 0 is sent as a FRAME and a LINE packet. -/
theorem test_line_mark :
    after (exec .lineMark (runState.setScan { runState.scan with
        queue := [⟨0, 0, true, [red]⟩], cursorLine := 1, latch := some ⟨0, 1, 0, [], false, 0⟩ })) (fun t =>
      t.scan.lane = [0x3F001, 0, 0x3F002, 0, 3, 0x3F000] && t.scan.queue = [] && t.scan.mark = some 0 &&
      t.scan.timer = 1000 && t.arbiter.urgency = .panic) = true := by decide +kernel

/-- R62: an underrun at mark 5 is recorded with line and frame. -/
theorem test_underrun :
    after (exec .lineMark (runState.setScan { runState.scan with mark := some 4, cursorLine := 5, queue := [] })) (fun t =>
      t.faults.slots[0] = some ⟨.underrun, none, none, some 5, 0, 0, 1⟩ && t.scan.cursorLine = 6 &&
      t.scan.lane.take 4 = [0x3F002, 5, 4, 0]) = true := by decide +kernel

theorem test_link_up :
    after (exec .linkUp (runState.setScan { runState.scan with link := .down, emitter := .silent })) (fun t =>
      t.scan.link = .up && t.scan.emitter = .resuming) = true := by decide +kernel

/-- R150: the transfer in flight ends with LINK_DOWN. -/
def panelState (phase : Phase) (attempts : Nat) : State :=
  (runState.setPanel ⟨[], some ⟨⟨1, 8, 0x12, [0xAB], false⟩, phase, attempts, false⟩, none, false⟩).setPort 1
    { runState.port 1 with slots := 1 }

theorem test_link_down :
    after (exec .linkDown (panelState .sending 2)) (fun t =>
      (t.port 1).responses = [⟨0x50, 8, .linkDown, .panel 0x12 2⟩] && t.panel.inFlight = none &&
      t.scan.emitter = .silent) = true := by decide +kernel

/-! ## Faults, events, panel -/

def faultState : State :=
  (runState.setFaults { runState.faults with
    slots := runState.faults.slots.set 3 (some ⟨.tear, some 2, some 9, some 120, 57, 58, 2⟩), hostless := 4 }).setHost 2
    { runState.host 2 with overflow := 6 }

theorem test_fault_read :
    after (exec (.faultRead 2 1 3) faultState) (fun t =>
      (t.port 2).responses = [⟨0x40, 1, .ok, .fault 3 ⟨.tear, some 2, some 9, some 120, 57, 58, 2⟩ 6 4⟩] &&
      (t.port 2).responses.map (fun r => payloadBytes r.payload) =
        [[0x03, 0x02, 0x02, 0x09, 0x00, 0x78, 0x00, 0x39, 0x00, 0x3A, 0x02, 0x06, 0x04]]) = true := by decide +kernel

theorem test_fault_clear :
    after (exec (.faultClear 1 1 3) faultState) (fun t =>
      (t.port 1).responses = [⟨0x41, 1, .notYours, .empty⟩] && t.faults.slots[3].isSome) = true ∧
    after (exec (.faultClear 2 1 3) faultState) (fun t => t.faults.slots[3] = none) = true := by decide +kernel

theorem test_fault_clear_overflow :
    after (exec (.faultClearOverflow 2 1) faultState) (fun t =>
      (t.port 2).responses = [⟨0x41, 1, .ok, .overflow 6 4⟩] && (t.host 2).overflow = 0 && t.faults.hostless = 0) = true := by
  decide +kernel

/-- R144: four of five events, the lost count zeroed. -/
theorem test_event_fetch :
    after (exec (.eventFetch 2 1) (runState.setQueue 2 ⟨.replicate 5 (.leaseWarn 7), 9⟩)) (fun t =>
      (t.port 2).responses = [⟨0x42, 1, .ok, .events (.replicate 4 (.leaseWarn 7)) 9 1⟩] &&
      t.queue 2 = ⟨[.leaseWarn 7], 0⟩) = true := by decide +kernel

/-- R147: a SYNCED transfer outside blanking waits in RUN. -/
theorem test_panel_send :
    after (exec (.panelSend 1 8 0x12 0x00 [0xAB]) runState) (fun t =>
      t.panel.inFlight.any (fun f => f.attempts = 1 && f.phase = .sending) &&
      controlLane t = [0x5A, 0x12, 0x01, 0xAB, crc8 [0x12, 0x01, 0xAB]] && (t.port 1).responses = []) = true ∧
    after (exec (.panelSend 1 8 0x12 0x01 [0xAB]) runState) (fun t =>
      t.panel.inFlight = none && t.panel.fifo.length = 1) = true := by decide +kernel

/-- R148: the reply timer runs 20 × 100 µs, 80,000 ticks. -/
theorem test_panel_send_end :
    after (exec .panelSendEnd (panelState .sending 1)) (fun t =>
      t.panel.timer = some 80000 && awaiting t) = true := by decide +kernel

theorem test_panel_ack :
    after (exec .panelAck (panelState .awaiting 1)) (fun t =>
      (t.port 1).responses = [⟨0x50, 8, .ok, .panel 0x12 1⟩] && (t.port 1).slots = 0) = true := by decide +kernel

/-- PANEL_RETRIES is 1: the first NAK sends again, the second ends. -/
theorem test_panel_nak :
    after (exec .panelNak (panelState .awaiting 1)) (fun t =>
      t.panel.inFlight.any (fun f => f.attempts = 2 && f.phase = .sending)) = true ∧
    after (exec .panelNak (panelState .awaiting 2)) (fun t =>
      (t.port 1).responses = [⟨0x50, 8, .panelNak, .panel 0x12 2⟩]) = true := by decide +kernel

theorem test_reply_timer_expiry :
    after (exec .replyTimerExpiry (panelState .awaiting 2)) (fun t =>
      (t.port 1).responses = [⟨0x50, 8, .panelTimeout, .panel 0x12 2⟩] &&
      t.faults.slots[0] = some ⟨.panelTimeout, some 1, none, none, 0, 0, 1⟩) = true := by decide +kernel

/-- R161: 06h is ACK, 15h is NAK, and any other byte is ignored. -/
theorem test_panel_byte : panelReplyOf 0x06 = some .ack ∧ panelReplyOf 0x15 = some .nak ∧ panelReplyOf 0x00 = none ∧
    panelByte 0x07 (panelState .awaiting 1) = panelState .awaiting 1 := by decide +kernel

/-- R151: the timeout of a discarded transfer is recorded with no note and no response, its host ACTIVE again or not. -/
def discardedState : State :=
  runState.setPanel ⟨[], some ⟨⟨1, 8, 0x12, [0xAB], false⟩, .awaiting, 2, true⟩, none, false⟩

theorem test_discarded_timeout :
    after (exec .replyTimerExpiry discardedState) (fun t =>
      t.faults.slots[0] = some ⟨.panelTimeout, some 1, none, none, 0, 0, 1⟩ && t.queue 1 = ⟨[], 0⟩ &&
      t.port 1 = discardedState.port 1) = true := by decide +kernel

/-! ## Ports: Chapter 8's worked sequence -/

/-- Host 1's port at the start of Table 8-3: 20 slots in use, three responses queued, and 10 shared slots of host 0. -/
def ceilingState : State :=
  let r : Response := ⟨0x30, 1, .ok, .count 1⟩
  ((runState.setPort 0 { runState.port 0 with slots := 18 }).setPort 3 { runState.port 3 with slots := 5 }).setPort 1
    { runState.port 1 with slots := 20, responses := [r, r, r], attention := true }

/-- Exchange 1: one credit; the frame of OK with a count of 1, the last bytes of its header being flags, events, credits. -/
theorem test_exchange_start :
    after (exec (.exchangeStart 1) ceilingState) (fun t =>
      (t.port 1).exchange.any (fun x => x.carries && x.queued && x.drop = false &&
        x.frame = [0x00, 0x03, 0x30, 0x01, 0x00, 0x00, 0x00, 0x01, 0x00, 0x00, 0x01] ++
          [crc8 [0x00, 0x03, 0x30, 0x01, 0x00, 0x00, 0x00, 0x01, 0x00, 0x00, 0x01]])) = true := by decide +kernel

/-- R121: the 12 bytes of the frame and then filler. R123: an exchange that starts, or goes on, with the line down shifts out
00h. -/
theorem test_exchange_bytes :
    after (exec (.exchangeStart 1) ceilingState) (fun t =>
      hdoBytes t 1 14 = [0x00, 0x03, 0x30, 0x01, 0x00, 0x00, 0x00, 0x01, 0x00, 0x00, 0x01,
        crc8 [0x00, 0x03, 0x30, 0x01, 0x00, 0x00, 0x00, 0x01, 0x00, 0x00, 0x01], 0x00, 0x00] &&
      after (exec (.hostPresentDeasserted 1) t) (fun u => hdoBytes u 1 14 = .replicate 14 0x00)) = true ∧
    after (exec (.exchangeStart 1) (ceilingState.setPort 1 { ceilingState.port 1 with present := false })) (fun t =>
      hdoBytes t 1 3 = [0x00, 0x00, 0x00]) = true := by decide +kernel

/-- Exchange 1 ends after its 12 bytes: R1 is removed. -/
theorem test_exchange_end :
    after (exec (.exchangeEnd 1 (.replicate 12 0)) (then_ (exec (.exchangeStart 1) ceilingState) runState)) (fun t =>
      (t.port 1).responses.length = 2 && (t.port 1).exchange = none) = true ∧
    after (exec (.exchangeEnd 1 (.replicate 11 0)) (then_ (exec (.exchangeStart 1) ceilingState) runState)) (fun t =>
      (t.port 1).responses.length = 3) = true := by decide +kernel

/-- At the sum of 24 a frame is dropped. -/
theorem test_ceiling :
    after (exec (.status 1 9) (ceilingState.setPort 1 { ceilingState.port 1 with slots := 21 })) (fun t =>
      (t.port 1).drop && (t.port 1).responses.length = 3 && (t.queue 1).events = [.faultNote 0 .droppedRequest] &&
      t.faults.slots[0] = some ⟨.droppedRequest, some 1, none, none, 0, 0, 1⟩) = true := by decide +kernel

/-- One tick in SETUP with nothing running changes nothing. -/
theorem test_tick : after (step State.reset) (fun t => t = State.reset) = true := by decide +kernel

theorem test_step :
    after (step (State.reset.setPending [.attach 1 5, .linkUp])) (fun t =>
      t.isActive 1 && t.pending = [.linkUp]) = true := by decide +kernel

/-! ## Witnesses: states and operands that meet the hypotheses of the statements, clause by clause -/

theorem speaks_of {s : State} {h : HostNo}
    (w : ((s.port h).present && !s.resetPin && decide (outstanding s h < 24) && slotFree s h && s.isActive h) = true) :
    s.speaks h := by
  simp only [Bool.and_eq_true, Bool.not_eq_true', decide_eq_true_eq] at w
  exact ⟨⟨w.1.1.1.1, w.1.1.1.2, w.1.1.2, w.1.2⟩, w.2⟩

theorem speaksInRun_of {s : State} {h : HostNo}
    (w : ((s.port h).present && !s.resetPin && decide (outstanding s h < 24) && slotFree s h && s.isActive h) = true)
    (r : s.inRun = true) : s.speaksInRun h := ⟨speaks_of w, r⟩

/-- `Pane.fieldsOk`, computed, for a pane that is LIVE or PENDING with nothing held, RETIRING, ORPHANED or FREE. -/
def fieldsB (q : Pane) : Bool :=
  decide (q.tears ≤ 255) && decide (q.held = none) && q.modes.all (fun m => m.buffering = .double || m.front = .a) &&
  match q.state with
  | .free => decide (q = .free q.tears)
  | .pending => q.owner.isSome && decide (q.former = none ∧ q.guest = none ∧ q.current = none) && q.staged.isSome &&
      q.modes.isSome
  | .live => q.owner.isSome && decide (q.former = none) && q.current.isSome && q.modes.isSome
  | .retiring => q.owner.isSome && decide (q.former = none ∧ q.guest = none ∧ q.staged = none ∧ q.commit = none) &&
      q.current.isSome && q.modes.isSome
  | .orphaned => decide (q.owner = none ∧ q.guest = none ∧ q.staged = none ∧ q.commit = none) && q.former.isSome &&
      q.current.isSome && q.modes.isSome

/-- `Pane.rightsOk`, computed. -/
def rightsB (s : State) (q : Pane) : Bool :=
  q.owner.all (fun h => q.state = .retiring || s.isActive h) && q.guest.all fun g => s.isActive g && q.owner ≠ some g

theorem fieldsOk_of {q : Pane} (w : fieldsB q = true) : q.fieldsOk := by
  obtain ⟨st, ow, fo, gu, cu, sg, mo, co, he, te⟩ := q
  simp only [fieldsB, Bool.and_eq_true, decide_eq_true_eq] at w
  obtain ⟨⟨⟨w1, w2⟩, w3⟩, w4⟩ := w
  refine ⟨w1, by simp_all, fun m hm hb => ?_, ?_⟩
  · simp only at hm; subst hm; simp_all
  · cases st <;> simp_all

theorem paneTableOk_of {s : State} (r : s.inRun = true)
    (w : (allPanes.all fun p => fieldsB (s.pane p) && rightsB s (s.pane p)) = true) : s.paneTableOk := by
  refine ⟨fun p => ?_, fun h => by simp [r] at h⟩
  have hp : (fieldsB (s.pane p) && rightsB s (s.pane p)) = true :=
    List.all_eq_true.mp w p (by fin_cases p <;> decide)
  rw [Bool.and_eq_true] at hp
  refine ⟨fieldsOk_of hp.1, fun h ho hr => ?_, fun g hg => ?_⟩
  · have := hp.2; simp [rightsB, ho, hr] at this; exact this.1
  · have := hp.2; simp [rightsB, hg] at this; exact this.2

theorem workOk_of {s : State}
    (w : (allHosts.all fun h => (s.lane h).service.all fun v => decide (v.op.pane.toNat = v.pane.val) &&
      decide (v.stop.isSome → v.access = .inProgress) && decide (v.stop = none →
        ((s.pane v.pane).owner = some h ∧ ((s.pane v.pane).state = .pending ∨ (s.pane v.pane).state = .live)) ∨
          ((s.pane v.pane).guest = some h ∧ (s.pane v.pane).state = .live))) = true) : s.workOk := by
  intro h v hv
  have := List.all_eq_true.mp w h (by fin_cases h <;> decide)
  simp only [hv, Option.all_some, Bool.and_eq_true, decide_eq_true_eq] at this
  exact ⟨this.1.1, this.1.2, this.2⟩

/-- `State.geometryOk`, computed, for a state in RUN with nothing held and no operation queued. -/
def geometryB (s : State) : Bool :=
  decide (64 ≤ s.conf.settings.frameWidth ∧ s.conf.settings.frameWidth ≤ 800 ∧ 32 ≤ s.conf.settings.frameHeight ∧
    s.conf.settings.frameHeight ≤ 480) && decide (s.scan.cursorLine < s.conf.settings.frameHeight) && accessInStore s &&
  (allPanes.all fun p => decide ((s.pane p).held = none) &&
    (s.pane p).rects.all fun r => rectValidIn r s.conf.settings.frameWidth s.conf.settings.frameHeight) &&
  (allHosts.all fun h => decide (s.lane h = ⟨none, []⟩)) && decide (s.scan.latch = none)

theorem geometryOk_of {s : State} (r : s.inRun = true) (w : geometryB s = true) : s.geometryOk := by
  simp only [geometryB, Bool.and_eq_true, decide_eq_true_eq] at w
  obtain ⟨⟨⟨⟨⟨w1, w2⟩, w3⟩, w4⟩, w5⟩, w6⟩ := w
  have lanes : ∀ h, s.lane h = ⟨none, []⟩ := fun h => by
    simpa using List.all_eq_true.mp w5 h (by fin_cases h <;> decide)
  have panes : ∀ p, (s.pane p).held = none ∧
      ∀ q ∈ (s.pane p).rects, rectValidIn q s.conf.settings.frameWidth s.conf.settings.frameHeight = true := fun p => by
    simpa using List.all_eq_true.mp w4 p (by fin_cases p <;> decide)
  refine ⟨w1, fun h => by simp [r] at h, fun p _ => ⟨(panes p).2, fun tag q hq => by simp [(panes p).1] at hq⟩,
    fun h v hv => by simp [lanes h] at hv, fun h op ho => by simp [lanes h] at ho, w2, fun l hl => by simp [w6] at hl, w3⟩

/-- RUN with pane 1 LIVE of host 1 with guest 2, pane 3 PENDING of host 1 and pane 2 RETIRING of host 1. -/
def ownedState : State :=
  ((runState.setPane 1 { livePane 1 ⟨400, 0, 400, 480⟩ (direct .pass) with guest := some 2, commit := some 9 }).setPane 3
    ⟨.pending, some 1, none, none, none, some ⟨0, 0, 8, 8⟩, some double, some 5, none, 0⟩).setPane 2
    { livePane 1 ⟨0, 8, 8, 8⟩ double with state := .retiring }

/-- The shared part of the pool is in use whole: 16 of hosts 0 and 2 each; host 1 uses its 8 reserved slots. -/
def fullPool : State :=
  ((runState.setPort 0 { runState.port 0 with slots := 24 }).setPort 2 { runState.port 2 with slots := 24 }).setPort 1
    { runState.port 1 with slots := 8 }

theorem witness_step : (State.reset.setPending [.linkUp]).pending = [.linkUp] := rfl

theorem witness_tick : State.reset.pending = [] ∧ State.reset.panel.timer = none ∧ State.reset.conf.vote = .idle ∧
    State.reset.inRun = false := by decide +kernel

/-- Every timer at the least value the statement allows. -/
def tickState : State :=
  ((((runState.setScan { runState.scan with timer := 2 }).setPanel { runState.panel with timer := some 2 }).setConf
    { runState.conf with vote := .opened, window := 2 }).setHost 0 { runState.host 0 with lease := 2, warned := true }).setHost 1
    { runState.host 1 with lease := 5000002 }

theorem witness_tick_running : tickState.pending = [] ∧ 2 ≤ tickState.conf.window ∧ 2 ≤ tickState.scan.timer ∧
    (∀ h, tickState.isActive h = true → 2 ≤ (tickState.host h).lease ∧
      ((tickState.host h).warned = true ∨ tickState.conf.settings.leasePeriod * 100000 < (tickState.host h).lease - 1)) ∧
    tickState.panel.timer = some 2 := by decide +kernel

/-- A tick at which the reply timer, the vote window, the leases of hosts 1 and 2 and the line timer come due. -/
def dueState : State :=
  ((((runState.setScan { runState.scan with timer := 1 }).setPanel
      { runState.panel with inFlight := some ⟨⟨0, 7, 2, [1], false⟩, .awaiting, 1, false⟩, timer := some 1 }).setConf
    { runState.conf with vote := .opened, window := 1 }).setHost 1 { runState.host 1 with lease := 1 }).setHost 2
    { runState.host 2 with lease := 5000001, vote := true }

/-- R148, R158, R113, R112, R51: the transfer is sent again, the vote fails, host 1 lapses, host 2 is warned, mark 0 falls. -/
theorem test_due_tick : dueState.pending = [] ∧ after (step dueState) (fun t =>
    t.panel.inFlight.any (fun f => f.phase = .sending && f.attempts = 2) && t.panel.timer = none &&
    t.conf.vote = .idle && (t.host 1).state = .lapsed && (t.host 2).warned && t.scan.mark = some 0 &&
    t.scan.timer = 1000 && ((t.queue 2).events.take 3) =
      [.voteFailed 0, .faultNote 0 .leaseLapse, .leaseWarn 0]) = true := by decide +kernel

/-- Hosts 0 and 1 lapse at one tick of an OPEN vote that hosts 2 and 3 have joined; host 0's work as a guest, which waits for
its budget, holds a PANE_STAGE of host 2, and a write of host 2 waits behind it. -/
def twoLapses : State :=
  let s := (runState.setPane 4
    { livePane 2 ⟨96, 300, 150, 4⟩ (direct .pass) with guest := some 0, held := some (.stage 1 none) }).setLane 0
      ⟨some (inService (writeOf 31 4 0 0 1 red) 4 ⟨96, 300, 1, 1⟩ .made), []⟩
  let s := (s.setLane 2 ⟨none, [writeOf 32 4 0 0 1 red]⟩).setConf { s.conf with vote := .opened, window := 50 }
  let s := (s.setHost 0 { s.host 0 with lease := 1 }).setHost 1 { s.host 1 with lease := 1 }
  (s.setHost 2 { s.host 2 with vote := true }).setHost 3 { s.host 3 with vote := true }

/-- R11: host 0's lapse lets the write be granted, and the VOTE reset of host 1's lapse carries it out whole. -/
theorem test_two_lapses : twoLapses.pending = [] ∧ writtenPlaces twoLapses = [] ∧
    writtenPlaces (twoLapses.tickAfter 3) = [240096] ∧
    after (step twoLapses) (fun t => t.conf.cause = .vote && t.store.cells = [(240096, red)]) = true := by decide +kernel

theorem witness_reset_pin : accessInStore fillState = true ∧
    fillState.arbiter.access = some (.write true 2 .a 303 160 (.replicate 64 ⟨0, 40, 0⟩) none) := by decide +kernel

theorem witness_unserved : ((runState.setPort 1 (Port.reset false)).port 1).present = false ∧
    (runState.setResetPin true).resetPin = true ∧ requestSource (.status 1 7) = some (1, 7) := by decide +kernel

theorem witness_admission_ceiling : (∀ g, (8 : Nat) = if ceilingState.inRun = true then (ceilingState.host g).reserved
      else ceilingState.conf.settings.reserved[g]) ∧ (ceilingState.port 1).present = true ∧ ceilingState.resetPin = false ∧
    (ceilingState.port 1).slots + (ceilingState.port 1).responses.length = 23 ∧
    ((ceilingState.setPort 1 { ceilingState.port 1 with slots := 21 }).port 1).slots + 3 = 24 := by decide +kernel

theorem witness_admission_no_slot : (∀ g, (8 : Nat) = if fullPool.inRun = true then (fullPool.host g).reserved
      else fullPool.conf.settings.reserved[g]) ∧ 8 ≤ (fullPool.port 1).slots ∧
    64 - (8 + 8 + 8 + 8) ≤ ((fullPool.port 0).slots - 8) + ((fullPool.port 1).slots - 8) + ((fullPool.port 2).slots - 8) +
      ((fullPool.port 3).slots - 8) ∧ (Instr.status 1 7).wellFormed = true ∧
    (requestFields (.status 1 7)).map (·.1) = some .status := by decide +kernel

/-- One reserved slot left, and one shared slot left. -/
theorem witness_admission_slot :
    ((fullPool.setPort 1 { fullPool.port 1 with slots := 7 }).port 1).slots < 8 ∧
    (((fullPool.setPort 0 { fullPool.port 0 with slots := 23 }).port 0).slots - 8) + ((fullPool.port 1).slots - 8) +
      ((fullPool.port 2).slots - 8) + ((fullPool.port 3).slots - 8) < 64 - (8 + 8 + 8 + 8) := by decide +kernel

theorem witness_not_active : (State.reset).admits 1 ∧ (State.reset.host 1).state = .absent ∧
    (State.reset.setHost 1 { HostRecord.reset with state := .lapsed }).admits 1 ∧
    ((State.reset.setHost 1 { HostRecord.reset with state := .lapsed }).host 1).state = .lapsed ∧
    requestSource (.start 1 7) = some (1, 7) ∧ (requestFields (.start 1 7)).map (·.1) = some .start :=
  ⟨⟨rfl, rfl, by decide +kernel, by decide +kernel⟩, rfl, ⟨rfl, rfl, by decide +kernel, by decide +kernel⟩, by decide +kernel,
    rfl, rfl⟩

theorem witness_exchange_start : (ceilingState.port 1).present = true ∧ ceilingState.resetPin = false ∧
    (ceilingState.port 1).exchange = none ∧ (∀ g, (8 : Nat) = if ceilingState.inRun = true then (ceilingState.host g).reserved
      else ceilingState.conf.settings.reserved[g]) ∧ (ceilingState.port 1).responses ≠ [] ∧
    (ceilingState.port 0).responses = [] := by decide +kernel

/-- Host 1's port with an exchange in progress whose response is queued. -/
def exchangeState : State := then_ (exec (.exchangeStart 1) ceilingState) runState

theorem witness_exchange_end : (exchangeState.port 1).exchange.any (fun x =>
      decide (outstanding (exchangeState.collected 1 x 12) 1 < 24) && x.queued) = true ∧
    ([] : List Byte).headD 0x00#8 = 0x00#8 ∧ examine 1 [0x01, 0x05] = .badRequest 0x01 0x05 ∧
    examine 1 [0x01, 0x05, 0x00, 0x00, 0x00, 0x00, 0xC5] = .badCheck 0x01 0x05 ∧
    ((exchangeState.setPort 1 { exchangeState.port 1 with slots := 22 }).port 1).exchange.any (fun x =>
      decide (24 ≤ outstanding
        ((exchangeState.setPort 1 { exchangeState.port 1 with slots := 22 }).collected 1 x 2) 1)) = true := by
  decide +kernel

theorem witness_exchange_request : (exchangeState.port 1).exchange.isSome = true ∧ (exchangeState.port 1).present = true ∧
    exchangeState.resetPin = false ∧ requestSource (.attach 1 0x05) = some (1, 0x05) ∧
    (Instr.attach 1 0x05).wellFormed = true ∧
    encode (.attach 1 0x05) = some [0x01, 0x05, 0x00, 0x00, 0x00, 0x00, 0xC4] := by decide +kernel

/-- The longest frame: 64 cells make 204 bytes. -/
theorem witness_round_trip : requestSource (.cellWrite 0 1 0xFF#8 65535 65535 (.replicate 64 ⟨1, 2, 3⟩)) = some (0, 1) ∧
    (Instr.cellWrite 0 1 0xFF#8 65535 65535 (.replicate 64 ⟨1, 2, 3⟩)).wellFormed = true ∧
    (encode (.cellWrite 0 1 0xFF#8 65535 65535 (.replicate 64 ⟨1, 2, 3⟩))).map List.length = some 204 := by decide +kernel

theorem witness_frame_tests : ([0x01, 0x05, 0x00, 0x00, 0x00, 0x00] : List Byte).length < 7 ∧
    197 < (198#8).toNat ∧ (197#8).toNat ≤ 197 ∧ ([] : List Byte).length < (0x00#8).toNat + 1 ∧
    (∀ k : Kind, k.code ≠ 0x04#8) := by
  refine ⟨by decide, by decide, by decide, by decide, fun k => by cases k <;> decide⟩

theorem witness_present : ((runState.setHost 1 { runState.host 1 with state := .lapsed }).host 1).state ≠ .active ∧
    (runState.port 1).present = true ∧ ((runState.setPort 1 (Port.reset false)).port 1).present = false := by decide +kernel

theorem witness_departure : ownedState.paneTableOk ∧ ownedState.conf.vote = .idle ∧ ownedState.isActive 1 = true ∧
    (ownedState.port 1).present = true ∧ ownedState.inRun = true ∧ ownedState.faults.slots[0] = none :=
  ⟨paneTableOk_of (by decide +kernel) (by decide +kernel), by decide +kernel⟩

/-- Host 1 owns LIVE panes 1 and 4 with guest 2, whose operation on pane 4 waits and whose queued ones name panes 4, 5, 1
and 4 in turn; pane 5 is host 0's with the same guest. -/
def guestState : State :=
  ((((ownedState.setPane 4 { livePane 1 ⟨0, 100, 8, 8⟩ double with guest := some 2, tears := 6 }).setPane 5
    { livePane 0 ⟨0, 200, 8, 8⟩ double with guest := some 2 }).setPane 2
    { livePane 1 ⟨0, 8, 8, 8⟩ double with state := .retiring, tears := 255 }).setLane 2
    ⟨some (inService (writeOf 20 4 0 0 1 red) 4 ⟨0, 100, 1, 1⟩ .made),
      [writeOf 21 4 0 0 1 red, writeOf 22 5 0 0 1 red, writeOf 23 1 0 0 1 red, writeOf 24 4 0 0 1 red]⟩).setPort 2
    { ownedState.port 2 with slots := 5 }

theorem witness_departure_guests : guestState.paneTableOk ∧ guestState.workOk ∧ guestState.isActive 1 = true ∧
    guestState.speaks 1 ∧ guestState.conf.vote = .idle ∧ (guestState.pane 4).owner = some 1 ∧
    (guestState.pane 2).state = .retiring ∧ (guestState.pane 3).state = .pending :=
  ⟨paneTableOk_of rfl (by decide +kernel), workOk_of (by decide +kernel), by decide +kernel, speaks_of (by decide +kernel),
    by decide +kernel⟩

/-- R87: the guest's queued operations on the two orphaned panes are answered in lane order, whichever pane they name; R25:
the RETIRING pane stays; R26: each GUEST_REVOKED and ORPHAN_NOTICE in ascending pane number. -/
theorem test_departure_guests :
    after (exec (.hostPresentDeasserted 1) guestState) (fun t =>
      (t.port 2).responses.map (fun r => (r.tag, r.status)) =
        [(20, .revoked), (21, .revoked), (23, .revoked), (24, .revoked)] && (t.lane 2).queued = [] &&
      (t.queue 2).events = [.guestRevoked 1 1 .orphaned, .guestRevoked 4 1 .orphaned, .orphanNotice 1 1 .abrupt,
        .orphanNotice 4 1 .abrupt] && (t.queue 0).events = [.orphanNotice 1 1 .abrupt, .orphanNotice 4 1 .abrupt] &&
      t.pane 2 = guestState.pane 2 && (t.pane 4).tears = 6) = true := by decide +kernel

/-- R27, R89: at DETACH(RELEASE) they are CANCELLED, in the same order, and no ORPHAN_NOTICE is posted. -/
theorem test_departure_release :
    after (exec (.detach 1 7 0x00) guestState) (fun t =>
      (t.port 2).responses.map (fun r => (r.tag, r.status)) =
        [(20, .cancelled), (21, .cancelled), (23, .cancelled), (24, .cancelled)] &&
      (t.queue 2).events = [.guestRevoked 1 1 .released, .guestRevoked 4 1 .released] && (t.queue 0).events = [] &&
      (t.pane 4).state = .retiring && t.pane 3 = .free 0) = true := by decide +kernel

/-- An OPEN vote: with hosts 0, 2 and 3 flagged host 1's departure completes it; with none flagged it stands; with no other
host ACTIVE it is closed. -/
def voteState (flag : Bool) (other : HostState) : State :=
  { ownedState with
    conf := { ownedState.conf with vote := .opened, window := 20000000 }
    hosts := (Vector.replicate 4 { runState.host 0 with state := other, vote := flag }).set 1 (runState.host 1)
    panes := ownedState.panes.map fun q => { q with guest := none } }

theorem witness_departure_votes : (voteState true .active).voteCompletes 1 ∧ ¬(voteState false .active).voteCompletes 1 ∧
    (voteState false .active).othersActive 1 ∧ ¬(voteState false .absent).voteCompletes 1 ∧
    ¬(voteState false .absent).othersActive 1 ∧ (voteState true .active).isActive 1 = true ∧
    (voteState true .active).speaks 1 ∧ (voteState false .absent).speaks 1 ∧ (voteState true .active).paneTableOk ∧
    (voteState false .absent).paneTableOk := by
  unfold State.voteCompletes State.othersActive
  exact ⟨by decide +kernel, by decide +kernel, by decide +kernel, by decide +kernel, by decide +kernel, by decide +kernel,
    speaks_of (by decide +kernel), speaks_of (by decide +kernel),
    paneTableOk_of (by decide +kernel) (by decide +kernel), paneTableOk_of (by decide +kernel) (by decide +kernel)⟩

/-- R157: the lapse of host 1 completes the vote, or closes it. -/
theorem test_departure_votes :
    after (exec (.leaseExpiry 1) (voteState true .active)) (fun t => t.conf.cause = .vote && t.conf.part = .setup) = true ∧
    after (exec (.leaseExpiry 1) (voteState false .absent)) (fun t =>
      t.conf.vote = .idle && t.conf.window = 0 && t.inRun) = true ∧
    after (exec (.hostPresentDeasserted 1) (voteState false .active)) (fun t =>
      t.conf.vote = .opened && t.conf.window = 20000000) = true := by decide +kernel

theorem witness_attach : State.reset.admits 1 ∧ runState.admits 1 :=
  ⟨⟨rfl, rfl, by decide +kernel, by decide +kernel⟩, rfl, rfl, by decide +kernel, by decide +kernel⟩

theorem witness_detach : ownedState.speaks 1 ∧ ownedState.paneTableOk ∧ ownedState.conf.vote = .idle ∧
    2 ≤ (0x02#8).toNat :=
  ⟨speaks_of (by decide +kernel), paneTableOk_of (by decide +kernel) (by decide +kernel), by decide +kernel⟩

/-- A DETACH while the host's access is in progress, and while it is offered. -/
theorem witness_detach_in_progress :
    (fillState.lane 2).service.any (fun v => v.access = .inProgress) = true ∧ fillState.speaks 2 ∧
    (conflictState.lane 0).service.any (fun v => v.access ≠ .inProgress) = true ∧ conflictState.speaks 0 :=
  ⟨by decide +kernel, speaks_of (by decide +kernel), by decide +kernel, speaks_of (by decide +kernel)⟩

theorem witness_lease_warn : runState.isActive 1 = true ∧ runState.inRun = true ∧ (runState.host 1).warned = false ∧
    ((runState.setQueue 1 ⟨.replicate 7 (.leaseWarn 0), 255⟩).queue 1).events.length < 8 ∧
    8 ≤ ((runState.setQueue 1 ⟨.replicate 8 (.leaseWarn 0), 255⟩).queue 1).events.length ∧
    ((runState.setHost 1 { runState.host 1 with warned := true }).host 1).warned = true := by decide +kernel

theorem witness_config : setupState.speaks 0 ∧ setupState.inRun = false ∧ (64#16).toNat = 64 ∧ (800#16).toNat % 16 = 0 ∧
    (63#16).toNat < 64 ∧ 800 < (816#16).toNat ∧ (72#16).toNat % 16 ≠ 0 ∧ (0x00#8).toNat = 0 ∧ 19 < (0x14#8).toNat :=
  ⟨speaks_of (by decide +kernel), by decide +kernel⟩

/-- LINE_PERIOD at 863 and 864, PANIC_LEVEL at URGENT_LEVEL and one below. -/
theorem witness_start : setupState.speaks 0 ∧ setupState.inRun = false ∧ 863 < setupState.conf.settings.frameWidth + 64 ∧
    setupState.conf.settings.frameWidth + 64 ≤ 864 ∧
    setupState.conf.settings.frameWidth + 64 ≤ setupState.conf.settings.linePeriod ∧
    setupState.conf.settings.panicLevel + 1 = setupState.conf.settings.urgentLevel ∧
    (∀ p, (setupState.pane p).state = .free) ∧ (∀ g, setupState.lane g = ⟨none, []⟩) ∧ setupState.scan.latch = none ∧
    setupState.scan.queue = [] ∧ setupState.scan.cursorLine = 0 ∧ setupState.arbiter.access = none :=
  ⟨speaks_of (by decide +kernel), by decide +kernel⟩

theorem witness_reset_vote : runState.speaksInRun 2 ∧ (∃ g, g ≠ 2 ∧ runState.isActive g = true ∧
      (runState.host g).vote = false) ∧ runState.conf.vote = .idle :=
  ⟨speaksInRun_of (by decide +kernel) rfl, ⟨3, by decide +kernel⟩, rfl⟩

theorem witness_reset_vote_joins :
    (runState.setConf { runState.conf with vote := .opened, window := 5 }).speaksInRun 2 ∧
    (runState.setConf { runState.conf with vote := .opened, window := 5 }).conf.vote = .opened :=
  ⟨speaksInRun_of (by decide +kernel) rfl, rfl⟩

/-- Host 0 is the only ACTIVE host. -/
theorem witness_reset_vote_completes :
    (setupState.setConf { setupState.conf with part := .run }).speaksInRun 0 ∧
    ∀ g, g ≠ 0 → (setupState.setConf { setupState.conf with part := .run }).isActive g = false :=
  ⟨speaksInRun_of (by decide +kernel) rfl, by decide +kernel⟩

theorem witness_window : runState.conf.vote = .idle ∧
    (runState.setConf { runState.conf with vote := .opened, window := 0 }).conf.vote = .opened := ⟨rfl, rfl⟩

theorem witness_part_state : setupState.speaks 0 ∧ setupState.inRun = false ∧ runState.speaks 0 ∧ runState.inRun = true ∧
    (requestFields (.paneCommit 0 1 16)).map (·.1) = some .paneCommit ∧
    requestSource (.paneCommit 0 1 16) = some (0, 1) ∧ 16 ≤ (16#8).toNat ∧
    (Instr.cellFill 0 1 16 ⟨0, 0, 1, 1⟩ ⟨0, 0, 0⟩).wellFormed = true ∧
    (requestFields (.start 0 1)).map (·.1) = some .start :=
  ⟨speaks_of (by decide +kernel), by decide +kernel, speaks_of (by decide +kernel), by decide +kernel⟩

/-- Every record taken. -/
def crowded : State := { runState with panes := .replicate 16 { livePane 0 ⟨0, 0, 1, 1⟩ double with state := .orphaned } }

theorem witness_claim : raceState.speaksInRun 2 ∧ raceState.geometryOk ∧ (raceState.pane 2).state = .free ∧
    (∀ m : PaneNo, m < 2 → (raceState.pane m).state ≠ .free) ∧
    rectHolds ⟨0, 300, 200, 100⟩ 0 300 = true ∧ rectHolds ⟨0, 0, 400, 480⟩ 0 300 = true ∧ 2 ≤ (0x02#8).toNat :=
  ⟨speaksInRun_of (by decide +kernel) rfl, geometryOk_of rfl (by decide +kernel), by decide +kernel⟩

/-- The largest valid rectangle, and one a column too wide. -/
theorem witness_claim_edges : runState.speaksInRun 2 ∧ runState.geometryOk ∧ (runState.pane 0).state = .free ∧
    runState.rectValid ⟨799, 479, 1, 1⟩ = true ∧ runState.rectValid ⟨799, 479, 2, 1⟩ = false ∧
    crowded.geometryOk ∧ crowded.speaksInRun 2 ∧ (∀ n, (crowded.pane n).state ≠ .free) :=
  ⟨speaksInRun_of (by decide +kernel) rfl, geometryOk_of rfl (by decide +kernel), by decide +kernel, by decide +kernel,
    by decide +kernel, geometryOk_of rfl (by decide +kernel), speaksInRun_of (by decide +kernel) rfl, by decide +kernel⟩

theorem witness_stage : raceState.speaksInRun 0 ∧ fillState.speaksInRun 2 :=
  ⟨speaksInRun_of (by decide +kernel) rfl, speaksInRun_of (by decide +kernel) rfl⟩

theorem witness_guest : raceState.speaksInRun 1 ∧ raceState.geometryOk ∧ (raceState.pane 1).owner = some 1 ∧
    (raceState.pane 1).state = .live ∧ (raceState.pane 1).guest = some 2 ∧ raceState.isActive 0 = true ∧
    raceState.isActive 3 = false ∧ 4 ≤ (4#16).toNat ∧ (4#16) ≠ 0xFFFF#16 ∧ (raceState.pane 0).owner ≠ some 1 ∧
    (raceState.pane 4).state = .free ∧ (ownedState.pane 3).state = .pending ∧ (ownedState.pane 2).state = .retiring ∧
    ownedState.geometryOk ∧ ownedState.speaksInRun 1 :=
  ⟨speaksInRun_of (by decide +kernel) rfl, geometryOk_of rfl (by decide +kernel), by decide +kernel, by decide +kernel,
    by decide +kernel, by decide +kernel, by decide +kernel, by decide, by decide, by decide +kernel, by decide +kernel,
    by decide +kernel, by decide +kernel, geometryOk_of rfl (by decide +kernel), speaksInRun_of (by decide +kernel) rfl⟩

/-- A pane with a pending commit, one with a held request, one with work of its owner, one with none. -/
theorem witness_commit : ownedState.speaksInRun 1 ∧ (ownedState.pane 1).commit ≠ none ∧ (ownedState.pane 2).state = .retiring ∧
    raceState.speaksInRun 0 ∧ (raceState.pane 0).commit = none ∧ (raceState.pane 0).held = none ∧
    (raceState.lane 0) = ⟨none, []⟩ ∧ fillState.speaksInRun 2 ∧ (fillState.pane 4).held ≠ none ∧
    conflictState.speaksInRun 1 ∧ (conflictState.pane 8).held = none ∧ (conflictState.lane 1).queued.length = 1 :=
  ⟨speaksInRun_of (by decide +kernel) rfl, by decide +kernel, by decide +kernel, speaksInRun_of (by decide +kernel) rfl,
    by decide +kernel, by decide +kernel, by decide +kernel, speaksInRun_of (by decide +kernel) rfl, by decide +kernel,
    speaksInRun_of (by decide +kernel) rfl, by decide +kernel⟩

/-- A release while the owner's run and a guest's queued operation are on the pane. -/
theorem witness_release_work : fillState.speaksInRun 2 ∧ fillState.workOk ∧ (fillState.pane 4).guest = some 3 ∧
    (fillState.lane 2).service.any (fun v => v.op.pane = 4 && v.access = .inProgress) = true :=
  ⟨speaksInRun_of (by decide +kernel) rfl, workOk_of (by decide +kernel), by decide +kernel⟩

theorem witness_release : ownedState.speaksInRun 1 ∧ ownedState.workOk ∧ ownedState.geometryOk ∧ (ownedState.pane 1).state = .live ∧
    (ownedState.pane 1).guest = some 2 ∧ (ownedState.pane 3).state = .pending ∧ (ownedState.pane 2).state = .retiring ∧
    (ownedState.pane 0).state = .free ∧ ownedState.isActive 2 = true :=
  ⟨speaksInRun_of (by decide +kernel) rfl, workOk_of (by decide +kernel), geometryOk_of rfl (by decide +kernel),
    by decide +kernel⟩

theorem witness_adopt : orphanState.speaksInRun 2 ∧ (orphanState.pane 1).state = .orphaned ∧
    (orphanState.pane 1).modes = some ⟨.direct, .a, .pass, .blank⟩ ∧
    (orphanState.pane 1).current = some ⟨400, 0, 400, 480⟩ ∧ (orphanState.pane 0).state ≠ .orphaned :=
  ⟨speaksInRun_of (by decide +kernel) rfl, by decide +kernel⟩

/-- The last segment of the last line, with a PENDING, a LIVE and a RETIRING pane in the table. -/
def lastLineState : State :=
  (ownedState.setScan { ownedState.scan with
    latch := some ⟨6, 479, 24, .replicate 24 [], false, 0⟩, frame := 6, cursorFrame := 6, cursorLine := 479,
    queue := [⟨6, 477, false, []⟩, ⟨6, 478, false, []⟩] }).setArbiter
    { ownedState.arbiter with access := some (.segment true 479 768 (.replicate 32 red)) }

theorem witness_boundary : lastLineState.paneTableOk ∧ lastLineState.workOk ∧ lastLineState.inRun = true ∧
    runInStore 479 768 (List.replicate 32 red).length = true ∧
    24 + 1 = segmentCount lastLineState.conf.settings.frameWidth ∧
    lastLineState.scan.cursorLine + 1 = lastLineState.conf.settings.frameHeight ∧ lastLineState.scan.queue.length < 3 ∧
    lastLineState.parked = [] ∧ (lastLineState.pane 1).commit = some 9 ∧ (lastLineState.pane 3).commit = some 5 ∧
    (lastLineState.pane 2).state = .retiring :=
  ⟨paneTableOk_of rfl (by decide +kernel), workOk_of (by decide +kernel), by decide +kernel⟩

/-- An access of host 0 that waits for its budget at the boundary. -/
def waitingState : State :=
  (lastLineState.setHost 0 { lastLineState.host 0 with budget := 1, cells := 64, budgetHit := true }).setLane 0
    ⟨some (inService (writeOf 1 1 0 0 1 red) 1 ⟨400, 20, 1, 1⟩ .made), []⟩

theorem witness_boundary_waits : waitingState.paneTableOk ∧ waitingState.inRun = true ∧
    (waitingState.lane 0).service = some (inService (writeOf 1 1 0 0 1 red) 1 ⟨400, 20, 1, 1⟩ .made) ∧
    (waitingState.pane 1).held = none :=
  ⟨paneTableOk_of rfl (by decide +kernel), by decide +kernel⟩

/-- R83: the boundary refills the budget, and the access is OFFERED. -/
theorem test_boundary_refills :
    after (exec .segmentReadComplete waitingState) (fun t => (t.host 0).budgetHit = false &&
      (t.lane 0).service.any (fun v => v.access ≠ .made)) = true := by decide +kernel

/-- The same event with a DEFER access of host 3 parked on line 479, its budget of one access used up. -/
def lastParkedState : State :=
  let a3 := inService (writeOf 21 5 0 9 64 red) 5 ⟨0, 479, 64, 1⟩ .parked
  (((lastLineState.setPane 5 (livePane 3 ⟨0, 470, 64, 10⟩ (direct .defer))).setLane 3 ⟨some a3, []⟩).setParked
    [parkedEntry 3 a3]).setHost 3 { lastLineState.host 3 with budget := 1, cells := 64, budgetHit := true }

theorem witness_boundary_parked : lastParkedState.paneTableOk ∧ lastParkedState.workOk ∧ lastParkedState.inRun = true ∧
    lastParkedState.scan.queue.length < 3 ∧ lastParkedState.scan.cursorLine + 1 = lastParkedState.conf.settings.frameHeight ∧
    lastParkedState.parked.length = 1 ∧ (lastParkedState.lane 3).service.any (fun v => v.access = .parked && v.line ≠ 0) = true :=
  ⟨paneTableOk_of rfl (by decide +kernel), workOk_of (by decide +kernel), by decide +kernel⟩

/-- Four lines wait, the cursor stands at line 0, and the mark that comes takes line 476 (Table 4-8). -/
def markBoundaryState : State :=
  ownedState.setScan { ownedState.scan with
    mark := some 475, frame := 6, emission := 6, cursorFrame := 7, cursorLine := 0,
    queue := [⟨6, 476, false, []⟩, ⟨6, 477, false, []⟩, ⟨6, 478, false, []⟩, ⟨6, 479, false, []⟩] }

/-- The mark of line 479 comes with the latch of that line still in flight: an underrun. -/
def underrunOf (s : State) : State := s.setScan { s.scan with mark := some 478, emission := 6, queue := [] }

theorem witness_boundary_mark : markBoundaryState.paneTableOk ∧ markBoundaryState.inRun = true ∧
    markBoundaryState.scan.cursorLine = 0 ∧ markBoundaryState.scan.latch = none ∧
    markBoundaryState.scan.queue.head? = some ⟨6, 475 + 1, false, []⟩ ∧ markBoundaryState.scan.emission = 6 ∧
    475 + 1 < markBoundaryState.conf.settings.frameHeight ∧ markBoundaryState.scan.queue.tail.length < 4 :=
  ⟨paneTableOk_of rfl (by decide +kernel), by decide +kernel⟩

theorem witness_boundary_underrun : (underrunOf lastParkedState).paneTableOk ∧ (underrunOf lastParkedState).inRun = true ∧
    478 + 1 + 1 = (underrunOf lastParkedState).conf.settings.frameHeight ∧ (underrunOf lastParkedState).scan.queue = [] ∧
    (underrunOf lastParkedState).scan.latch.any (fun l => l.line = 479 && l.frame = (underrunOf lastParkedState).scan.emission) = true ∧
    (underrunOf lastParkedState).parked.length = 1 :=
  ⟨paneTableOk_of rfl (by decide +kernel), by decide +kernel⟩

/-- R12, R43, R45: what a boundary leaves of the panes, at each of the three events. -/
theorem test_boundary_events :
    ([exec .segmentReadComplete lastLineState, exec .lineMark markBoundaryState,
      exec .lineMark (underrunOf lastLineState)]).all (fun o => after o fun t =>
        t.scan.frame = 7 && t.scan.latch = some ⟨7, 0, 0, [], false, 0⟩ && t.pane 2 = .free 0 &&
        (t.pane 1).commit = none && (t.pane 3).state = .live && (t.pane 3).modes = some { double with front := .a } &&
        (t.queue 1).events.contains (.commitDone 1 9 7)) = true := by decide +kernel

/-- R97, R102: in either order of the boundary's work and the release, the parked access is OFFERED. -/
theorem test_boundary_orders :
    let s := lastParkedState.setScan { lastParkedState.scan with latch := none, cursorFrame := 7, cursorLine := 0 }
    ([startLatch (releaseParked s), releaseParked (startLatch s)]).all (fun t => t.scan.frame = 7 && t.parked = [] &&
      (t.lane 3).service.any (fun v => v.access = .offered)) = true := by decide +kernel

/-- Two neighbouring LIVE panes share no cell. -/
theorem witness_composition : runState.panesApart ∧ conflictState.scan.latch.isSome = true := by
  have free : ∀ p, (runState.pane p).state = .free := by decide +kernel
  exact ⟨fun p q _ hp _ => absurd (free p) hp, by decide +kernel⟩

theorem witness_segment_read : conflictState.arbiter.access = some (.segment true 120 192 (.replicate 32 ⟨0, 0, 0⟩)) ∧
    runInStore 120 192 32 = true ∧ conflictState.scan.latch.any (fun l => l.segment + 1 < segmentCount 800) = true ∧
    conflictState.scan.queue.length = 3 ∧ lastLineState.scan.queue.length < 3 ∧
    lastLineState.scan.latch.any (fun l => segmentCount 800 ≤ l.segment + 1) = true := by decide +kernel

/-- The last segment of line 120 with accesses of hosts 0 and 2 parked; host 0's budget of one access is used up. -/
def parkedState : State :=
  let a0 := inService (writeOf 10 3 0 20 64 red) 3 ⟨200, 120, 64, 1⟩ .parked
  let a2 := inService (writeOf 13 9 0 0 64 red) 9 ⟨0, 120, 64, 1⟩ .parked
  ((((((conflictState.setLane 0 ⟨some a0, []⟩).setLane 1 ⟨none, []⟩).setLane 2 ⟨some a2, []⟩).setHost 0
    { conflictState.host 0 with budget := 1, cells := 1 }).setParked [parkedEntry 0 a0, parkedEntry 2 a2]).setScan
    { conflictState.scan with
      latch := some ⟨57, 120, 24, .replicate 24 [], false, 0⟩, queue := [⟨57, 119, false, []⟩] }).setArbiter
    { conflictState.arbiter with access := some (.segment true 120 768 (.replicate 32 red)) }

theorem witness_release_list : parkedState.inRun = true ∧ runInStore 120 768 32 = true ∧
    parkedState.scan.latch = some ⟨57, 120, 24, .replicate 24 [], false, 0⟩ ∧ segmentCount 800 ≤ 24 + 1 ∧
    parkedState.scan.queue.length < 3 ∧ (∀ g, (parkedState.lane g).queued = []) ∧
    (∀ g v, (parkedState.lane g).service = some v → v.access = .parked ∧ v.line ≠ 121) ∧
    (parkedState.pane 3).modes = some (direct .defer) ∧ (parkedState.pane 9).modes = some (direct .pass) ∧
    64 * 1 < (parkedState.host 0).cells + 64 ∧ (parkedState.host 2).budget = 0 := by
  refine ⟨rfl, by decide +kernel, rfl, by decide +kernel, by decide +kernel, by decide +kernel, fun g v hv => ?_, by decide +kernel⟩
  fin_cases g <;> simp [parkedState, conflictState, State.lane, State.setLane, State.setHost, State.setParked, State.setScan,
    State.setArbiter, State.setConf, State.setPane, runState, State.reset] at hv <;> subst hv <;> decide

/-- R97, R102: the list is empty, host 0's access waits for its budget, host 2's goes on. -/
theorem test_release_list :
    after (exec .segmentReadComplete parkedState) (fun t => t.parked = [] &&
      (t.lane 0).service.any (fun v => v.access = .made) && (t.host 0).budgetHit &&
      (t.queue 0).events = [.budgetReached 3 57] &&
      (t.lane 2).service.any (fun v => v.access ≠ .parked && v.access ≠ .made)) = true := by decide +kernel

/-- The first mark with its line queued, mark 480 that starts blanking, and the mark that ends it. -/
theorem witness_line_mark : runState.inRun = true ∧ 0 < runState.conf.settings.frameHeight ∧ runState.scan.mark = none ∧
    (runState.setScan { runState.scan with queue := [⟨0, 0, false, []⟩] }).scan.queue = [⟨0, 0, false, []⟩] ∧
    479 + 1 = runState.conf.settings.frameHeight ∧ 479 + 1 < 480 + runState.conf.settings.blankLines ∧
    491 + 1 = 480 + runState.conf.settings.blankLines ∧ 0 < runState.conf.settings.frameHeight := by decide +kernel

theorem witness_underrun : runState.inRun = true ∧ runState.conf.settings.frameOk ∧ runState.scan.queue.head? = none ∧
    runState.faults.slots[0] = none :=
  ⟨rfl, by unfold Settings.frameOk; decide +kernel, rfl, by decide +kernel⟩

/-- An underrun while the latch of its line is in flight. -/
theorem witness_underrun_latch :
    ((conflictState.setScan { conflictState.scan with
      mark := some 119, emission := 57, queue := [] }).scan.latch.any fun l => l.line = 119 + 1 && l.frame = 57) = true := by
  decide +kernel

/-- R98: the underrun of line 120 releases its parked accesses, the store busy with the abandoned read. -/
def underrunState : State :=
  parkedState.setScan { parkedState.scan with mark := some 119, emission := 57, queue := [] }

theorem witness_underrun_release : underrunState.inRun = true ∧ underrunState.scan.queue.head? = none ∧
    underrunState.scan.latch = some ⟨57, 120, 24, .replicate 24 [], false, 0⟩ ∧
    underrunState.arbiter.access.isSome = true ∧ underrunState.parked.length = 2 := by decide +kernel

theorem test_underrun_release :
    after (exec .lineMark underrunState) (fun t => t.parked = [] &&
      (t.lane 0).service.any (fun v => v.access = .made) &&
      (t.queue 0).events = [.faultNote 0 .underrun, .budgetReached 3 57] &&
      (t.lane 2).service.any (fun v => v.access = .offered)) = true := by decide +kernel

theorem witness_link_held : (State.reset.setResetPin true).scan.link = .down ∧
    (State.reset.setResetPin true).resetPin = true := by decide +kernel

theorem witness_link : runState.scan.link = .up ∧ State.reset.scan.link = .down ∧ State.reset.resetPin = false ∧
    runState.panel.inFlight = none ∧ (panelState .sending 2).scan.link = .up ∧
    (panelState .sending 2).panel.inFlight.any (fun f => !f.discard) = true := by decide +kernel

/-- The completion of a dropped read, with and without a latch and ready hosts. -/
def readGone (s : State) : State := s.setArbiter { s.arbiter with access := some (.read false 3 .a 0 0 [red]) }

theorem witness_grant : (readGone runState).inRun = true ∧ (∀ g, ((readGone runState).lane g).queued = []) ∧
    runInStore 0 0 [red].length = true ∧ (readGone runState).scan.latch = none ∧
    ((readGone conflictState).setLane 1 ⟨(conflictState.lane 1).service, []⟩).arbiter.lastGrant = .latch ∧
    (∀ g, (((readGone conflictState).setLane 1 ⟨(conflictState.lane 1).service, []⟩).lane g).queued = []) ∧
    ((readGone conflictState).lane 0).service.any (fun v => v.access = .offered) = true ∧
    (readGone conflictState).arbiter.rotation + 1 = 0 := by decide +kernel

/-- Conflicts met by a decision: host `g` comes first in the rotation, hosts 0, 1 and 2 with policies DEFER, RELATCH, PASS. -/
def conflictDecision (g : HostNo) (restarts : Nat) : State :=
  let s := (readGone conflictState).setLane 1 ⟨(conflictState.lane 1).service, []⟩
  (s.setArbiter { s.arbiter with rotation := g - 1 }).setScan
    { s.scan with latch := s.scan.latch.map fun l => { l with restarts := restarts } }

theorem witness_grant_conflict : ([0, 1, 2] : List HostNo).all (fun g =>
    let s := conflictDecision g 0
    s.inRun && allHosts.all (fun i => (s.lane i).queued = []) && s.arbiter.urgency = .normal && s.arbiter.lastGrant = .latch &&
    s.scan.latch.any (fun l => l.line = 120) && s.arbiter.rotation + 1 = g &&
    (s.lane g).service.any (fun v => v.access = .offered && v.line = 120)) = true := by decide +kernel

/-- Table 6-2 through a step: PASS is granted and torn, RELATCH granted, DEFER parked with the next host then granted, and at
the restart limit RELATCH is parked. -/
theorem test_grant_conflict :
    after (exec .readAccessComplete (conflictDecision 2 0)) (fun t =>
      t.scan.latch.any (·.torn) && (t.pane 9).tears = 5 &&
      t.arbiter.access = some (.write true 2 .a 120 0 (.replicate 64 red) none)) = true ∧
    after (exec .readAccessComplete (conflictDecision 1 0)) (fun t =>
      t.arbiter.access = some (.write true 1 .a 120 400 (.replicate 32 red) (some (57, 120)))) = true ∧
    after (exec .readAccessComplete (conflictDecision 0 0)) (fun t =>
      t.parked.map (·.host) = [0] && t.arbiter.rotation = 1 && t.arbiter.lastGrant = .write) = true ∧
    after (exec .readAccessComplete (conflictDecision 1 1)) (fun t =>
      t.parked.map (·.host) = [1] && t.arbiter.rotation = 2) = true := by decide +kernel

theorem witness_conflict : (conflictState.scan.latch.any fun l => l.line = 120 && l.restarts = 0) = true ∧
    ([0, 1, 2] : List HostNo).all (fun h => (conflictState.lane h).service.any fun v => v.line = 120 && v.op.writes) = true ∧
    (conflictState.pane 3).modes = some (direct .defer) ∧ (conflictState.pane 8).modes = some (direct .relatch) ∧
    (conflictState.pane 9).modes = some (direct .pass) ∧ conflictState.parked.length < 8 ∧
    conflictState.conf.settings.relatchLimit = 1 ∧ conflictState.arbiter.urgency = .normal := by decide +kernel

/-- The requests of `test_cell_write` and `test_cell_fill`, on a pane the host owns, on one it does not, and past its edge. -/
theorem witness_cell_request :
    (runState.setPane 4 (livePane 2 ⟨96, 300, 150, 4⟩ (direct .pass))).speaksInRun 2 ∧
    requestedOp (.cellRead 2 5 4 149 3 1 0x01) = some ⟨5, 4, .read 149 3 1 0x01⟩ ∧
    (Instr.cellRead 2 5 4 149 3 1 0x01).wellFormed = true ∧ (∀ g, (runState.lane g) = ⟨none, []⟩) ∧
    CellOp.inTarget ⟨5, 4, .read 149 3 1 0x01⟩ ⟨96, 300, 150, 4⟩ = true ∧
    CellOp.inTarget ⟨5, 4, .read 150 3 1 0x01⟩ ⟨96, 300, 150, 4⟩ = false ∧
    CellOp.inTarget ⟨5, 4, .read 149 3 1 0x02⟩ ⟨96, 300, 150, 4⟩ = false ∧ fillState.speaksInRun 2 ∧
    (fillState.lane 2).service.isSome = true :=
  ⟨speaksInRun_of (by decide +kernel) rfl, by decide +kernel, by decide +kernel, by decide +kernel, by decide +kernel,
    by decide +kernel, by decide +kernel, speaksInRun_of (by decide +kernel) rfl, by decide +kernel⟩

/-- 384 cells are granted with a budget of 6: the next cell waits. -/
theorem witness_budget_reached :
    64 * (runState.setHost 2 { runState.host 2 with budget := 6, cells := 384 }).hosts[(2 : Fin 4)].budget <
      (runState.setHost 2 { runState.host 2 with budget := 6, cells := 384 }).hosts[(2 : Fin 4)].cells + min 64 1 ∧
    ((runState.setPane 4 { livePane 2 ⟨96, 300, 150, 4⟩ double with commit := some 1 }).pane 4).commit ≠ none ∧
    ((runState.setPane 4 { livePane 2 ⟨96, 300, 150, 4⟩ double with held := some (.stage 1 none) }).pane 4).held =
      some (.stage 1 none) := by decide +kernel

theorem witness_read_access : (readGone runState).arbiter.access = some (.read false 3 .a 0 0 [red]) ∧
    runInStore 479 799 [red].length = true := by decide +kernel

/-- A read of host 2 on pane 4 in progress, with request `q` held on the pane. -/
def readState (q : Held) : State :=
  ((runState.setPane 4 { livePane 2 ⟨96, 300, 150, 4⟩ (direct .pass) with held := some q }).setLane 2
    ⟨some (inService ⟨30, 4, .read 0 0 1 0⟩ 4 ⟨96, 300, 1, 1⟩ .inProgress), []⟩).setArbiter
    { runState.arbiter with access := some (.read true 2 .a 300 96 [red]) }

theorem witness_held : (readState (.commit 31 1)).arbiter.access = some (.read true 2 .a 300 96 [red]) ∧
    runInStore 300 96 [red].length = true ∧ ((readState (.commit 31 1)).pane 4).held = some (.commit 31 1) ∧
    ((readState (.commit 31 2)).pane 4).held = some (.commit 31 2) ∧ ((readState (.commit 31 2)).lane 2).queued = [] ∧
    ((readState (.stage 31 none)).pane 4).held = some (.stage 31 none) ∧ ((readState (.stage 31 none)).pane 4).owner = some 2 ∧
    (readState (.stage 31 none)).parked = [] ∧
    (∀ g, g ≠ 2 → ((readState (.stage 31 none)).lane g).service = none) := by decide +kernel

/-- R37, R84, R18: the commit is taken and ACCEPTED stands directly after the read's answer; so does the stage's OK. -/
theorem test_held :
    after (exec .readAccessComplete (readState (.commit 31 1))) (fun t => (t.pane 4).commit = some 0 && (t.pane 4).held = none &&
      (t.port 2).responses = [⟨0x32, 30, .ok, .cells [red]⟩, ⟨0x23, 31, .accepted, .ticket 0⟩]) = true ∧
    after (exec .readAccessComplete (readState (.stage 31 (some ⟨0, 0, 8, 8⟩)))) (fun t =>
      (t.pane 4).staged = some ⟨0, 0, 8, 8⟩ && (t.pane 4).held = none &&
      (t.port 2).responses = [⟨0x32, 30, .ok, .cells [red]⟩, ⟨0x21, 31, .ok, .empty⟩]) = true := by decide +kernel

/-- A PANE_COMMIT that waits for the read in service and for the write behind it. -/
def commitBehindTwo : State :=
  (readState (.commit 31 2)).setLane 2 { (readState (.commit 31 2)).lane 2 with queued := [writeOf 32 4 0 0 1 red] }

theorem witness_held_two : commitBehindTwo.arbiter.access = some (.read true 2 .a 300 96 [red]) ∧
    (commitBehindTwo.pane 4).held = some (.commit 31 2) ∧ (commitBehindTwo.pane 4).owner = some 2 ∧
    (∀ op, (commitBehindTwo.lane 2).queued.head? = some op → commitBehindTwo.servable 2 op) := by
  refine ⟨by decide +kernel, by decide +kernel, by decide +kernel, fun op h => ?_⟩
  obtain rfl : op = writeOf 32 4 0 0 1 red := by
    have : (commitBehindTwo.lane 2).queued.head? = some (writeOf 32 4 0 0 1 red) := by decide +kernel
    simpa [h] using this
  exact ⟨4, by decide +kernel, .inr (.inr ⟨by decide +kernel, by decide +kernel, ⟨96, 300, 150, 4⟩, by decide +kernel⟩)⟩

/-- R37: the commit stays held, one operation nearer, and the write is in service. -/
theorem test_held_two :
    after (exec .readAccessComplete commitBehindTwo) (fun t => (t.pane 4).held = some (.commit 31 1) &&
      (t.pane 4).commit = none && (t.lane 2).service.any (fun v => v.op.tag = 32) && (t.lane 2).queued = [] &&
      (t.port 2).responses = [⟨0x32, 30, .ok, .cells [red]⟩]) = true := by decide +kernel

/-- A read that a release stopped, with a PANE_COMMIT placed on the pane since. -/
def stoppedRead : State :=
  (readState (.commit 31 1)).setLane 2
    ⟨some { inService ⟨30, 4, .read 0 0 1 0⟩ 4 ⟨96, 300, 1, 1⟩ .inProgress with stop := some .cancelled }, []⟩

theorem witness_stopped_held : stoppedRead.arbiter.access = some (.read true 2 .a 300 96 [red]) ∧
    (stoppedRead.pane 4).held = some (.commit 31 1) ∧ (stoppedRead.pane 4).owner = some 2 ∧
    (stoppedRead.lane 2).service.any (fun v => v.stop = some .cancelled && v.delayed = []) = true := by decide +kernel

/-- The model's choice of notes/assumptions/13.md: the commit is taken behind the read's CANCELLED. -/
theorem test_stopped_held :
    after (exec .readAccessComplete stoppedRead) (fun t => (t.pane 4).commit = some 0 &&
      (t.port 2).responses = [⟨0x32, 30, .cancelled, .count 0⟩, ⟨0x23, 31, .accepted, .ticket 0⟩]) = true := by
  decide +kernel

/-- R101: a write granted to restart line 119 finds line 120 in flight; and one that finds its own line. -/
def restartState (line : Nat) : State :=
  conflictState.setArbiter { conflictState.arbiter with access := some (.write false 3 .a 5 5 [red] (some (57, line))) }

theorem witness_restart : (restartState 119).scan.latch.any (fun l => l.line = 120 && l.frame = 57) = true ∧
    (restartState 119).arbiter.access = some (.write false 3 .a 5 5 [red] (some (57, 119))) ∧ 5 < 480 ∧ 5 + 1 ≤ 800 := by
  decide +kernel

theorem test_restart :
    after (exec .writeAccessComplete (restartState 119)) (fun t =>
      t.scan.latch.any (fun l => l.restarts = 0 && l.segment = 6)) = true ∧
    after (exec .writeAccessComplete (restartState 120)) (fun t =>
      t.scan.latch.any (fun l => l.restarts = 1 && l.segment = 0)) = true := by decide +kernel

/-- The run in progress of the fill, a stop on it, and the last and first places of the store. -/
theorem witness_write_access :
    fillState.arbiter.access = some (.write true 2 .a 303 160 (.replicate 64 ⟨0, 40, 0⟩) none) ∧
    (fillState.lane 2).service.any (fun v => v.stop = none && decide (v.col + 64 < v.area.x + v.area.w)) = true ∧
    303 < 480 ∧ 160 + 64 ≤ 800 ∧ 800 < 737 + 64 := by decide +kernel

/-- The model's choice of notes/assumptions/11.md: FAULT_CLEAR with selector FFh names OVERFLOW. -/
theorem test_fault_clear_overflow_row :
    after (exec (.faultClear 2 1 0xFF) faultState) (fun t => t = then_ (exec (.faultClearOverflow 2 1) faultState) runState) =
      true := by decide +kernel

theorem witness_fault_read : faultState.speaks 2 ∧ 15 < (16#8).toNat ∧ 15 < (254#8).toNat ∧ faultState.faults.slots[15] = none ∧
    faultState.faults.slots[3] = some ⟨.tear, some 2, some 9, some 120, 57, 58, 2⟩ ∧ faultState.speaks 1 :=
  ⟨speaks_of (by decide +kernel), by decide, by decide, by decide +kernel, by decide +kernel, speaks_of (by decide +kernel)⟩

/-- Every slot HELD by another record. -/
def fullLog : State :=
  runState.setFaults ⟨.ofFn fun i => some ⟨.tear, some 2, some i, some 1, 0, 0, 1⟩, 0⟩

theorem witness_overflow : fullLog.speaks 2 ∧
    (∀ i : Fin 16, fullLog.faults.slots[i].any fun q => q.kind ≠ .underrun && q.host ≠ none) = true :=
  ⟨speaks_of (by decide +kernel), by decide +kernel⟩

theorem witness_event_fetch : runState.speaks 2 ∧ setupState.speaks 0 :=
  ⟨speaks_of (by decide +kernel), speaks_of (by decide +kernel)⟩

theorem witness_fault_reports : runState.faultLogOk ∧ runState.faults.slots[0] = none ∧ fullLog.faults.slots[0] ≠ none := by
  have none_ : ∀ i : Fin 16, runState.faults.slots[i] = none := by decide +kernel
  refine ⟨⟨fun i j r q hr => ?_, fun i r hr => ?_⟩, by decide +kernel⟩ <;> rw [none_ i] at hr <;> cases hr

theorem witness_panel_send : runState.speaks 1 ∧ runState.panel.fifo.length < 4 ∧
    (runState.setPanel ⟨.replicate 4 ⟨1, 8, 0x12, [0xAB], true⟩, none, none, false⟩).speaks 1 ∧
    1 ≤ ([0xAB#8] : List Byte).length ∧ (List.replicate 8 0xAB#8).length ≤ 8 :=
  ⟨speaks_of (by decide +kernel), by decide +kernel, speaks_of (by decide +kernel), by decide +kernel⟩

/-- PANEL_RETRIES is 1: one attempt made, two attempts made. -/
theorem witness_panel_transfer : (panelState .sending 1).panel.inFlight.any (fun f => f.phase = .sending) = true ∧
    (panelState .awaiting 1).panel.inFlight.any (fun f => f.phase = .awaiting &&
      decide (f.attempts ≤ (panelState .awaiting 1).conf.settings.panelRetries) && !f.discard) = true ∧
    (panelState .awaiting 2).panel.inFlight.any (fun f =>
      decide ((panelState .awaiting 2).conf.settings.panelRetries < f.attempts)) = true ∧
    discardedState.panel.inFlight.any (fun f => f.phase = .awaiting && f.discard &&
      decide (discardedState.conf.settings.panelRetries < f.attempts)) = true := by decide +kernel

theorem witness_store : (CellStore.mk [(0, red), (767999, red)] 0).wf ∧
    (State.reset.setPending [.powerOn]).pending = [.powerOn] := by decide +kernel

theorem witness_pane_table : ownedState.paneTableOk ∧ guestState.workOk ∧ step (ownedState.setPending [.linkUp]) = exec .linkUp ownedState :=
  ⟨paneTableOk_of rfl (by decide +kernel), workOk_of (by decide +kernel), rfl⟩

theorem witness_geometry : ownedState.geometryOk := geometryOk_of rfl (by decide +kernel)

theorem witness_attention : ceilingState.attentionOk ∧ ceilingState.eventQueuesOk := by
  unfold State.attentionOk State.eventQueuesOk; decide +kernel

theorem witness_line_queue : State.reset.lineQueueOk ∧ State.reset.parkedOk :=
  ⟨by unfold State.lineQueueOk; decide +kernel, by decide, fun e he => by simp [State.reset] at he⟩

theorem witness_slots : State.reset.slotsOk := by
  have idle : ∀ h, State.reset.lane h = ⟨none, []⟩ := by decide +kernel
  have counts : ∀ h, (State.reset.port h).slots = holdings State.reset h ∧
    (State.reset.port h).slots + (State.reset.port h).responses.length ≤ 24 := by decide +kernel
  exact fun h => ⟨(counts h).1, (counts h).2, fun v hv => by simp [idle h] at hv⟩

theorem witness_budgets : (runState.setHost 2 { runState.host 2 with budget := 6, cells := 384 }).budgetsOk := by
  have idle : ∀ h, (runState.setHost 2 { runState.host 2 with budget := 6, cells := 384 }).lane h = ⟨none, []⟩ := by
    decide +kernel
  have cells : ∀ h, ((runState.setHost 2 { runState.host 2 with budget := 6, cells := 384 }).host h).cells ≤
      64 * ((runState.setHost 2 { runState.host 2 with budget := 6, cells := 384 }).host h).budget := by decide +kernel
  exact fun h => ⟨fun _ => cells h, fun v hv => by simp [idle h] at hv, fun hr => by simp [State.inRun, runState, State.setHost] at hr⟩

end Sys2Proof.Tests
end

section
/-! What every command keeps. -/
namespace Sys2Proof.Machine

/-! ## Requests, whichever way their frame comes (R107, R124 to R128) -/

/-- A cell operation whose counts are ones the port lets through (R125). -/
def CellOp.sized (op : CellOp) : Prop :=
  (∀ px py cells, op.body = .write px py cells → cells.length ≤ 64) ∧ ∀ r c, op.body = .fill r c → r.w ≠ 0 ∧ r.h ≠ 0

/-- The cell operation a request asks for, if any, has counts the port lets through (R125). -/
def countsOk (i : Instr) : Prop := ∀ op, requestedOp i = some op → op.sized

/-- What an event at port `h` in state `s` leaves when it is one of a request frame's: nothing done, the frame dropped or
answered without a slot, or the request `i` taken with its slot. -/
inductive Served (h : HostNo) (s : State) : State → Prop where
  | unserved : Served h s s
  | dropped : Served h s (dropFrame h s)
  | answered (r : Response) : Served h s (placeResponse h r s)
  | taken (i : Instr) (tag : Byte) (source : requestSource i = some (h, tag)) (counts : countsOk i) :
      Served h s (takeRequest i (takeSlot h s))

theorem admitFrame_served (h : HostNo) (kind tag : Byte) (refusal : Option Status) (take : State → State) (s : State)
    (taken : refusal = none → Served h s (take (takeSlot h s))) : Served h s (admitFrame h kind tag refusal take s) := by
  unfold admitFrame
  split
  · exact .dropped
  · split
    · exact .answered _
    · split
      · exact taken rfl
      · exact .answered _

theorem request_served_cases (h : HostNo) (k : Kind) (tag : Byte) (ok : Bool) (take : State → State) (s : State)
    (taken : ok = true → Served h s (take (takeSlot h s))) : Served h s (request h k tag ok take s) := by
  unfold request
  split
  · exact admitFrame_served _ _ _ _ _ _ fun ho => taken (by cases ok <;> simp_all)
  · exact .unserved

theorem cellCountOk_iff (n : Nat) : cellCountOk n = true ↔ 1 ≤ n ∧ n ≤ 64 := by
  rw [cellCountOk, Bool.and_eq_true, decide_eq_true_eq, decide_eq_true_eq]; rfl

/-- A request row is its frame at its host's port; `ok` is what the port finds of its counts (R125, Table 12-3). -/
theorem exec_eq_request (i : Instr) (h : HostNo) (tag : Byte) (s : State) (source : requestSource i = some (h, tag)) :
    ∃ k ok, exec i s = .next (request h k tag ok (takeRequest i) s) ∧ (ok = true → countsOk i) := by
  cases i <;> simp only [requestSource, reduceCtorEq, Option.some.injEq, Prod.mk.injEq] at source
  all_goals
    obtain ⟨rfl, rfl⟩ := source
    refine ⟨_, _, rfl, fun ok => ?_⟩
    simp [countsOk, requestedOp, CellOp.sized]
  case cellWrite => exact ((cellCountOk_iff _).1 ok).2
  case cellFill => simpa [fillAreaOk] using ok

/-- A request row at its host's port (R107, R125, R126, R128). -/
theorem exec_served (i : Instr) (h : HostNo) (tag : Byte) (s : State) (source : requestSource i = some (h, tag)) :
    ∃ t, exec i s = .next t ∧ Served h s t := by
  obtain ⟨k, ok, run, counts⟩ := exec_eq_request i h tag s source
  exact ⟨_, run, request_served_cases h k tag ok _ s fun ho => .taken i tag source (counts ho)⟩

theorem length_rawCellsOf (bytes : List Byte) : (rawCellsOf bytes).length = bytes.length / 3 := by
  induction bytes using rawCellsOf.induct with
  | case1 r g b rest ih => simp only [rawCellsOf, List.length_cons, ih]; omega
  | case2 bytes short =>
    rw [rawCellsOf.eq_2 bytes (by simpa using short)]
    match bytes, short with
    | [], _ | [_], _ | [_, _], _ => simp
    | r :: g :: b :: rest, short => exact absurd rfl (short r g b rest)

/-- The request an intact frame spells comes from the frame's port and has the counts of R125. -/
theorem requestOf_some (h : HostNo) (tag : Byte) (k : Kind) (sel : Byte) (arg : Half) (payload : List Byte) (i : Instr)
    (spells : requestOf h tag k sel arg payload = some i) : requestSource i = some (h, tag) ∧ countsOk i := by
  cases k
  case cellWrite =>
    rcases payload with _ | ⟨x1, _ | ⟨x0, _ | ⟨y1, _ | ⟨y0, _ | ⟨n, cells⟩⟩⟩⟩⟩
    case cons.cons.cons.cons.cons =>
      change (if _ then _ else _) = _ at spells
      obtain ⟨counts, rfl⟩ : _ ∧ _ = i := by simpa only [Option.ite_none_right_eq_some, Option.some.injEq] using spells
      simp only [Bool.and_eq_true, cellCountOk_iff, decide_eq_true_eq] at counts
      refine ⟨rfl, ?_⟩
      simp [countsOk, requestedOp, CellOp.sized, length_rawCellsOf]
      omega
    all_goals cases spells
  case panelSend =>
    rcases payload with _ | ⟨n, data⟩
    · cases spells
    · change (if _ then _ else _) = _ at spells
      obtain ⟨-, rfl⟩ : _ ∧ _ = i := by simpa only [Option.ite_none_right_eq_some, Option.some.injEq] using spells
      exact ⟨rfl, nofun⟩
  all_goals
    rcases payload with _ | ⟨x1, _ | ⟨x0, _ | ⟨y1, _ | ⟨y0, _ | ⟨w1, _ | ⟨w0, _ | ⟨h1, _ | ⟨h0, _ | ⟨r, _ | ⟨g, _ | ⟨b, _ | _⟩⟩⟩⟩⟩⟩⟩⟩⟩⟩⟩
  case cellFill.cons.cons.cons.cons.cons.cons.cons.cons.cons.cons.cons.nil =>
    change (if _ then _ else _) = _ at spells
    obtain ⟨area, rfl⟩ : _ ∧ _ = i := by simpa only [Option.ite_none_right_eq_some, Option.some.injEq] using spells
    exact ⟨rfl, by simpa [countsOk, requestedOp, CellOp.sized, fillAreaOk] using area⟩
  case cellRead.cons.cons.cons.cons.cons.cons.nil =>
    change (if _ then _ else _) = _ at spells
    obtain ⟨-, rfl⟩ : _ ∧ _ = i := by simpa only [Option.ite_none_right_eq_some, Option.some.injEq] using spells
    exact ⟨rfl, by simp [countsOk, requestedOp, CellOp.sized]⟩
  case faultClear.nil =>
    change (if _ then _ else _) = _ at spells
    split at spells <;> cases spells <;> exact ⟨rfl, nofun⟩
  all_goals cases spells
  all_goals exact ⟨rfl, nofun⟩

theorem examine_request (h : HostNo) (bytes : List Byte) (i : Instr) (spells : examine h bytes = .request i) :
    ∃ tag, requestSource i = some (h, tag) ∧ countsOk i := by
  unfold examine at spells
  dsimp only at spells
  (repeat' split at spells) <;> cases spells
  next found => exact ⟨_, requestOf_some _ _ _ _ _ _ _ found⟩

/-- The bytes an exchange shifted in, handled (R122, R124 to R126, R128). -/
theorem handleFrame_served (h : HostNo) (bytes : List Byte) (s : State) : Served h s (handleFrame h bytes s) := by
  unfold handleFrame
  split
  · exact .unserved
  · exact admitFrame_served _ _ _ _ _ _ nofun
  · exact admitFrame_served _ _ _ _ _ _ nofun
  · next i spells =>
    obtain ⟨tag, source, counts⟩ := examine_request h bytes i spells
    exact admitFrame_served _ _ _ _ _ _ fun _ => .taken i tag source counts

end Sys2Proof.Machine
end

section
/-! What every command leaves: the commands that wait, the RESET pin, in RUN the settings, and the stored cells but for
those of the write access in progress (R9, R11, R154). -/
namespace Sys2Proof.Machine

/-! ## The store at a reset (R11) -/

/-- A write access whose operation is gone is carried out like any other (R11, R88). -/
theorem resetStore_detached (cause : Cause) (h : HostNo) (s t : State) (store : t.store = s.store)
    (access : t.arbiter.access = s.arbiter.access.map (detachAccess h)) : resetStore cause t = resetStore cause s := by
  unfold resetStore
  rw [store, access]
  cases s.arbiter.access with
  | none => rfl
  | some x => cases cause <;> cases x <;> rfl

theorem resetStore_same (cause : Cause) (s t : State) (store : t.store = s.store)
    (access : t.arbiter.access = s.arbiter.access) : resetStore cause t = resetStore cause s := by
  unfold resetStore; rw [store, access]

/-! ## What a command that is no reset of its own keeps -/

/-- The commands that wait and the RESET pin stay, in RUN the settings and their writers too, and the store stays or takes
the cells of the write access in progress. -/
structure Steady (s t : State) : Prop where
  pending : t.pending = s.pending
  resetPin : t.resetPin = s.resetPin
  settings : s.inRun = true → t.inRun = true →
    t.conf.settings = s.conf.settings ∧ t.conf.writers = s.conf.writers ∧ t.conf.cause = s.conf.cause
  store : t.store = s.store ∨ t.store = resetStore .vote s

/-- The blocks `Steady` speaks of are the same. -/
structure SameCore (s t : State) : Prop where
  pending : t.pending = s.pending
  resetPin : t.resetPin = s.resetPin
  conf : t.conf = s.conf
  store : t.store = s.store

theorem SameCore.steady {s t : State} (same : SameCore s t) : Steady s t :=
  ⟨same.pending, same.resetPin, fun _ _ => by simp [same.conf], .inl same.store⟩

/-- A command that starts with something that leaves core and access. -/
theorem Steady.after {s u t : State} (same : SameCore s u) (access : resetStore .vote u = resetStore .vote s)
    (steady : Steady u t) : Steady s t where
  pending := steady.pending.trans same.pending
  resetPin := steady.resetPin.trans same.resetPin
  settings hs ht := by
    have := steady.settings (by simpa [State.inRun, same.conf] using hs) ht
    rwa [same.conf] at this
  store := by rw [← access, ← same.store]; exact steady.store

/-- A command that ends with something that leaves the core. -/
theorem Steady.before {s u t : State} (steady : Steady s u) (same : SameCore u t) : Steady s t where
  pending := same.pending.trans steady.pending
  resetPin := same.resetPin.trans steady.resetPin
  settings hs ht := by rw [same.conf]; exact steady.settings hs (by simpa [State.inRun, same.conf] using ht)
  store := by rw [same.store]; exact steady.store

/-- The judgement of a vote: nothing, the vote closed, or a part reset (R157). -/
theorem judgeVote_cases (s : State) : judgeVote s = s ∨ judgeVote s = closeVote s ∨ judgeVote s = partReset .vote s := by
  unfold judgeVote
  (repeat' split) <;> simp

theorem judgeVote_steady (s : State) : Steady s (judgeVote s) := by
  rcases judgeVote_cases s with same | closed | reset
  · rw [same]; exact SameCore.steady ⟨rfl, rfl, rfl, rfl⟩
  · rw [closed]; exact ⟨by simp, by simp, fun _ _ => by simp, .inl (by simp)⟩
  · rw [reset]; exact ⟨rfl, rfl, fun _ run => by simp [State.inRun, partReset, ConfigBlock.reset] at run, .inr rfl⟩

theorem settle_sameCore (s : State) : SameCore s (settle s) := ⟨by simp, by simp, by simp, by simp⟩

theorem departSilently_steady (h : HostNo) (kind : Departure) (s : State) : Steady s (departSilently h kind s) := by
  unfold departSilently
  refine Steady.before (Steady.after ⟨?_, ?_, ?_, ?_⟩ ?_ (judgeVote_steady _)) (settle_sameCore _)
  · simp
  · simp
  · simp
  · simp
  · exact resetStore_detached .vote h _ _ (by simp) (by simp [dropOps])

theorem detachHost_steady (h : HostNo) (tag : Byte) (mode : DetachMode) (s : State) :
    Steady s (detachHost h tag mode s) := by
  unfold detachHost
  refine Steady.before (Steady.after ⟨?_, ?_, ?_, ?_⟩ ?_ (judgeVote_steady _)) (settle_sameCore _)
  · simp
  · simp
  · simp
  · simp
  · exact resetStore_same .vote _ _ (by simp) (by simp)

/-! ## Requests -/

/-- The Host Table's check lets the request of an ACTIVE host through with its lease loaded, and otherwise answers it
(R107, R111). -/
theorem hostCheck_cases (h : HostNo) (k : Kind) (tag : Byte) (take : State → State) (s : State) :
    (s.isActive h = true ∧ hostCheck h k tag take s = take (loadLease h s)) ∨
      ∃ status, hostCheck h k tag take s = reply h k tag status .empty s := by
  unfold hostCheck
  cases state : (s.host h).state with
  | active => exact .inl ⟨by simp [isActive_eq, state], rfl⟩
  | absent => exact .inr ⟨_, rfl⟩
  | lapsed => exact .inr ⟨_, rfl⟩

theorem hostCheck_steady (h : HostNo) (k : Kind) (tag : Byte) (take : State → State) (s : State)
    (taken : ∀ u, Steady u (take u)) : Steady s (hostCheck h k tag take s) := by
  rcases hostCheck_cases h k tag take s with ⟨-, taking⟩ | ⟨status, answered⟩
  · rw [taking]
    exact .after (by constructor <;> simp) (resetStore_same .vote _ _ (by simp) (by simp)) (taken _)
  · rw [answered]; exact SameCore.steady (by constructor <;> simp)

theorem withPane_sameCore (h : HostNo) (k : Kind) (tag sel : Byte) (checks : PaneNo → List (Bool × Status))
    (take : PaneNo → State → State) (s : State) (taken : ∀ p, SameCore s (take p s)) :
    SameCore s (withPane h k tag sel checks take s) := by
  unfold withPane
  (repeat' split)
  case h_2 => exact taken _
  all_goals constructor <;> simp

theorem joinLane_sameCore (h : HostNo) (op : CellOp) (s : State) : SameCore s (joinLane h op s) := by
  unfold joinLane; split <;> constructor <;> simp

theorem takeConfigSet_steady (h : HostNo) (tag field : Byte) (value : Half) (cell : Option RawCell) (s : State) :
    Steady s (takeConfigSet h tag field value cell s) := by
  unfold takeConfigSet
  split
  · exact SameCore.steady (by constructor <;> simp)
  · next setup => (repeat' split) <;> exact ⟨by simp, by simp, fun run => absurd run setup, .inl (by simp)⟩

theorem takeStart_steady (h : HostNo) (tag : Byte) (s : State) : Steady s (takeStart h tag s) := by
  unfold takeStart
  split
  · exact SameCore.steady (by constructor <;> simp)
  · next setup => split <;> exact ⟨by simp, by simp, fun run => absurd run setup, .inl (by simp)⟩

theorem takeResetVote_steady (h : HostNo) (tag : Byte) (s : State) : Steady s (takeResetVote h tag s) := by
  unfold takeResetVote
  split
  · dsimp only
    have judged := judgeVote_steady
      (reply h .resetVote tag .accepted .empty ((if s.conf.vote = .idle then openVote h s else s).setHost h
        { (if s.conf.vote = .idle then openVote h s else s).host h with vote := true }))
    split at judged <;> rename_i vote
    · exact ⟨by simpa [vote] using judged.pending, by simpa [vote] using judged.resetPin,
        by simpa [vote, State.inRun] using judged.settings,
        by simpa [vote, resetStore] using judged.store⟩
    · exact ⟨by simpa [vote] using judged.pending, by simpa [vote] using judged.resetPin,
        by simpa [vote, State.inRun] using judged.settings,
        by simpa [vote, resetStore] using judged.store⟩
  · exact SameCore.steady (by constructor <;> simp)

theorem takeDetach_steady (h : HostNo) (tag mode : Byte) (s : State) : Steady s (takeDetach h tag mode s) := by
  unfold takeDetach
  split
  · exact SameCore.steady (by constructor <;> simp)
  · exact detachHost_steady _ _ _ _

theorem takePaneClaim_sameCore (h : HostNo) (tag : Byte) (rect : Rect) (buffering policy display : Byte) (s : State) :
    SameCore s (takePaneClaim h tag rect buffering policy display s) := by
  unfold takePaneClaim; (repeat' split) <;> constructor <;> simp

theorem takeFaultRead_sameCore (h : HostNo) (tag sel : Byte) (s : State) : SameCore s (takeFaultRead h tag sel s) := by
  unfold takeFaultRead; (repeat' split) <;> constructor <;> simp

theorem takeFaultClearOverflow_sameCore (h : HostNo) (tag : Byte) (s : State) :
    SameCore s (takeFaultClearOverflow h tag s) := by constructor <;> simp [takeFaultClearOverflow]

theorem clearSlot_sameCore (h : HostNo) (tag sel : Byte) (s : State) : SameCore s (clearSlot h tag sel s) := by
  unfold clearSlot; (repeat' split) <;> constructor <;> simp

theorem takeFaultClear_sameCore (h : HostNo) (tag sel : Byte) (s : State) : SameCore s (takeFaultClear h tag sel s) := by
  unfold takeFaultClear
  split
  · exact takeFaultClearOverflow_sameCore _ _ _
  · exact clearSlot_sameCore _ _ _ _

theorem takeRequest_steady (i : Instr) (s : State) : Steady s (takeRequest i s) := by
  cases i
  case attach => exact SameCore.steady (by constructor <;> simp [takeRequest, attachTaken, takeAttach])
  case status => exact SameCore.steady (by constructor <;> simp [takeRequest, statusTaken, takeStatus])
  case detach => exact hostCheck_steady _ _ _ _ _ fun u => takeDetach_steady _ _ _ _
  case configSet => exact hostCheck_steady _ _ _ _ _ fun u => takeConfigSet_steady _ _ _ _ _ _
  case configGet =>
    exact hostCheck_steady _ _ _ _ _ fun u => SameCore.steady (by unfold takeConfigGet; split <;> constructor <;> simp)
  case start => exact hostCheck_steady _ _ _ _ _ fun u => takeStart_steady _ _ _
  case resetVote => exact hostCheck_steady _ _ _ _ _ fun u => takeResetVote_steady _ _ _
  case paneClaim => exact hostCheck_steady _ _ _ _ _ fun u => (takePaneClaim_sameCore _ _ _ _ _ _ _).steady
  case cellWrite | cellFill | cellRead => exact hostCheck_steady _ _ _ _ _ fun u => (joinLane_sameCore _ _ _).steady
  case faultRead => exact hostCheck_steady _ _ _ _ _ fun u => (takeFaultRead_sameCore _ _ _ _).steady
  case faultClear => exact hostCheck_steady _ _ _ _ _ fun u => (takeFaultClear_sameCore _ _ _ _).steady
  case faultClearOverflow => exact hostCheck_steady _ _ _ _ _ fun u => (takeFaultClearOverflow_sameCore _ _ _).steady
  case eventFetch =>
    exact hostCheck_steady _ _ _ _ _ fun u => SameCore.steady (by constructor <;> simp [takeEventFetch])
  case panelSend => exact hostCheck_steady _ _ _ _ _ fun u => SameCore.steady (by constructor <;> simp)
  case paneStage | paneGuest | paneCommit | paneRelease | paneAdopt | paneQuery =>
    exact hostCheck_steady _ _ _ _ _ fun u =>
      (withPane_sameCore _ _ _ _ _ _ _ fun p => by constructor <;> simp).steady
  all_goals exact SameCore.steady ⟨rfl, rfl, rfl, rfl⟩

theorem Served.steady {h : HostNo} {s t : State} (served : Served h s t) : Steady s t := by
  cases served with
  | unserved => exact SameCore.steady ⟨rfl, rfl, rfl, rfl⟩
  | dropped => exact SameCore.steady (by constructor <;> simp)
  | answered r => exact SameCore.steady (by constructor <;> simp)
  | taken i tag source counts =>
    exact .after (by constructor <;> simp) (resetStore_same .vote _ _ (by simp) (by simp)) (takeRequest_steady i _)

/-! ## Every command -/

theorem exchangeEnd_steady (h : HostNo) (bytes : List Byte) (s : State) : Steady s (exchangeEnd h bytes s) := by
  unfold exchangeEnd
  split
  · exact SameCore.steady ⟨rfl, rfl, rfl, rfl⟩
  · exact .after (by constructor <;> simp) (resetStore_same .vote _ _ (by simp) (by simp)) (handleFrame_served _ _ _).steady

theorem presentDeasserted_steady (h : HostNo) (s : State) : Steady s (presentDeasserted h s) := by
  unfold presentDeasserted
  dsimp only
  split
  · split
    · exact .after (by constructor <;> simp) (resetStore_same .vote _ _ (by simp) (by simp)) (departSilently_steady _ _ _)
    · exact SameCore.steady (by constructor <;> simp)
    · exact SameCore.steady (by constructor <;> simp)
  · exact SameCore.steady ⟨rfl, rfl, rfl, rfl⟩

theorem leaseExpiry_steady (h : HostNo) (s : State) : Steady s (leaseExpiry h s) := by
  unfold leaseExpiry
  dsimp only
  split
  · exact .after (by constructor <;> simp) (resetStore_same .vote _ _ (by simp) (by simp)) (departSilently_steady _ _ _)
  · exact SameCore.steady ⟨rfl, rfl, rfl, rfl⟩

theorem windowExpiry_steady (s : State) : Steady s (windowExpiry s) :=
  ⟨by simp, by simp, fun _ _ => by simp, .inl (by simp)⟩

/-- The cells of a write access are those a reset would store (R9, R11). -/
theorem writeAccessComplete_steady (s : State) : Steady s (writeAccessComplete s) := by
  refine ⟨by simp, by simp, fun _ _ => by simp, ?_⟩
  unfold writeAccessComplete
  split
  · next access =>
    right
    simp only [settle_frame, resetStore, access]
    split <;> simp [storeCells]
  · exact .inl rfl

/-- A completion answers, or stops at an access outside the store (R2). -/
theorem completion_steady {names : Prop} (f : State → State) (s : State) (steady : Steady s (f s)) (named : names) :
    (∃ t, completion f s = .next t ∧ Steady s t) ∨
      (completion f s = .fault .outsideStore ∧ accessInStore s = false ∧ names) := by
  unfold completion
  split
  · exact .inl ⟨_, rfl, steady⟩
  · next outside => exact .inr ⟨rfl, by simpa using outside, named⟩

/-- A command that is not one of the pins' or POWER_ON answers a next state that keeps what `Steady` says, or stops at an
access outside the store (R2, R9, R11, R154). -/
theorem exec_steady (c : Instr) (s : State) (power : c ≠ .powerOn) (pin : c ≠ .resetPin) (release : c ≠ .resetPinRelease) :
    (∃ t, exec c s = .next t ∧ Steady s t) ∨ (exec c s = .fault .outsideStore ∧ accessInStore s = false ∧
      (c = .segmentReadComplete ∨ c = .writeAccessComplete ∨ c = .readAccessComplete)) := by
  cases source : requestSource c with
  | some origin =>
    obtain ⟨t, run, served⟩ := exec_served c origin.1 origin.2 s source
    exact .inl ⟨t, run, served.steady⟩
  | none =>
    cases c <;> simp only [requestSource, reduceCtorEq, ne_eq, not_true] at source power pin release
    case segmentReadComplete =>
      exact completion_steady _ _ (SameCore.steady (by constructor <;> simp)) (.inl rfl)
    case writeAccessComplete => exact completion_steady _ _ (writeAccessComplete_steady s) (.inr (.inl rfl))
    case readAccessComplete =>
      exact completion_steady _ _ (SameCore.steady (by constructor <;> simp)) (.inr (.inr rfl))
    all_goals refine .inl ⟨_, rfl, ?_⟩
    case exchangeEnd => exact exchangeEnd_steady _ _ _
    case hostPresentDeasserted => exact presentDeasserted_steady _ _
    case leaseExpiry => exact leaseExpiry_steady _ _
    case windowExpiry => exact windowExpiry_steady _
    all_goals exact SameCore.steady (by constructor <;> simp [presentAsserted])

/-! ## Stored cells (R2, R9, R11) -/

/-- A reset that is no power-on changes the places of the write access in progress alone (R9, R11). -/
theorem read_resetStore (cause : Cause) (s : State) (a : Nat) (power : cause ≠ .power) (other : a ∉ writtenPlaces s) :
    (resetStore cause s).read a = s.store.read a := by
  unfold resetStore
  unfold writtenPlaces at other
  split
  · exact absurd rfl power
  · next bank line first cells _ _ access =>
    rw [access] at other
    by_cases inside : runInStore line first cells.length = true
    · apply CellStore.read_writeRun_other
      rintro ⟨low, high⟩
      simp only [inside, if_true, List.mem_map, List.mem_range] at other
      exact other ⟨a - placeOf bank first line, by omega, by omega⟩
    · simp [CellStore.writeRun, inside]
  · rfl

theorem Steady.wf {s t : State} (steady : Steady s t) (wf : s.store.wf) : t.store.wf := by
  rcases steady.store with same | stored
  · rwa [same]
  · rw [stored]; exact wf_resetStore _ _ wf

/-- The write access in progress, with the places it will store to, does not depend on the RESET pin. -/
theorem resetStore_setResetPin (cause : Cause) (s : State) (v : Bool) :
    resetStore cause (s.setResetPin v) = resetStore cause s := resetStore_same _ _ _ rfl rfl

/-- What a command does to the stored cells: nothing, the write access in progress carried out, or, at POWER_ON, all
unknown again (R9, R11). -/
theorem exec_store (c : Instr) (s t : State) (run : exec c s = .next t) :
    (c = .powerOn ∧ t.store = resetStore .power s) ∨ t.store = s.store ∨
      ∃ cause, cause ≠ .power ∧ t.store = resetStore cause s := by
  by_cases power : c = .powerOn
  · subst power; cases run; exact .inl ⟨rfl, rfl⟩
  by_cases pin : c = .resetPin
  · subst pin; cases run; exact .inr (.inr ⟨.pin, by simp, resetStore_setResetPin _ _ _⟩)
  by_cases release : c = .resetPinRelease
  · subst release; cases run; exact .inr (.inl rfl)
  rcases exec_steady c s power pin release with ⟨u, next, steady⟩ | ⟨stop, -⟩
  · rw [next] at run; cases run
    exact .inr (steady.store.imp_right fun stored => ⟨.vote, by simp, stored⟩)
  · rw [stop] at run; cases run

theorem exec_wf (c : Instr) (s t : State) (wf : s.store.wf) (run : exec c s = .next t) : t.store.wf := by
  rcases exec_store c s t run with ⟨-, stored⟩ | same | ⟨cause, -, stored⟩
  · rw [stored]; exact wf_resetStore _ _ wf
  · rwa [same]
  · rw [stored]; exact wf_resetStore _ _ wf

theorem exec_changed_cell (c : Instr) (s t : State) (a : Nat) (run : exec c s = .next t)
    (changed : t.store.read a ≠ s.store.read a) : c = .powerOn ∨ a ∈ writtenPlaces s := by
  rcases exec_store c s t run with ⟨power, -⟩ | same | ⟨cause, kept, stored⟩
  · exact .inl power
  · rw [same] at changed; exact absurd rfl changed
  · by_contra other
    rw [stored] at changed
    exact changed (read_resetStore cause s a kept fun h => other (.inr h))

/-! ## The events of a tick -/

/-- A timer that comes due acts as a command does, and one that does not does nothing. -/
theorem due_cases (due : State → State) (timer : due ∈ timers) (x : State) :
    due x = x ∨ ∃ c, c ≠ .powerOn ∧ exec c x = .next (due x) := by
  have lease (h : HostNo) : leaseDue h x = x ∨ ∃ c, c ≠ .powerOn ∧ exec c x = .next (leaseDue h x) := by
    unfold leaseDue
    (repeat' split)
    · exact .inr ⟨.leaseExpiry h, by simp, rfl⟩
    · exact .inr ⟨.leaseWarn h, by simp, rfl⟩
    · exact .inl rfl
    · exact .inl rfl
  simp only [timers, List.mem_cons, List.not_mem_nil, or_false] at timer
  rcases timer with rfl | rfl | rfl | rfl | rfl | rfl | rfl
  · unfold replyDue; split
    · exact .inr ⟨.replyTimerExpiry, by simp, rfl⟩
    · exact .inl rfl
  · unfold windowDue; split
    · exact .inr ⟨.windowExpiry, by simp, rfl⟩
    · exact .inl rfl
  · exact lease 0
  · exact lease 1
  · exact lease 2
  · exact lease 3
  · unfold lineDue; split
    · exact .inr ⟨.lineMark, by simp, rfl⟩
    · exact .inl rfl

/-- Each event of a tick is nothing or one timer's. -/
theorem tickAfter_succ (s : State) (n : Nat) :
    s.tickAfter (n + 1) = s.tickAfter n ∨ ∃ due ∈ timers, s.tickAfter (n + 1) = due (s.tickAfter n) := by
  unfold State.tickAfter
  by_cases inside : n < timers.length
  · rw [List.take_succ_eq_append_getElem inside, List.foldl_append]
    exact .inr ⟨timers[n], List.getElem_mem inside, rfl⟩
  · rw [List.take_of_length_le (by omega), List.take_of_length_le (by omega)]
    exact .inl rfl

theorem tickAfter_cases (s : State) (n : Nat) :
    s.tickAfter (n + 1) = s.tickAfter n ∨
      ∃ c, c ≠ .powerOn ∧ exec c (s.tickAfter n) = .next (s.tickAfter (n + 1)) := by
  rcases tickAfter_succ s n with same | ⟨due, timer, acts⟩
  · exact .inl same
  · rw [acts]; exact due_cases due timer _

theorem tickAfter_zero (s : State) : s.tickAfter 0 = countTick s := by
  rw [State.tickAfter, List.take_zero, List.foldl_nil]

theorem tick_eq_tickAfter (s : State) : tick s = s.tickAfter 7 := by
  simp only [tick, forEach_allHosts, State.tickAfter, timers, List.take, List.foldl]

/-- What every command keeps and a tick's count keeps, a tick keeps. -/
theorem tick_induct (P : State → Prop) (s : State) (count : P (countTick s))
    (command : ∀ c x y, c ≠ .powerOn → P x → exec c x = .next y → P y) : P (tick s) := by
  have after (n : Nat) : P (s.tickAfter n) := by
    induction n with
    | zero => rw [tickAfter_zero]; exact count
    | succ n ih =>
      rcases tickAfter_cases s n with same | ⟨c, power, acts⟩
      · rwa [same]
      · exact command c _ _ power ih acts
  rw [tick_eq_tickAfter]
  exact after 7

/-- What every command keeps whatever waits, and the count of a tick keeps, a step keeps. -/
theorem step_induct (P : State → Prop) (s t : State) (run : step s = .next t) (pending : ∀ rest, P (s.setPending rest))
    (count : P (countTick s)) (command : ∀ c x y, P x → exec c x = .next y → P y) : P t := by
  unfold step at run
  split at run
  · exact command _ _ _ (pending _) run
  · obtain rfl : tick s = t := Host.Outcome.next.inj run
    exact tick_induct P s count fun c x y _ => command c x y

/-- Settles O51: a command stores nothing or carries out the write access in progress, and a tick is a run of commands. -/
theorem storeKeepsItsForm : Obligations.StoreKeepsItsForm := by
  unfold Obligations.StoreKeepsItsForm
  intro s t wf run
  exact step_induct (·.store.wf) s t run (fun _ => wf) (by simpa using wf) exec_wf

/-- Settles O52: at each event the store takes at most the cells of the write access in progress. -/
theorem storedCellsChangeOnlyByWrites : Obligations.StoredCellsChangeOnlyByWrites := by
  unfold Obligations.StoredCellsChangeOnlyByWrites
  intro s t a run
  unfold step at run
  constructor
  · intro c rest waiting changed
    rw [waiting] at run
    exact exec_changed_cell c (s.setPending rest) t a run changed
  · intro idle
    rw [idle] at run
    obtain rfl : tick s = t := Host.Outcome.next.inj run
    refine ⟨?_, ?_, (tick_eq_tickAfter s).symm, fun n => ⟨tickAfter_cases s n, fun changed => ?_⟩⟩
    · simp [tickAfter_zero]
    · simp [tickAfter_zero, writtenPlaces]
    · rcases tickAfter_cases s n with same | ⟨c, power, acts⟩
      · rw [same] at changed; exact absurd rfl changed
      · exact (exec_changed_cell c _ _ a acts changed).resolve_left power

/-- Settles O2: `exec_steady`, and the three commands of the pins and of power-on one by one. -/
theorem everyCommandCompletes : Obligations.EveryCommandCompletes := by
  unfold Obligations.EveryCommandCompletes
  intro c s
  by_cases power : c = .powerOn
  · subst power
    exact .inl ⟨_, rfl, rfl, fun _ _ => rfl, fun _ run => by simp [State.inRun, partReset, ConfigBlock.reset] at run⟩
  by_cases pin : c = .resetPin
  · subst pin
    exact .inl ⟨_, rfl, rfl, fun h => absurd rfl h, fun _ run => by
      simp [State.inRun, partReset, ConfigBlock.reset] at run⟩
  by_cases release : c = .resetPinRelease
  · subst release
    exact .inl ⟨_, rfl, rfl, fun _ h => absurd rfl h, fun _ _ => ⟨rfl, rfl, rfl⟩⟩
  rcases exec_steady c s power pin release with ⟨t, run, steady⟩ | stop
  · exact .inl ⟨t, run, steady.pending, fun _ _ => steady.resetPin, steady.settings⟩
  · exact .inr stop

end Sys2Proof.Machine
end

section
/-! The reset state, part resets, and what a segment read composes. -/
namespace Sys2Proof.Machine

/-! ## The records right after power-on -/

@[simp] theorem pane_reset (p : PaneNo) : State.reset.pane p = .free 0 := by simp [State.pane, State.reset]
@[simp] theorem lane_reset (h : HostNo) : State.reset.lane h = ⟨none, []⟩ := by simp [State.lane, State.reset]
@[simp] theorem host_reset (h : HostNo) : State.reset.host h = .reset := by simp [State.host, State.reset]
@[simp] theorem port_reset (h : HostNo) : State.reset.port h = .reset true := by simp [State.port, State.reset]
@[simp] theorem queue_reset (h : HostNo) : State.reset.queue h = ⟨[], 0⟩ := by simp [State.queue, State.reset]

@[simp] theorem panel_reset : State.reset.panel = .reset := rfl
@[simp] theorem scan_reset : State.reset.scan = .reset .down := rfl
@[simp] theorem arbiter_reset : State.reset.arbiter = .reset := rfl
@[simp] theorem conf_reset : State.reset.conf = .reset .power := rfl
@[simp] theorem parked_reset : State.reset.parked = [] := rfl
@[simp] theorem faults_reset : State.reset.faults = ⟨.replicate 16 none, 0⟩ := rfl

/-! ## The records after a part reset (R159) -/

variable (cause : Cause) (s : State)

@[simp] theorem pane_partReset (p : PaneNo) : (partReset cause s).pane p = .free 0 := pane_reset p
@[simp] theorem lane_partReset (h : HostNo) : (partReset cause s).lane h = ⟨none, []⟩ := lane_reset h
@[simp] theorem host_partReset (h : HostNo) : (partReset cause s).host h = .reset := host_reset h
@[simp] theorem queue_partReset (h : HostNo) : (partReset cause s).queue h = ⟨[], 0⟩ := queue_reset h
@[simp] theorem port_partReset (h : HostNo) : (partReset cause s).port h = .reset (s.port h).present := by
  simp [State.port, partReset]

theorem reset_settings : Settings.reset =
    { frameWidth := 800, frameHeight := 480, blankLines := 12, linePeriod := 1000, backdrop := ⟨0, 0, 0⟩, urgentLevel := 2,
      panicLevel := 1, relatchLimit := 3, leasePeriod := 50, reserved := #v[8, 8, 8, 8], budget := #v[0, 0, 0, 0],
      panelTimeout := 20, panelRetries := 1 } := by decide

/-- A state whose blocks but for store, pins and link are those after a part reset is a part reset of any state with the
same present lines and link. -/
theorem resetFrom_partReset (t : State) (link : s.scan.link = t.scan.link)
    (present : ∀ h, (s.port h).present = (t.port h).present) : s.resetFrom cause (partReset cause t) := by
  refine ⟨rfl, rfl, rfl, rfl, reset_settings, ?_, pane_partReset cause t, ?_, ?_, queue_partReset cause t,
    lane_partReset cause t, rfl, ?_, rfl, rfl, ?_, rfl⟩
  · intro f; simp [partReset, ConfigBlock.reset]
  · intro h; simp [HostRecord.reset]
  · intro h; simp [Port.reset, present]
  · intro i; simp [partReset, State.reset]
  · rw [link]; rfl

/-- Settles O4: POWER_ON is the part reset of cause POWER. -/
theorem powerOnResets : Obligations.PowerOnResets := by
  unfold Obligations.PowerOnResets
  intro s
  exact ⟨_, rfl, resetFrom_partReset .power s s rfl fun _ => rfl, rfl, rfl⟩

/-- Settles O5: RESET_PIN is the part reset of cause PIN, whose store is that of a write access carried out. -/
theorem resetPinResets : Obligations.ResetPinResets := by
  unfold Obligations.ResetPinResets
  intro s
  have stored : (partReset .pin (s.setResetPin true)).store = resetStore .pin s := resetStore_setResetPin _ _ _
  refine ⟨⟨_, rfl, resetFrom_partReset .pin s _ rfl fun _ => rfl, rfl, fun a other => ?_, ?_⟩, rfl⟩
  · rw [stored]; exact read_resetStore .pin s a (by simp) other
  · intro live h bank line first cells restart access inside i c cell
    simp only [stored, resetStore, access]
    exact CellStore.read_writeRun_same _ _ _ _ _ inside i c cell

/-- Settles O7: every block is empty at its reset values. -/
theorem invariantsAtReset : Obligations.InvariantsAtReset := by
  unfold Obligations.InvariantsAtReset
  refine ⟨wf_store_reset, ?_, ?_, ?_, ?_, ?_, ?_, ?_, ?_, ?_, ?_, ?_, ?_⟩
  · simp [State.paneTableOk, Pane.fieldsOk, Pane.rightsOk, Pane.free]
  · simp [State.workOk]
  · simp [State.panesApart, Pane.free]
  · simp [State.attentionOk, Port.reset]
  · simp [State.eventQueuesOk]
  · simp [State.faultLogOk]
  · simp [State.slotsOk, holdings, Port.reset, Pane.free, Panel.reset]
  · simp [State.lineQueueOk, Scan.reset, Arbiter.reset, ConfigBlock.reset, Settings.reset, urgencyOf]
  · simp [State.parkedOk]
  · simp [State.geometryOk, Settings.frameOk, Pane.free, Scan.reset, Arbiter.reset, ConfigBlock.reset, Settings.reset,
      accessInStore]
  · simp [State.budgetsOk, HostRecord.reset]
  · refine ⟨rfl, rfl, rfl, rfl, reset_settings, ?_, pane_reset, ?_, ?_, queue_reset, lane_reset, rfl, ?_, rfl,
      rfl, rfl, rfl⟩
    · simp [ConfigBlock.reset]
    · simp [HostRecord.reset]
    · simp [Port.reset]
    · simp

/-! ## Composition (R4, R6, R7) -/

theorem rectHolds_iff (r : Rect) (x y : Nat) :
    rectHolds r x y = true ↔ r.x ≤ x ∧ x < r.x + r.w ∧ r.y ≤ y ∧ y < r.y + r.h := by
  simp [rectHolds, and_assoc]

theorem shown_iff (q : Pane) : q.shown = true ↔ q.state = .live ∨ q.state = .retiring ∨
    (q.state = .orphaned ∧ ∃ m, q.modes = some m ∧ m.display = .keep) := by
  unfold Pane.shown
  cases q.state <;> simp [Option.any_eq_true]

/-- A pane shows frame cell (x, y) (R6). -/
def showsAt (s : State) (x y : Nat) (p : PaneNo) : Bool :=
  (s.pane p).shown && (s.pane p).current.any fun r => rectHolds r x y

theorem showsAt_iff (s : State) (x y : Nat) (p : PaneNo) : showsAt s x y p = true ↔
    ((s.pane p).state = .live ∨ (s.pane p).state = .retiring ∨
      ((s.pane p).state = .orphaned ∧ ∃ m, (s.pane p).modes = some m ∧ m.display = .keep)) ∧
    ∃ r, (s.pane p).current = some r ∧ r.x ≤ x ∧ x < r.x + r.w ∧ r.y ≤ y ∧ y < r.y + r.h := by
  simp [showsAt, shown_iff, Option.any_eq_true, rectHolds_iff]

/-- At most one pane shows a cell (R14). -/
theorem showsAt_unique (s : State) (apart : s.panesApart) (x y : Nat) (p q : PaneNo) (hp : showsAt s x y p = true)
    (hq : showsAt s x y q = true) : p = q := by
  obtain ⟨shownP, r, current, holds⟩ := (showsAt_iff s x y p).1 hp
  obtain ⟨shownQ, r', current', holds'⟩ := (showsAt_iff s x y q).1 hq
  by_contra differ
  refine apart p q differ ?_ ?_ r (by simp [Pane.rects, current]) r' (by simp [Pane.rects, current']) x y
    ⟨(rectHolds_iff r x y).2 holds, (rectHolds_iff r' x y).2 holds'⟩
  · rcases shownP with h | h | ⟨h, -⟩ <;> simp [h]
  · rcases shownQ with h | h | ⟨h, -⟩ <;> simp [h]

theorem shownCell_of_shows (s : State) (apart : s.panesApart) (x y : Nat) (p : PaneNo) (shows : showsAt s x y p = true) :
    shownCell s x y = s.store.at (s.pane p).front x y := by
  have found : allPanes.find? (showsAt s x y) = some p :=
    (allPanes_find?_some _ p).2 ⟨shows, fun q below => by
      by_contra other
      exact absurd (showsAt_unique s apart x y q p (by simpa using other) shows) (ne_of_lt below)⟩
  unfold shownCell
  split
  · next q hq => rw [Option.some.inj (found.symm.trans hq)]
  · next hq => cases found.symm.trans hq

theorem shownCell_of_none (s : State) (x y : Nat) (none : ∀ p, showsAt s x y p = false) :
    shownCell s x y = s.conf.settings.backdrop := by
  have missing : allPanes.find? (showsAt s x y) = .none := (allPanes_find?_none _).2 none
  unfold shownCell
  split
  · next q hq => cases missing.symm.trans hq
  · rfl

theorem composeSegment_length (s : State) (line segment : Nat) :
    (composeSegment s line segment).length = min 32 (s.conf.settings.frameWidth - 32 * segment) := by
  simp [composeSegment, Config.segmentCells]

theorem composeSegment_get (s : State) (line segment i : Nat)
    (inside : i < min 32 (s.conf.settings.frameWidth - 32 * segment)) :
    (composeSegment s line segment)[i]? = some (shownCell s (32 * segment + i) line) := by
  simp only [composeSegment, Config.segmentCells, List.getElem?_map, List.getElem?_range inside, Option.map_some]

/-- Settles O33: at most one pane shows a cell, so the lookup over the panes finds it (R6, R14). -/
theorem segmentComposition : Obligations.SegmentComposition := by
  unfold Obligations.SegmentComposition
  intro s line segment apart shown
  refine ⟨composeSegment_length s line segment, fun i inside => ⟨fun p m shows modes => ?_, fun bare => ?_⟩⟩
  · rw [composeSegment_get s line segment i inside,
      shownCell_of_shows s apart _ _ p ((showsAt_iff s _ line p).2 shows)]
    have front : (s.pane p).front = m.front := by simp [Pane.front, modes]
    refine congrArg (fun a => some (s.store.read a)) ?_
    rw [front]
    cases m.front <;> simp only [placeOf, Config.bankCells, Config.columns] <;> omega
  · rw [composeSegment_get s line segment i inside, shownCell_of_none]
    intro p
    by_contra shows
    exact bare p ((showsAt_iff s _ line p).1 (by simpa using shows))

end Sys2Proof.Machine
end

section
/-! What can happen to panes, lanes, latch and the access in progress, said once: every operation that follows from an
event is a run of the moves below. -/
namespace Sys2Proof.Machine

/-! ## Moves -/

/-- Nothing changes of the settings in force, the panes, the lanes, the latch, the cursor and the access in progress, and
the same hosts are ACTIVE. -/
structure Quiet (s t : State) : Prop where
  settings : t.conf.settings = s.conf.settings
  part : t.conf.part = s.conf.part
  pane : ∀ p, t.pane p = s.pane p
  lane : ∀ h, t.lane h = s.lane h
  active : ∀ h, t.isActive h = s.isActive h
  latch : t.scan.latch = s.scan.latch
  cursor : t.scan.cursorLine = s.scan.cursorLine
  access : t.arbiter.access = s.arbiter.access

theorem Quiet.inRun {s t : State} (quiet : Quiet s t) : t.inRun = s.inRun := by simp [State.inRun, quiet.part]

/-- A rectangle, or "none", that PANE_STAGE may stage on pane `q` as things stand (R17). -/
structure Stageable (s : State) (q : Pane) (rect : Option Rect) : Prop where
  owned : q.state = .pending ∨ q.state = .live
  uncommitted : q.commit = none
  present : rect = none → q.state ≠ .pending
  valid : ∀ r, rect = some r → s.rectValid r = true

/-- What becomes of the record of pane `p`, but where rights on it end. -/
inductive PaneMove (s : State) (p : PaneNo) : Pane → Prop where
  /-- A commit is taken (R39). -/
  | commit (t : Half) (owned : (s.pane p).held.isSome ∨ (s.pane p).state = .pending ∨ (s.pane p).state = .live) :
      PaneMove s p { s.pane p with commit := some t, held := none }
  /-- A held PANE_COMMIT waits for fewer operations (R37). -/
  | count (tag : Byte) (n m : Nat) (held : (s.pane p).held = some (.commit tag n)) :
      PaneMove s p { s.pane p with held := some (.commit tag m) }
  /-- A PANE_COMMIT is held (R36). -/
  | holdCommit (tag : Byte) (n : Nat) (owned : (s.pane p).state = .pending ∨ (s.pane p).state = .live)
      (uncommitted : (s.pane p).commit = none) : PaneMove s p { s.pane p with held := some (.commit tag n) }
  /-- A held request is answered (R18). -/
  | unhold : PaneMove s p { s.pane p with held := none }
  /-- A held PANE_STAGE is taken (R18). -/
  | stageHeld (tag : Byte) (rect : Option Rect) (held : (s.pane p).held = some (.stage tag rect)) :
      PaneMove s p { s.pane p with held := none, staged := rect }
  /-- A PANE_STAGE is held (R17). -/
  | holdStage (tag : Byte) (rect : Option Rect) (stageable : Stageable s (s.pane p) rect) :
      PaneMove s p { s.pane p with held := some (.stage tag rect) }
  /-- A PANE_STAGE is taken at once (R17). -/
  | stage (rect : Option Rect) (stageable : Stageable s (s.pane p) rect) :
      PaneMove s p { s.pane p with staged := rect }
  /-- A tear is counted (R93). -/
  | tear : PaneMove s p { s.pane p with tears := satSucc (s.pane p).tears }
  /-- A boundary frees a RETIRING pane (R44). -/
  | free (retiring : (s.pane p).state = .retiring) : PaneMove s p (.free (s.pane p).tears)
  /-- A boundary applies a pending commit (R45, R46). -/
  | apply (owned : (s.pane p).state = .pending ∨ (s.pane p).state = .live) (committed : (s.pane p).commit.isSome) :
      PaneMove s p (committedPane (s.pane p))
  /-- A pane is claimed (R16). -/
  | claim (h : HostNo) (rect : Rect) (m : PaneModes) (run : s.inRun = true) (active : s.isActive h = true)
      (free : (s.pane p).state = .free) (valid : s.rectValid rect = true) (front : m.front = .a) :
      PaneMove s p (claimedPane h rect m)
  /-- An ORPHANED pane is adopted (R30). -/
  | adopt (h : HostNo) (active : s.isActive h = true) (orphaned : (s.pane p).state = .orphaned) :
      PaneMove s p (adoptedPane h (s.pane p))

/-- What becomes of host `h`'s lane, but where operations are stopped or dropped. -/
inductive LaneMove (s : State) (h : HostNo) : Lane → Prop where
  /-- An operation joins the tail (R72). -/
  | join (op : CellOp) (sized : op.sized) : LaneMove s h { s.lane h with queued := (s.lane h).queued ++ [op] }
  /-- The head operation is in service (R74, R75). -/
  | begin (op : CellOp) (rest : List CellOp) (p : PaneNo) (area : Rect) (run : s.inRun = true)
      (idle : (s.lane h).service = none) (head : (s.lane h).queued = op :: rest)
      (passes : serviceCheck s h op = .ok (p, area)) :
      LaneMove s h ⟨some ⟨op, p, area, area.y, area.x, .made, 0, none, []⟩, rest⟩
  /-- The head operation is refused (R74). -/
  | refuse (op : CellOp) (rest : List CellOp) (head : (s.lane h).queued = op :: rest) : LaneMove s h ⟨none, rest⟩
  /-- The access of the operation in service, none in progress, is tested, withdrawn or parked (Table 5-3). -/
  | test (v : Service) (a : AccessState) (service : (s.lane h).service = some v) (idle : v.access ≠ .inProgress) :
      LaneMove s h { s.lane h with service := some { v with access := a } }
  /-- The operation in service makes its next access (R76, R79). -/
  | advance (v : Service) (n line col : Nat) (service : (s.lane h).service = some v) (going : v.stop = none)
      (next : v.following = some (line, col)) :
      LaneMove s h { s.lane h with service := some { v with written := n, line := line, col := col, access := .made } }
  /-- The operation in service ends (R84). -/
  | finish : LaneMove s h { s.lane h with service := none }
  /-- A DETACH response waits for the operation in service (R117). -/
  | delay (v : Service) (rs : List Response) (service : (s.lane h).service = some v) :
      LaneMove s h { s.lane h with service := some { v with delayed := rs } }

/-- What becomes of the latch in flight and the cursor. -/
inductive ScanMove (s : State) : Scan → Prop where
  /-- The latch is torn (R93). -/
  | tear (l : Latch) (latch : s.scan.latch = some l) : ScanMove s { s.scan with latch := some { l with torn := true } }
  /-- The latch begins again (R100). -/
  | restart (l : Latch) (latch : s.scan.latch = some l) : ScanMove s
      { s.scan with latch := some { l with segment := 0, gathered := [], torn := false, restarts := l.restarts + 1 } }
  /-- The latch goes on to its next segment (R56). -/
  | gather (l : Latch) (cells : List Cell) (latch : s.scan.latch = some l)
      (more : l.segment + 1 < segmentCount s.conf.settings.frameWidth) : ScanMove s
      { s.scan with latch := some { l with gathered := l.gathered ++ [cells], segment := l.segment + 1 } }
  /-- The latch completes (R57). -/
  | complete (l : Latch) (entry : LineEntry) (latch : s.scan.latch = some l) : ScanMove s
      { s.scan with
        latch := none,
        cursorFrame := (cursorAfter s.conf.settings.frameHeight s.scan.cursorFrame s.scan.cursorLine).1,
        cursorLine := (cursorAfter s.conf.settings.frameHeight s.scan.cursorFrame s.scan.cursorLine).2,
        queue := s.scan.queue ++ [entry] }
  /-- The cursor skips a line (R63). -/
  | skip (frame : Half) (k : Nat) (run : s.inRun = true) : ScanMove s
      { s.scan with
        cursorFrame := (cursorAfter s.conf.settings.frameHeight frame k).1,
        cursorLine := (cursorAfter s.conf.settings.frameHeight frame k).2 }
  /-- A latch of the cursor's line starts (R54). -/
  | start (run : s.inRun = true) : ScanMove s
      { s.scan with latch := some ⟨s.scan.cursorFrame, s.scan.cursorLine, 0, [], false, 0⟩ }

/-- One move of what a step does, but where rights end and at resets. -/
inductive Move : State → State → Prop where
  | quiet {s t : State} (same : Quiet s t) : Move s t
  | pane {s : State} (p : PaneNo) (q : Pane) (move : PaneMove s p q) : Move s (s.setPane p q)
  | lane {s : State} (h : HostNo) (l : Lane) (move : LaneMove s h l) : Move s (s.setLane h l)
  | scan {s : State} (x : Scan) (move : ScanMove s x) : Move s (s.setScan x)
  /-- The latch's segment read is granted (R66). -/
  | grantSegment {s : State} (l : Latch) (latch : s.scan.latch = some l) : Move s (grantSegment l s)
  /-- An access of host `h`'s operation in service is granted (R66). -/
  | grantRead {s : State} (h : HostNo) (v : Service) (back : Bool) (service : (s.lane h).service = some v)
      (idle : v.access ≠ .inProgress) : Move s (grantRead h v back s)
  | grantWrite {s : State} (h : HostNo) (v : Service) (restart : Option (Half × Nat))
      (service : (s.lane h).service = some v) (idle : v.access ≠ .inProgress) : Move s (grantWrite h v restart s)
  /-- The store is free again (R66). -/
  | free {s : State} : Move s (freeStore s)
  /-- The latch is abandoned (R63). -/
  | abandon {s : State} : Move s (abandonLatch s)
  /-- Operations are stopped (R86) or dropped (R88). -/
  | stop {s : State} (h : HostNo) (test : CellOp → Bool) (parked : Parked → Bool) (status : Status) :
      Move s (stopOps h test parked status s)
  | drop {s : State} (h : HostNo) : Move s (dropOps h s)

/-- A run of moves. -/
abbrev Moves : State → State → Prop := Relation.ReflTransGen Move

theorem Quiet.moves {s t : State} (quiet : Quiet s t) : Moves s t := .single (.quiet quiet)
theorem PaneMove.moves {s : State} {p : PaneNo} {q : Pane} (move : PaneMove s p q) : Moves s (s.setPane p q) :=
  .single (.pane p q move)
theorem LaneMove.moves {s : State} {h : HostNo} {l : Lane} (move : LaneMove s h l) : Moves s (s.setLane h l) :=
  .single (.lane h l move)
theorem ScanMove.moves {s : State} {x : Scan} (move : ScanMove s x) : Moves s (s.setScan x) := .single (.scan x move)

theorem forEach_moves {α : Type} (f : α → State → State) (l : List α) (s : State) (move : ∀ a t, Moves t (f a t)) :
    Moves s (forEach l f s) :=
  forEach_induct (Moves s) f (fun a t run => run.trans (move a t)) l s .refl

/-! ## Operations over ports, events, faults and the panel make no other move -/

theorem answer_quiet (h : HostNo) (r : Response) (s : State) : Quiet s (answer h r s) := by constructor <;> simp
theorem answerAll_quiet (h : HostNo) (rs : List Response) (s : State) : Quiet s (answerAll h rs s) := by
  constructor <;> simp
theorem reply_quiet (h : HostNo) (k : Kind) (tag : Byte) (st : Status) (pl : Payload) (s : State) :
    Quiet s (reply h k tag st pl s) := by constructor <;> simp
theorem postTo_quiet (hs : List HostNo) (e : Event) (s : State) : Quiet s (postTo hs e s) := by constructor <;> simp
theorem reportFault_quiet (r : FaultRecord) (s : State) : Quiet s (reportFault r s) := by constructor <;> simp
theorem noteBudget_quiet (h : HostNo) (p : PaneNo) (s : State) : Quiet s (noteBudget h p s) := by constructor <;> simp
theorem startTransfer_quiet (s : State) : Quiet s (startTransfer s) := by constructor <;> simp
theorem refreshUrgency_quiet (s : State) : Quiet s (refreshUrgency s) := by constructor <;> simp

theorem setHost_quiet (h : HostNo) (v : HostRecord) (s : State) (state : v.state = (s.host h).state) :
    Quiet s (s.setHost h v) := by
  constructor <;> simp [state]

/-! ## The end of an operation (R18, R37, R84) -/

/-- The access of the operation in service, none in progress, comes to another state. -/
theorem setAccess_moves (h : HostNo) (a : AccessState) (v : Service) (s : State) (service : (s.lane h).service = some v)
    (idle : v.access ≠ .inProgress) : Moves s (setAccess h a s) := by
  simpa [setAccess, service] using (LaneMove.test v a service idle).moves

theorem withdrawOffer_moves (p : PaneNo) (h : HostNo) (s : State) : Moves s (withdrawOffer p h s) := by
  unfold withdrawOffer
  split
  · next v service =>
    split
    · next offered => exact setAccess_moves h .made v s service (by simp_all)
    · exact .refl
  · exact .refl

theorem recordCommit_moves (h : HostNo) (p : PaneNo) (s : State)
    (owned : (s.pane p).held.isSome ∨ (s.pane p).state = .pending ∨ (s.pane p).state = .live) :
    Moves s (recordCommit h p s) := by
  unfold recordCommit
  dsimp only
  have recorded := (setHost_quiet h { s.host h with tickets := (s.host h).tickets + 1 } s rfl).moves.trans
    (PaneMove.commit (p := p) (s.host h).tickets (by simpa using owned)).moves
  split
  · exact recorded.trans (forEach_moves _ _ _ (withdrawOffer_moves p))
  · exact recorded

theorem takeCommit_moves (h : HostNo) (p : PaneNo) (tag : Byte) (s : State)
    (owned : (s.pane p).held.isSome ∨ (s.pane p).state = .pending ∨ (s.pane p).state = .live) :
    Moves s (takeCommit h p tag s) := (recordCommit_moves h p s owned).trans (reply_quiet _ _ _ _ _ _).moves

theorem takeStageIfIdle_moves (p : PaneNo) (s : State) : Moves s (takeStageIfIdle p s) := by
  unfold takeStageIfIdle
  split
  · next tag rect h held _ =>
    split
    · exact .refl
    · unfold takeHeldStage
      split
      · exact PaneMove.unhold.moves.trans (reply_quiet _ _ _ _ _ _).moves
      · exact (PaneMove.stageHeld tag rect held).moves.trans (reply_quiet _ _ _ _ _ _).moves
  · exact .refl

theorem countForCommit_moves (h : HostNo) (p : PaneNo) (s : State) : Moves s (countForCommit h p s) := by
  unfold countForCommit
  split
  · next tag earlier held =>
    split
    · split
      · exact takeCommit_moves h p tag s (.inl (by simp [held]))
      · exact (PaneMove.count tag earlier _ held).moves
    · exact .refl
  · exact .refl

theorem reportEnd_moves (h : HostNo) (sel : Byte) (s : State) : Moves s (reportEnd h sel s) := by
  unfold reportEnd
  split
  · exact (countForCommit_moves h _ s).trans (takeStageIfIdle_moves _ _)
  · exact .refl

theorem finishOp_moves (h : HostNo) (v : Service) (r : Response) (s : State) : Moves s (finishOp h v r s) :=
  (LaneMove.finish.moves.trans (answerAll_quiet _ _ _).moves).trans (reportEnd_moves _ _ _)

/-! ## Service starts and accesses (R73 to R76, R81) -/

theorem testAccess_moves (h : HostNo) (s : State) (idle : ∀ v, (s.lane h).service = some v → v.access ≠ .inProgress) :
    Moves s (testAccess h s) := by
  unfold testAccess
  split
  · exact .refl
  · next v service =>
    have test (a : AccessState) := setAccess_moves h a v s service (idle v service)
    split
    · exact test _
    · split
      · exact test _
      · exact (test _).trans (noteBudget_quiet _ _ _).moves

theorem startOp_moves (h : HostNo) (op : CellOp) (rest : List CellOp) (s : State) (run : s.inRun = true)
    (idle : (s.lane h).service = none) (head : (s.lane h).queued = op :: rest) : Moves s (startOp h op rest s) := by
  unfold startOp
  split
  · exact ((LaneMove.refuse op rest head).moves.trans (answer_quiet _ _ _).moves).trans (reportEnd_moves _ _ _)
  · next p area passes =>
    exact (LaneMove.begin op rest p area run idle head passes).moves.trans
      (testAccess_moves h _ fun v service => by
        simp only [State.lane_setLane_same, Option.some.injEq] at service
        rw [← service]; simp)

theorem startHead_moves (h : HostNo) (n : Nat) (s : State) (run : s.inRun = true) : Moves s (startHead h n s) := by
  induction n generalizing s with
  | zero => exact .refl
  | succ n ih =>
    unfold startHead
    split
    · next op rest idle head =>
      split
      · exact .refl
      · exact (startOp_moves h op rest s run idle head).trans (ih _ (by simpa [State.inRun] using run))
    · exact .refl

/-- What every turn of a loop keeps lets each turn be a run of moves. -/
theorem forEach_moves_of {α : Type} (P : State → Prop) (f : α → State → State) (l : List α) (s : State) (start : P s)
    (keeps : ∀ a t, P t → P (f a t)) (move : ∀ a t, P t → Moves t (f a t)) : Moves s (forEach l f s) :=
  (forEach_induct (fun t => P t ∧ Moves s t) f
    (fun a t ⟨holds, run⟩ => ⟨keeps a t holds, run.trans (move a t holds)⟩) l s ⟨start, .refl⟩).2

theorem startServices_moves (s : State) (run : s.inRun = true) : Moves s (startServices s) :=
  forEach_moves_of (·.inRun = true) _ _ s run (fun _ _ run => by simpa [State.inRun] using run)
    fun h t run => startHead_moves h _ t run

theorem writeDone_moves (h : HostNo) (n : Nat) (s : State) : Moves s (writeDone h n s) := by
  unfold writeDone
  split
  · exact .refl
  · next v service =>
    dsimp only
    split
    · exact finishOp_moves _ _ _ _
    · exact finishOp_moves _ _ _ _
    · next line col going next =>
      exact (LaneMove.advance v (v.written + n) line col service going next).moves.trans
        (testAccess_moves h _ fun w service => by
          simp only [State.lane_setLane_same, Option.some.injEq] at service
          rw [← service]; simp)

theorem readDone_moves (h : HostNo) (cells : List Cell) (s : State) : Moves s (readDone h cells s) := by
  unfold readDone
  split
  · exact .refl
  · split <;> exact finishOp_moves _ _ _ _

/-! ## Grants and what follows at once (R66 to R69, R93, R94) -/

theorem passGrant_moves (kind : FaultKind) (h : HostNo) (v : Service) (l : Latch) (s : State)
    (service : (s.lane h).service = some v) (idle : v.access ≠ .inProgress) (latch : s.scan.latch = some l) :
    Moves s (passGrant kind h v l s) := by
  have torn := (ScanMove.tear l latch).moves.trans (PaneMove.tear (p := v.pane)).moves
  exact (torn.trans (reportFault_quiet _ _).moves).tail (.grantWrite h v none (by simpa using service) idle)

theorem parkOrPass_moves (h : HostNo) (v : Service) (l : Latch) (s : State)
    (service : (s.lane h).service = some v) (idle : v.access ≠ .inProgress) (latch : s.scan.latch = some l) :
    Moves s (parkOrPass h v l s) := by
  unfold parkOrPass
  split
  · have listed : Quiet s (s.setParked (s.parked ++ [parkedEntry h v])) := by constructor <;> simp
    have parked := listed.moves.trans (setAccess_moves h .parked v _ (by simpa using service) idle)
    exact parked.trans (Quiet.moves (by constructor <;> simp))
  · exact passGrant_moves _ h v l s service idle latch

theorem resolveConflict_moves (h : HostNo) (v : Service) (l : Latch) (s : State)
    (service : (s.lane h).service = some v) (idle : v.access ≠ .inProgress) (latch : s.scan.latch = some l) :
    Moves s (resolveConflict h v l s) := by
  unfold resolveConflict
  split
  · exact passGrant_moves _ h v l s service idle latch
  · exact parkOrPass_moves h v l s service idle latch
  · split
    · exact (reportFault_quiet _ _).moves.trans
        (parkOrPass_moves h v l _ (by simpa using service) idle (by simpa using latch))
    · split
      · exact .single (.grantWrite h v _ service idle)
      · exact parkOrPass_moves h v l s service idle latch

theorem conflictOf_latch (s : State) (v : Service) (l : Latch) (conflict : conflictOf s v = some l) :
    s.scan.latch = some l := by
  unfold conflictOf at conflict
  split at conflict
  · next latch => split at conflict <;> simp_all
  · cases conflict

theorem serveHost_moves (h : HostNo) (s : State) (offered : offers s h = true) : Moves s (serveHost h s) := by
  unfold serveHost
  split
  · exact .refl
  · next v service =>
    have idle : v.access ≠ .inProgress := by
      have : v.access = .offered := by simpa [offers, service] using offered
      simp [this]
    split
    · exact .single (.grantRead h v _ service idle)
    · split
      · next l conflict => exact resolveConflict_moves h v l s service idle (conflictOf_latch s v l conflict)
      · exact .single (.grantWrite h v none service idle)

theorem nextReady_offers (s : State) (h : HostNo) (next : nextReady s = some h) : offers s h = true :=
  List.find?_some next

theorem arbitrate_moves (n : Nat) (s : State) : Moves s (arbitrate n s) := by
  induction n generalizing s with
  | zero => exact .refl
  | succ n ih =>
    unfold arbitrate
    split
    · exact .refl
    · split
      · exact .refl
      · split
        · next l latch => exact .single (.grantSegment l latch)
        · exact .refl
      · split
        · next h next => exact (serveHost_moves h s (nextReady_offers s h next)).trans (ih _)
        · exact .refl

theorem settle_moves (s : State) : Moves s (settle s) := by
  unfold settle
  split
  · next run => exact (startServices_moves s run).trans (arbitrate_moves 5 _)
  · exact .refl

end Sys2Proof.Machine
end

section
/-! The scan, the boundary, requests and the end of work as runs of moves. -/
namespace Sys2Proof.Machine

/-! ## The frame boundary and the Parked List (R43 to R47, R83, R97) -/

theorem boundaryPane_moves (frame : Half) (p : PaneNo) (s : State) : Moves s (boundaryPane frame p s) := by
  have apply {t : Half} (owned : (s.pane p).state = .pending ∨ (s.pane p).state = .live)
      (commit : (s.pane p).commit = some t) :
      Moves s (postTo (s.pane p).owner.toList (.commitDone p t frame) (s.setPane p (committedPane (s.pane p)))) :=
    (PaneMove.apply owned (by simp [commit])).moves.trans (postTo_quiet _ _ _).moves
  unfold boundaryPane
  dsimp only
  split
  · next retiring => exact (PaneMove.free retiring).moves
  · next pending commit => exact apply (.inl pending) commit
  · next live commit => exact apply (.inr live) commit
  · exact .refl

theorem retestWaiting_moves (h : HostNo) (s : State) : Moves s (retestWaiting h s) := by
  unfold retestWaiting
  split
  · next v service =>
    split
    · next made => exact testAccess_moves h s fun w other => by simp_all
    · exact .refl
  · exact .refl

theorem refillBudget_quiet (h : HostNo) (s : State) : Quiet s (refillBudget h s) := setHost_quiet _ _ _ rfl

theorem refillBudgets_moves (s : State) : Moves s (refillBudgets s) :=
  (forEach_moves _ _ _ fun h t => (refillBudget_quiet h t).moves).trans (forEach_moves _ _ _ retestWaiting_moves)

theorem frameBoundary_moves (frame : Half) (s : State) : Moves s (frameBoundary frame s) := by
  have numbered : Quiet s (s.setScan { s.scan with frame := frame, cursorFrame := frame }) := by constructor <;> simp
  exact (numbered.moves.trans (forEach_moves _ _ _ (boundaryPane_moves frame))).trans (refillBudgets_moves _)

theorem releaseEntry_moves (e : Parked) (s : State) : Moves s (releaseEntry e s) := by
  unfold releaseEntry
  split
  · next v service =>
    split
    · next parked => exact testAccess_moves e.host s fun w other => by simp_all
    · exact .refl
  · exact .refl

theorem releaseParked_moves (s : State) : Moves s (releaseParked s) := by
  have emptied : Quiet s (s.setParked []) := by constructor <;> simp
  exact emptied.moves.trans (forEach_moves _ _ _ releaseEntry_moves)

/-! ## Latches (R53 to R57, R100) -/

theorem startLatchAs_moves (frame : Half) (s : State) : Moves s (startLatchAs frame s) := by
  unfold startLatchAs
  dsimp only
  split
  · next starts =>
    have run : s.inRun = true := by simp_all
    split
    · exact (frameBoundary_moves frame s).trans (ScanMove.start (by simpa [State.inRun] using run)).moves
    · exact (ScanMove.start run).moves
  · exact .refl

theorem startLatch_moves (s : State) : Moves s (startLatch s) := startLatchAs_moves _ s

theorem releaseAndStart_moves (s : State) : Moves s (releaseAndStart s) := by
  have counted : Quiet s (s.setChoices (s.choices + 1)) := by constructor <;> simp
  unfold releaseAndStart
  dsimp only
  split
  · split
    · exact (counted.moves.trans (releaseParked_moves _)).trans (startLatch_moves _)
    · exact (counted.moves.trans (startLatch_moves _)).trans (releaseParked_moves _)
  · exact (releaseParked_moves s).trans (startLatch_moves _)

theorem gatherSegment_moves (cells : List Cell) (s : State) : Moves s (gatherSegment cells s) := by
  unfold gatherSegment
  split
  · exact .refl
  · next l latch =>
    dsimp only
    split
    · next more => exact (ScanMove.gather l cells latch more).moves
    · exact ((ScanMove.complete l _ latch).moves.trans (refreshUrgency_quiet _).moves).trans (releaseAndStart_moves _)

theorem restartLatch_moves (restart : Option (Half × Nat)) (s : State) : Moves s (restartLatch restart s) := by
  unfold restartLatch
  split
  · next l latch =>
    split
    · exact (ScanMove.restart l latch).moves
    · exact .refl
  · exact .refl

/-! ## Completions of store accesses -/

theorem freeStore_moves (s : State) : Moves s (freeStore s) := .single .free

theorem segmentReadComplete_moves (s : State) : Moves s (segmentReadComplete s) := by
  unfold segmentReadComplete
  split
  · refine .trans ?_ (settle_moves _)
    split
    · exact (freeStore_moves s).trans (gatherSegment_moves _ _)
    · exact freeStore_moves s
  · exact .refl

theorem storeCells_quiet (bank : Bank) (line first : Nat) (cells : List Cell) (s : State) :
    Quiet s (storeCells bank line first cells s) := by constructor <;> simp

theorem writeAccessComplete_moves (s : State) : Moves s (writeAccessComplete s) := by
  unfold writeAccessComplete
  split
  · next live h bank line first cells restart _ =>
    have stored := ((freeStore_moves s).trans (storeCells_quiet bank line first cells _).moves).trans
      (restartLatch_moves restart _)
    refine .trans ?_ (settle_moves _)
    split
    · exact stored.trans (writeDone_moves _ _ _)
    · exact stored
  · exact .refl

theorem readAccessComplete_moves (s : State) : Moves s (readAccessComplete s) := by
  unfold readAccessComplete
  split
  · refine .trans ?_ (settle_moves _)
    split
    · exact (freeStore_moves s).trans (readDone_moves _ _ _)
    · exact freeStore_moves s
  · exact .refl

/-! ## Line marks (R51, R59, R62, R63) -/

theorem underrun_moves (k : Nat) (s : State) (run : s.inRun = true) : Moves s (underrun k s) := by
  unfold underrun
  dsimp only
  generalize markPackets s.scan.emission k false true (backdropLine s) = packets
  have sent : Quiet s (emit packets s) := by constructor <;> simp
  generalize report : faultReport .underrun none none (some k) (emit packets s).scan.emission = r
  have told := sent.moves.trans (reportFault_quiet r _).moves
  have running : (reportFault r (emit packets s)).inRun = true := by simpa [State.inRun] using run
  split
  · refine .trans (.trans (told.tail .abandon) ?_) (releaseAndStart_moves _)
    exact (ScanMove.skip _ k (by simpa [State.inRun] using running)).moves
  · exact (told.trans (ScanMove.skip _ k running).moves).trans (startLatch_moves _)

theorem visibleMark_moves (k : Nat) (s : State) (run : s.inRun = true) : Moves s (visibleMark k s) := by
  unfold visibleMark
  split
  · next e rest _ =>
    split
    · have taken : Quiet s (refreshUrgency ((emit (markPackets s.scan.emission k e.torn false e.cells) s).setScan
          { (emit (markPackets s.scan.emission k e.torn false e.cells) s).scan with queue := rest })) := by
        constructor <;> simp
      exact taken.moves.trans (startLatch_moves _)
    · exact underrun_moves k s run
  · exact underrun_moves k s run

theorem lineMark_moves (s : State) : Moves s (lineMark s) := by
  unfold lineMark
  split
  · next run =>
    refine .trans ?_ (settle_moves _)
    unfold markWork
    dsimp only
    generalize s.scan.mark.isNone = first
    generalize nextMark s = k
    have marked : Quiet s (announceBlanking first k (advanceMark s)) := by constructor <;> simp
    split
    · exact marked.moves.trans (visibleMark_moves k _ (by rw [marked.inRun, run]))
    · exact marked.moves
  · exact .refl

/-! ## The end of cell work (R21, R23, R87) -/

/-- What follows the stop of a host's operations on some panes: their answers, and the PANE_STAGEs they held. -/
theorem endWork_after_stop (panes : List PaneNo) (status : Status) (h : HostNo) (s : State) :
    Moves (stopOps h (·.onSome panes) (fun e => panes.contains e.pane) status s) (endWork panes status h s) :=
  (answerAll_quiet _ _ _).moves.trans (forEach_moves _ _ _ takeStageIfIdle_moves)

theorem endWork_moves (panes : List PaneNo) (status : Status) (h : HostNo) (s : State) :
    Moves s (endWork panes status h s) := .head (.stop h _ _ status) (endWork_after_stop panes status h s)

theorem takeIdleStages_moves (s : State) : Moves s (takeIdleStages s) := forEach_moves _ _ _ takeStageIfIdle_moves

theorem departGuest_after_stop (h : HostNo) (kind : Departure) (g : HostNo) (panes : List PaneNo) (s : State) :
    Moves (stopOps g (·.onSome panes) (fun e => panes.contains e.pane) (guestEnd kind).1 s) (departGuest h kind g panes s) :=
  (endWork_after_stop panes _ g s).trans (Quiet.moves (by constructor <;> simp [departGuest, endWork]))

/-! ## Requests -/

theorem firstFailing_none (checks : List (Bool × Status)) (passes : firstFailing checks = none) :
    ∀ c ∈ checks, c.1 = false := by
  induction checks with
  | nil => nofun
  | cons c rest ih =>
    obtain ⟨fails, status⟩ := c
    cases fails with
    | true => cases passes
    | false => exact List.forall_mem_cons.2 ⟨rfl, ih passes⟩

/-- A pane request is answered, or in RUN taken on a pane that passes its checks (R15). -/
theorem withPane_cases (h : HostNo) (k : Kind) (tag sel : Byte) (checks : PaneNo → List (Bool × Status))
    (take : PaneNo → State → State) (s : State) :
    (∃ status, withPane h k tag sel checks take s = reply h k tag status .empty s) ∨
      ∃ p, s.inRun = true ∧ firstFailing (checks p) = none ∧ withPane h k tag sel checks take s = take p s := by
  unfold withPane
  split
  · exact .inl ⟨_, rfl⟩
  · next p named =>
    split
    · exact .inl ⟨_, rfl⟩
    · next passes =>
      refine .inr ⟨p, ?_, passes, rfl⟩
      unfold namedPane at named
      split at named
      · cases named
      · next run => simpa using run

theorem withPane_moves (h : HostNo) (k : Kind) (tag sel : Byte) (checks : PaneNo → List (Bool × Status))
    (take : PaneNo → State → State) (s : State)
    (taken : ∀ p, s.inRun = true → firstFailing (checks p) = none → Moves s (take p s)) :
    Moves s (withPane h k tag sel checks take s) := by
  rcases withPane_cases h k tag sel checks take s with ⟨status, answered⟩ | ⟨p, run, passes, taking⟩
  · rw [answered]; exact (reply_quiet _ _ _ _ _ _).moves
  · rw [taking]; exact taken p run passes

/-- A pane whose owner's request passes is PENDING, LIVE or RETIRING and the host's. -/
theorem ownerChecks_pass (h : HostNo) (q : Pane) (more : List (Bool × Status))
    (passes : firstFailing (ownerChecks h q ++ more) = none) :
    q.owner = some h ∧ (q.state = .pending ∨ q.state = .live ∨ q.state = .retiring) ∧ ∀ c ∈ more, c.1 = false := by
  have all := firstFailing_none _ passes
  simp only [ownerChecks, List.cons_append, List.nil_append, List.mem_cons, forall_eq_or_imp] at all
  obtain ⟨state, owner, rest⟩ := all
  refine ⟨by simpa using owner, ?_, rest⟩
  cases shape : q.state <;> simp_all

theorem takePaneClaim_moves (h : HostNo) (tag : Byte) (rect : Rect) (buffering policy display : Byte) (s : State)
    (active : s.isActive h = true) : Moves s (takePaneClaim h tag rect buffering policy display s) := by
  unfold takePaneClaim
  split
  · exact (reply_quiet _ _ _ _ _ _).moves
  · next run =>
    split
    · exact (reply_quiet _ _ _ _ _ _).moves
    · exact (reply_quiet _ _ _ _ _ _).moves
    · next p m lowest modes =>
      split
      · exact (reply_quiet _ _ _ _ _ _).moves
      · next valid =>
        split
        · exact (reply_quiet _ _ _ _ _ _).moves
        · have free : (s.pane p).state = .free := by simpa using List.find?_some lowest
          have front : m.front = .a := by
            unfold modesOf at modes
            split at modes <;> cases modes
            rfl
          exact (PaneMove.claim h rect m (by simpa using run) active free (by simpa using valid) front).moves.trans
            (reply_quiet _ _ _ _ _ _).moves

theorem stageChecks_pass (h : HostNo) (arg : Half) (rect : Rect) (s : State) (p : PaneNo)
    (passes : firstFailing (stageChecks h arg rect s p) = none) :
    Stageable s (s.pane p) ((stageArgOf arg rect).getD none) := by
  obtain ⟨-, state, checks⟩ := ownerChecks_pass _ _ _ passes
  simp only [List.mem_cons, forall_eq_or_imp, decide_eq_false_iff_not, List.not_mem_nil, false_implies, implies_true,
    and_true] at checks
  obtain ⟨retiring, commit, -, -, pending, valid, -⟩ := checks
  refine ⟨by tauto, by simpa using commit, fun none => ?_, fun r named => ?_⟩
  · simpa [none] using pending
  · simpa [named] using valid

theorem takePaneStage_moves (h : HostNo) (tag sel : Byte) (arg : Half) (rect : Rect) (s : State) :
    Moves s (takePaneStage h tag sel arg rect s) := by
  refine withPane_moves _ _ _ _ _ _ _ fun p _ passes => ?_
  have stageable := stageChecks_pass h arg rect s p passes
  unfold stagePane
  split
  · exact (PaneMove.holdStage tag _ stageable).moves
  · exact (PaneMove.stage _ stageable).moves.trans (reply_quiet _ _ _ _ _ _).moves

theorem takePaneCommit_moves (h : HostNo) (tag sel : Byte) (s : State) : Moves s (takePaneCommit h tag sel s) := by
  refine withPane_moves _ _ _ _ _ _ _ fun p _ passes => ?_
  obtain ⟨-, state, checks⟩ := ownerChecks_pass _ _ _ passes
  simp only [List.mem_cons, forall_eq_or_imp, decide_eq_false_iff_not, List.not_mem_nil, false_implies, implies_true,
    and_true] at checks
  obtain ⟨retiring, commit, -⟩ := checks
  have owned : (s.pane p).state = .pending ∨ (s.pane p).state = .live := by tauto
  unfold commitPane
  split
  · exact takeCommit_moves h p tag s (.inr owned)
  · exact (PaneMove.holdCommit tag _ owned (by simpa using commit)).moves

theorem takePaneAdopt_moves (h : HostNo) (tag sel : Byte) (s : State) (active : s.isActive h = true) :
    Moves s (takePaneAdopt h tag sel s) := by
  refine withPane_moves _ _ _ _ _ _ _ fun p _ passes => ?_
  have orphaned : (s.pane p).state = .orphaned := by
    simpa using firstFailing_none _ passes _ (List.mem_singleton.2 rfl)
  exact (PaneMove.adopt h active orphaned).moves.trans (reply_quiet _ _ _ _ _ _).moves

theorem takePaneQuery_moves (h : HostNo) (tag sel : Byte) (s : State) : Moves s (takePaneQuery h tag sel s) :=
  withPane_moves _ _ _ _ _ _ _ fun _ _ _ => (reply_quiet _ _ _ _ _ _).moves

theorem joinLane_moves (h : HostNo) (op : CellOp) (s : State) (sized : op.sized) : Moves s (joinLane h op s) := by
  unfold joinLane
  split
  · exact (LaneMove.join op sized).moves.trans (settle_moves _)
  · exact (reply_quiet _ _ _ _ _ _).moves

theorem placeDetach_moves (h : HostNo) (r : Response) (s : State) : Moves s (placeDetach h r s) := by
  unfold placeDetach
  split
  · next v service => exact (LaneMove.delay v _ service).moves
  · exact (answer_quiet _ _ _).moves

end Sys2Proof.Machine
end

section
/-! What a step keeps: a condition every move keeps, and with them the few other things a step does, holds after every
step. -/
namespace Sys2Proof.Machine

/-! ## Departures, up to the vote's judgement -/

/-- Every block's share of a silent departure, before the vote is judged (R118). -/
def silentlyLeft (h : HostNo) (kind : Departure) (s : State) : State :=
  let s := departPanes h kind (clearEvents h (portDeparture h (kind = .lapse) s))
  startTransfer (discardInFlight h (dropTransfers h (takeIdleStages (dropOps h s))))

theorem departSilently_eq (h : HostNo) (kind : Departure) (s : State) :
    departSilently h kind s = settle (judgeVote (silentlyLeft h kind s)) := rfl

/-- The panes' share of a DETACH of host `h`, and the stop of its cell work (R26, R27, R88, R116). -/
def detachStopped (h : HostNo) (mode : DetachMode) (s : State) : State :=
  stopOps h (fun _ => true) (fun _ => true) .cancelled (departPanes h (.detach mode) (leaveActive h .absent s))

/-- What else a DETACH does before the vote is judged is a run of moves. -/
theorem detachHost_moves (h : HostNo) (tag : Byte) (mode : DetachMode) (s : State) :
    ∃ t, Moves (detachStopped h mode s) t ∧ detachHost h tag mode s = settle (judgeVote t) := by
  have told (u : State) (n : Nat) (rs : List Response) : Quiet u (answerAll h rs ((dropTransfers h u).setChoices n)) := by
    constructor <;> simp
  exact ⟨_, (((told _ _ _).moves.trans (takeIdleStages_moves _)).trans (placeDetach_moves _ _ _)).trans
    (startTransfer_quiet _).moves, rfl⟩

/-! ## Steps -/

/-- A condition that every move keeps, and with them what else a step does: a part reset, a host that becomes ACTIVE or
leaves, a guest changed, a pane released, a field set in SETUP, and the entry into RUN. -/
structure KeptByAll (P : State → Prop) : Prop where
  move {s t : State} : P s → Move s t → P t
  reset (cause : Cause) (s : State) : P s → P (partReset cause s)
  attach (h : HostNo) {s : State} : P s → P (attachHost h s)
  silent (h : HostNo) (kind : Departure) (after : HostState) {s u : State} : P s → Quiet (leaveActive h after s) u →
    P (silentlyLeft h kind u)
  detach (h : HostNo) (mode : DetachMode) {s : State} : P s → P (detachStopped h mode s)
  guest (h : HostNo) (p : PaneNo) (named : Option HostNo) {s : State} : P s → (s.pane p).owner = some h →
    (s.pane p).state = .live → (∀ g, named = some g → g ≠ h ∧ s.isActive g = true) → P (changeGuest h p named s)
  release (h : HostNo) (tag : Byte) (p : PaneNo) {s : State} : P s → (s.pane p).owner = some h →
    (s.pane p).state = .pending ∨ (s.pane p).state = .live → ∃ t, P t ∧ releasePane h tag p s = settle t
  config (h : HostNo) (f : Fin 19) (value : Half) (cell : Option RawCell) (v : FieldValue) {s : State} : P s →
    s.inRun = false → offeredValue f value cell = some v → P (s.setConf
      { s.conf with settings := setField s.conf.settings f v, writers := s.conf.writers.set f (some h) })
  run {s : State} : P s → s.inRun = false → P (s.setConf { s.conf with part := .run, vote := .idle, window := 0 })

namespace KeptByAll
variable {P : State → Prop} (kept : KeptByAll P)
include kept

theorem moves {s t : State} (holds : P s) (run : Moves s t) : P t := by
  induction run with
  | refl => exact holds
  | tail _ last ih => exact kept.move ih last

theorem quiet {s t : State} (holds : P s) (same : Quiet s t) : P t := kept.move holds (.quiet same)

theorem vote {s : State} (holds : P s) : P (judgeVote s) := by
  rcases judgeVote_cases s with same | closed | reset
  · rwa [same]
  · rw [closed]; exact kept.quiet holds (by constructor <;> simp)
  · rw [reset]; exact kept.reset .vote s holds

theorem judged {s : State} (holds : P s) : P (settle (judgeVote s)) := kept.moves (kept.vote holds) (settle_moves _)

theorem departs (h : HostNo) (kind : Departure) (after : HostState) {s u : State} (holds : P s)
    (left : Quiet (leaveActive h after s) u) : P (departSilently h kind u) := by
  rw [departSilently_eq]; exact kept.judged (kept.silent h kind after holds left)

/-! ## Requests -/

theorem hostCheck (h : HostNo) (k : Kind) (tag : Byte) (take : State → State) {s : State} (holds : P s)
    (taken : ∀ u, P u → u.isActive h = true → P (take u)) : P (hostCheck h k tag take s) := by
  rcases hostCheck_cases h k tag take s with ⟨active, taking⟩ | ⟨status, answered⟩
  · rw [taking]
    exact taken _ (kept.quiet holds (by constructor <;> simp)) (by simpa using active)
  · rw [answered]; exact kept.quiet holds (reply_quiet _ _ _ _ _ _)

theorem takeConfigSet (h : HostNo) (tag field : Byte) (value : Half) (cell : Option RawCell) {s : State} (holds : P s) :
    P (takeConfigSet h tag field value cell s) := by
  unfold Machine.takeConfigSet
  split
  · exact kept.quiet holds (reply_quiet _ _ _ _ _ _)
  · next setup =>
    split
    · exact kept.quiet holds (reply_quiet _ _ _ _ _ _)
    · next f _ =>
      split
      · exact kept.quiet holds (reply_quiet _ _ _ _ _ _)
      · next v offered =>
        have set := kept.config h f value cell v holds (by simpa using setup) offered
        exact kept.quiet (kept.quiet set (refreshUrgency_quiet _)) (reply_quiet _ _ _ _ _ _)

theorem takeStart (h : HostNo) (tag : Byte) {s : State} (holds : P s) : P (takeStart h tag s) := by
  unfold Machine.takeStart
  split
  · exact kept.quiet holds (reply_quiet _ _ _ _ _ _)
  · next setup =>
    split
    · exact kept.quiet holds (reply_quiet _ _ _ _ _ _)
    · have running := kept.run holds (by simpa using setup)
      have copied : Quiet (s.setConf { s.conf with part := .run, vote := .idle, window := 0 })
          (refreshUrgency (startScan (forEach allHosts loadIfActive (forEach allHosts copyHostFields
            (s.setConf { s.conf with part := .run, vote := .idle, window := 0 }))))) := by constructor <;> simp
      have latched := kept.moves (kept.quiet running copied) (startLatchAs_moves 0 _)
      exact kept.moves (kept.quiet latched (reply_quiet _ _ _ _ _ _)) (settle_moves _)

theorem takeResetVote (h : HostNo) (tag : Byte) {s : State} (holds : P s) : P (takeResetVote h tag s) := by
  unfold Machine.takeResetVote
  split
  · have opened : Quiet s (if s.conf.vote = .idle then openVote h s else s) := by split <;> constructor <;> simp
    dsimp only
    generalize (if s.conf.vote = .idle then openVote h s else s) = u at opened
    have counted : P (u.setHost h { u.host h with vote := true }) :=
      kept.quiet (kept.quiet holds opened) (setHost_quiet _ _ _ rfl)
    exact kept.vote (kept.quiet counted (reply_quiet _ _ _ _ _ _))
  · exact kept.quiet holds (reply_quiet _ _ _ _ _ _)

theorem takeDetach (h : HostNo) (tag mode : Byte) {s : State} (holds : P s) : P (takeDetach h tag mode s) := by
  unfold Machine.takeDetach
  split
  · exact kept.quiet holds (reply_quiet _ _ _ _ _ _)
  · next m _ =>
    obtain ⟨t, run, detached⟩ := detachHost_moves h tag m s
    rw [detached]
    exact kept.judged (kept.moves (kept.detach h m holds) run)

theorem takePaneGuest (h : HostNo) (tag sel : Byte) (arg : Half) {s : State} (holds : P s) :
    P (takePaneGuest h tag sel arg s) := by
  rcases withPane_cases h .paneGuest tag sel (guestChecks h arg s) (guestPane h tag ((guestArgOf arg).getD none)) s with
    ⟨status, answered⟩ | ⟨p, -, passes, taking⟩
  · rw [Machine.takePaneGuest, answered]; exact kept.quiet holds (reply_quiet _ _ _ _ _ _)
  · rw [Machine.takePaneGuest, taking]
    obtain ⟨owner, -, checks⟩ := ownerChecks_pass _ _ _ passes
    simp only [List.mem_cons, forall_eq_or_imp, decide_eq_false_iff_not, List.not_mem_nil, false_implies, implies_true,
      and_true] at checks
    obtain ⟨live, -, named⟩ := checks
    generalize (guestArgOf arg).getD none = guest at named
    unfold guestPane
    split
    · exact kept.quiet holds (reply_quiet _ _ _ _ _ _)
    · have changed := kept.guest h p guest holds owner (by simpa using live) fun g is => by
        subst is
        simp only [badGuest, owner, Option.any_some, Bool.or_eq_false_iff, decide_eq_false_iff_not, Option.some.injEq,
          Bool.not_eq_false'] at named
        exact ⟨fun same => named.1 same.symm, named.2⟩
      exact kept.moves (kept.quiet changed (reply_quiet _ _ _ _ _ _)) (settle_moves _)

theorem takePaneRelease (h : HostNo) (tag sel : Byte) {s : State} (holds : P s) : P (takePaneRelease h tag sel s) := by
  rcases withPane_cases h .paneRelease tag sel (releaseChecks h s) (releasePane h tag) s with
    ⟨status, answered⟩ | ⟨p, -, passes, taking⟩
  · rw [Machine.takePaneRelease, answered]; exact kept.quiet holds (reply_quiet _ _ _ _ _ _)
  · rw [Machine.takePaneRelease, taking]
    obtain ⟨owner, state, checks⟩ := ownerChecks_pass _ _ _ passes
    have retiring : (s.pane p).state ≠ .retiring := by simpa using checks _ (List.mem_singleton.2 rfl)
    obtain ⟨t, released, settled⟩ := kept.release h tag p holds owner (by tauto)
    rw [settled]
    exact kept.moves released (settle_moves t)

theorem takeAttach (h : HostNo) (tag : Byte) {s : State} (holds : P s) : P (takeAttach h tag s) := by
  exact kept.quiet (kept.attach h holds) (by constructor <;> simp [Machine.takeAttach])

/-- A request whose counts the port lets through, once it has its slot. -/
theorem takeRequest (i : Instr) (counts : countsOk i) {s : State} (holds : P s) : P (takeRequest i s) := by
  cases i
  case attach => exact kept.takeAttach _ _ holds
  case status => exact kept.quiet holds (by constructor <;> simp [Machine.takeRequest, statusTaken, takeStatus])
  case detach => exact kept.hostCheck _ _ _ _ holds fun u stands _ => kept.takeDetach _ _ _ stands
  case configSet => exact kept.hostCheck _ _ _ _ holds fun u stands _ => kept.takeConfigSet _ _ _ _ _ stands
  case start => exact kept.hostCheck _ _ _ _ holds fun u stands _ => kept.takeStart _ _ stands
  case resetVote => exact kept.hostCheck _ _ _ _ holds fun u stands _ => kept.takeResetVote _ _ stands
  case paneGuest => exact kept.hostCheck _ _ _ _ holds fun u stands _ => kept.takePaneGuest _ _ _ _ stands
  case paneRelease => exact kept.hostCheck _ _ _ _ holds fun u stands _ => kept.takePaneRelease _ _ _ stands
  case paneClaim =>
    exact kept.hostCheck _ _ _ _ holds fun u stands active => kept.moves stands (takePaneClaim_moves _ _ _ _ _ _ _ active)
  case paneStage => exact kept.hostCheck _ _ _ _ holds fun u stands _ => kept.moves stands (takePaneStage_moves _ _ _ _ _ _)
  case paneCommit => exact kept.hostCheck _ _ _ _ holds fun u stands _ => kept.moves stands (takePaneCommit_moves _ _ _ _)
  case paneAdopt =>
    exact kept.hostCheck _ _ _ _ holds fun u stands active => kept.moves stands (takePaneAdopt_moves _ _ _ _ active)
  case paneQuery => exact kept.hostCheck _ _ _ _ holds fun u stands _ => kept.moves stands (takePaneQuery_moves _ _ _ _)
  case cellWrite | cellFill | cellRead =>
    exact kept.hostCheck _ _ _ _ holds fun u stands _ => kept.moves stands (joinLane_moves _ _ _ (counts _ rfl))
  case configGet =>
    exact kept.hostCheck _ _ _ _ holds fun u stands _ =>
      kept.quiet stands (by unfold takeConfigGet; split <;> constructor <;> simp)
  case faultRead =>
    exact kept.hostCheck _ _ _ _ holds fun u stands _ =>
      kept.quiet stands (by unfold takeFaultRead; (repeat' split) <;> constructor <;> simp)
  case faultClear =>
    exact kept.hostCheck _ _ _ _ holds fun u stands _ =>
      kept.quiet stands (by unfold takeFaultClear takeFaultClearOverflow clearSlot; (repeat' split) <;> constructor <;> simp)
  case faultClearOverflow =>
    exact kept.hostCheck _ _ _ _ holds fun u stands _ => kept.quiet stands (by constructor <;> simp [takeFaultClearOverflow])
  case eventFetch =>
    exact kept.hostCheck _ _ _ _ holds fun u stands _ => kept.quiet stands (by constructor <;> simp [takeEventFetch])
  case panelSend => exact kept.hostCheck _ _ _ _ holds fun u stands _ => kept.quiet stands (by constructor <;> simp)
  all_goals exact holds

theorem served {h : HostNo} {s t : State} (holds : P s) (served : Served h s t) : P t := by
  cases served with
  | unserved => exact holds
  | dropped => exact kept.quiet holds (by constructor <;> simp)
  | answered r => exact kept.quiet holds (by constructor <;> simp)
  | taken i tag source counts =>
    exact kept.takeRequest i counts (kept.quiet (t := takeSlot h s) holds (by constructor <;> simp))

/-! ## Events -/

theorem exchangeEnd (h : HostNo) (bytes : List Byte) {s : State} (holds : P s) : P (exchangeEnd h bytes s) := by
  unfold Machine.exchangeEnd
  split
  · exact holds
  · next x _ =>
    exact kept.served (kept.quiet (t := removeSent h x bytes.length s) holds (by constructor <;> simp))
      (handleFrame_served _ _ _)

theorem presentDeasserted (h : HostNo) {s : State} (holds : P s) : P (presentDeasserted h s) := by
  unfold Machine.presentDeasserted
  split
  · have down : P (dropLine h s) := kept.quiet holds (by constructor <;> simp)
    dsimp only
    split
    · exact kept.departs h .abrupt .absent down (by constructor <;> simp)
    · next lapsed =>
      refine kept.quiet down ?_
      constructor
      case active =>
        intro g
        by_cases same : h = g
        · subst same; simp_all [isActive_eq]
        · simp [isActive_eq, same]
      all_goals simp
    · exact down
  · exact holds

theorem leaseExpiry (h : HostNo) {s : State} (holds : P s) : P (leaseExpiry h s) := by
  unfold Machine.leaseExpiry
  split
  · exact kept.departs h .lapse .lapsed holds (reportFault_quiet _ _)
  · exact holds

/-- After a command that does not stop the condition still holds. -/
theorem exec (c : Instr) {s t : State} (holds : P s) (run : exec c s = .next t) : P t := by
  have next {u : State} (leaves : Host.Outcome.next u = (Host.Outcome.next t : Host.Outcome State Fault Refusal))
      (stands : P u) : P t :=
    Host.Outcome.next.inj leaves ▸ stands
  have completed {f : State → State} (finish : completion f s = .next t) (move : Moves s (f s)) : P t := by
    unfold completion at finish
    split at finish
    · exact next finish (kept.moves holds move)
    · cases finish
  cases source : requestSource c with
  | some origin =>
    obtain ⟨u, leaves, taken⟩ := exec_served c origin.1 origin.2 s source
    exact next (leaves.symm.trans run) (kept.served holds taken)
  | none =>
    cases c <;> simp only [requestSource, reduceCtorEq] at source
    case powerOn => exact next run (kept.reset .power s holds)
    case resetPin => exact next run (kept.reset .pin _ (kept.quiet holds (by constructor <;> simp)))
    case exchangeEnd => exact next run (kept.exchangeEnd _ _ holds)
    case hostPresentDeasserted => exact next run (kept.presentDeasserted _ holds)
    case leaseExpiry => exact next run (kept.leaseExpiry _ holds)
    case lineMark => exact next run (kept.moves holds (lineMark_moves s))
    case segmentReadComplete => exact completed run (segmentReadComplete_moves s)
    case writeAccessComplete => exact completed run (writeAccessComplete_moves s)
    case readAccessComplete => exact completed run (readAccessComplete_moves s)
    all_goals exact next run (kept.quiet holds (by constructor <;> simp [presentAsserted]))

theorem step {s t : State} (holds : P s) (run : step s = .next t) : P t :=
  step_induct P s t run (fun _ => kept.quiet holds (by constructor <;> simp)) (kept.quiet holds (by constructor <;> simp))
    fun c _ _ stands => kept.exec c stands

end KeptByAll
end Sys2Proof.Machine
end

section
/-! The Pane Table stays lawful (R5, R13, R33, R42, R86): settles O54. -/
namespace Sys2Proof.Machine

/-! ## The condition, with what an event has still to make good -/

/-- Host `h` has rights on a pane of this record: the owner's on a PENDING or LIVE pane, the guest's on a LIVE one
(R33). -/
def Pane.grants (q : Pane) (h : HostNo) : Prop :=
  (q.owner = some h ∧ (q.state = .pending ∨ q.state = .live)) ∨ (q.guest = some h ∧ q.state = .live)

/-- What `State.paneTableOk` says of one pane, where hosts of `out` may still own a PENDING or LIVE pane and hosts of `gone`
may still be guests though they are not ACTIVE. -/
structure PaneOk (out gone : HostNo → Prop) (s : State) (q : Pane) : Prop where
  fields : q.fieldsOk
  owner : ∀ h, q.owner = some h → q.state ≠ .retiring → s.isActive h = true ∨ out h
  guest : ∀ g, q.guest = some g → (s.isActive g = true ∨ gone g) ∧ q.owner ≠ some g
  setup : s.inRun = false → q.state = .free

/-- What `State.workOk` says of host `h`'s operation in service `v`, where `exempt` names panes a host may work on without
rights. -/
structure ServiceOk (exempt : HostNo → PaneNo → Prop) (s : State) (h : HostNo) (v : Service) : Prop where
  named : v.op.pane.toNat = v.pane.val
  stopping : v.stop.isSome → v.access = .inProgress
  rights : v.stop = none → exempt h v.pane ∨ (s.pane v.pane).grants h

/-- `State.paneTableOk`, and `State.workOk` where `work` holds, up to what an event in its course has still to make good:
`out`, `gone` and `exempt` as above. -/
structure Lawful (out gone : HostNo → Prop) (exempt : HostNo → PaneNo → Prop) (work : Prop) (s : State) : Prop where
  panes : ∀ p, PaneOk out gone s (s.pane p)
  services : work → ∀ h v, (s.lane h).service = some v → ServiceOk exempt s h v

/-- No host, and no host on any pane. -/
abbrev noHost : HostNo → Prop := fun _ => False
abbrev noWork : HostNo → PaneNo → Prop := fun _ _ => False

theorem lawful_iff (work : Prop) (s : State) :
    Lawful noHost noHost noWork work s ↔ s.paneTableOk ∧ (work → s.workOk) := by
  constructor
  · rintro ⟨panes, services⟩
    refine ⟨⟨fun p => ?_, fun run p => (panes p).setup run⟩, fun w h v service => ?_⟩
    · obtain ⟨fields, owner, guest, -⟩ := panes p
      exact ⟨fields, by simpa using owner, by simpa using guest⟩
    · obtain ⟨named, stopping, rights⟩ := services w h v service
      exact ⟨named, stopping, by simpa [Pane.grants] using rights⟩
  · rintro ⟨⟨panes, setup⟩, services⟩
    refine ⟨fun p => ?_, fun w h v service => ?_⟩
    · obtain ⟨fields, owner, guest⟩ := panes p
      exact ⟨fields, by simpa using owner, by simpa using guest, fun run => setup run p⟩
    · obtain ⟨named, stopping, rights⟩ := services w h v service
      exact ⟨named, stopping, by simpa [Pane.grants] using rights⟩

section
variable {out gone : HostNo → Prop} {exempt : HostNo → PaneNo → Prop} {work : Prop} {s t : State}

/-! ## What an update leaves lawful -/

theorem PaneOk.of_hosts {q : Pane} (ok : PaneOk out gone s q) {out' gone' : HostNo → Prop}
    (owners : ∀ h, s.isActive h = true ∨ out h → t.isActive h = true ∨ out' h)
    (guests : ∀ g, s.isActive g = true ∨ gone g → t.isActive g = true ∨ gone' g)
    (part : t.inRun = false → s.inRun = false) : PaneOk out' gone' t q :=
  ⟨ok.fields, fun h owner state => owners h (ok.owner h owner state),
    fun g guest => (ok.guest g guest).imp_left (guests g), fun run => ok.setup (part run)⟩

theorem PaneOk.of_same {q : Pane} (ok : PaneOk out gone s q) (active : ∀ h, t.isActive h = s.isActive h)
    (part : t.inRun = s.inRun) : PaneOk out gone t q :=
  ok.of_hosts (fun h => by simp [active h]) (fun h => by simp [active h]) (by simp [part])

theorem ServiceOk.mono {exempt' : HostNo → PaneNo → Prop} {h : HostNo} {v : Service} (ok : ServiceOk exempt s h v)
    (rights : exempt h v.pane ∨ (s.pane v.pane).grants h → exempt' h v.pane ∨ (t.pane v.pane).grants h) :
    ServiceOk exempt' t h v := ⟨ok.named, ok.stopping, fun going => rights (ok.rights going)⟩

/-- The same panes, and lawful operations in service. -/
theorem Lawful.of_services (lawful : Lawful out gone exempt work s) (pane : ∀ p, t.pane p = s.pane p)
    (active : ∀ h, t.isActive h = s.isActive h) (part : t.inRun = s.inRun)
    (services : work → ∀ h v, (t.lane h).service = some v → ServiceOk exempt s h v) :
    Lawful out gone exempt work t :=
  ⟨fun p => by rw [pane]; exact (lawful.panes p).of_same active part,
    fun w h v service => (services w h v service).mono (by rw [pane]; exact id)⟩

/-- The same panes and lanes, while hosts become ACTIVE or leave. -/
theorem Lawful.of_hosts (lawful : Lawful out gone exempt work s) (pane : ∀ p, t.pane p = s.pane p)
    (lane : ∀ h, t.lane h = s.lane h) {out' gone' : HostNo → Prop}
    (owners : ∀ h, s.isActive h = true ∨ out h → t.isActive h = true ∨ out' h)
    (guests : ∀ g, s.isActive g = true ∨ gone g → t.isActive g = true ∨ gone' g)
    (part : t.inRun = false → s.inRun = false) : Lawful out' gone' exempt work t :=
  ⟨fun p => by rw [pane]; exact (lawful.panes p).of_hosts owners guests part,
    fun w h v service => (lawful.services w h v (lane h ▸ service)).mono (by rw [pane]; exact id)⟩

/-- The same panes and the same operations in service. -/
theorem Lawful.of_same (lawful : Lawful out gone exempt work s) (pane : ∀ p, t.pane p = s.pane p)
    (lane : ∀ h, (t.lane h).service = (s.lane h).service) (active : ∀ h, t.isActive h = s.isActive h)
    (part : t.inRun = s.inRun) : Lawful out gone exempt work t :=
  lawful.of_services pane active part fun w h v service => lawful.services w h v (lane h ▸ service)

theorem Lawful.quiet (lawful : Lawful out gone exempt work s) (same : Quiet s t) : Lawful out gone exempt work t :=
  lawful.of_same same.pane (fun h => by rw [same.lane]) same.active same.inRun

/-- One host's lane changes, and its operation in service is lawful. -/
theorem Lawful.setLane (lawful : Lawful out gone exempt work s) (h : HostNo) (l : Lane)
    (service : work → ∀ v, l.service = some v → ServiceOk exempt s h v) : Lawful out gone exempt work (s.setLane h l) :=
  lawful.of_services (by simp) (fun g => rfl) rfl fun w g v held => by
    by_cases same : h = g
    · subst same; exact service w v (by simpa using held)
    · exact lawful.services w g v (by simpa [same] using held)

/-- One pane changes lawfully and takes no one's rights. -/
theorem Lawful.setPane (lawful : Lawful out gone exempt work s) (p : PaneNo) (q : Pane) (ok : PaneOk out gone s q)
    (grants : ∀ h, (s.pane p).grants h → exempt h p ∨ q.grants h) : Lawful out gone exempt work (s.setPane p q) := by
  constructor
  · intro r
    rw [State.pane_setPane]
    split
    · exact ok.of_same (fun h => rfl) rfl
    · exact (lawful.panes r).of_same (fun h => rfl) rfl
  · intro w h v service
    refine (lawful.services w h v service).mono fun rights => ?_
    rw [State.pane_setPane]
    split
    · next same => subst same; exact rights.elim .inl (grants h)
    · exact rights

/-! ## Every move leaves the Pane Table lawful -/

theorem fieldsOk_committedModes (m : PaneModes) (direct : m.buffering = .direct → m.front = .a) :
    (committedModes m).buffering = .direct → (committedModes m).front = .a := by
  unfold committedModes
  split
  · next double => simp [double]
  · exact direct

theorem owned_of_held {q : Pane} (ok : q.fieldsOk) (held : q.held.isSome) : q.state = .pending ∨ q.state = .live := by
  obtain ⟨-, -, -, shape⟩ := ok
  cases state : q.state <;> simp only [state] at shape
  case free => rw [shape] at held; cases held
  case pending | live => simp
  case retiring | orphaned => simp [shape] at held

/-- What a PENDING or LIVE pane may have staged, pending and held (Table 2-1, R37, R48). -/
theorem fieldsOk_requests {q : Pane} (ok : q.fieldsOk) (owned : q.state = .pending ∨ q.state = .live)
    (staged : Option Rect) (commit : Option Half) (held : Option Held) (single : held.isSome → commit = none)
    (pending : q.state = .pending → staged.isSome ∧ ∀ tag, held ≠ some (.stage tag none)) :
    Pane.fieldsOk { q with staged := staged, commit := commit, held := held } := by
  obtain ⟨tears, -, direct, shape⟩ := ok
  refine ⟨tears, single, direct, ?_⟩
  rcases owned with state | state <;> simp only [state] at shape ⊢
  · obtain ⟨owner, former, guest, current, -, modes, -⟩ := shape
    exact ⟨owner, former, guest, current, (pending state).1, modes, (pending state).2⟩
  · exact shape

theorem pending_requests {q : Pane} (ok : q.fieldsOk) (pending : q.state = .pending) :
    q.staged.isSome ∧ ∀ tag, q.held ≠ some (.stage tag none) := by
  obtain ⟨-, -, -, shape⟩ := ok
  simp only [pending] at shape
  obtain ⟨-, -, -, -, staged, -, held⟩ := shape
  exact ⟨staged, held⟩

theorem fieldsOk_unheld {q : Pane} (ok : q.fieldsOk) : Pane.fieldsOk { q with held := none } := by
  obtain ⟨tears, -, direct, shape⟩ := ok
  refine ⟨tears, nofun, direct, ?_⟩
  cases state : q.state <;> simp only [state] at shape ⊢
  case free => rw [shape]; rfl
  case live => exact shape
  all_goals simp [shape]

theorem PaneMove.fieldsOk {p : PaneNo} {q : Pane} (move : PaneMove s p q) (ok : (s.pane p).fieldsOk) : q.fieldsOk := by
  have ⟨tears, single, direct, shape⟩ := ok
  have capped : satSucc (s.pane p).tears ≤ 255 := Nat.min_le_right _ _
  cases move
  case claim front => simp [Pane.fieldsOk, claimedPane, front]
  case free => simp [Pane.fieldsOk, Pane.free, tears]
  case apply owned committed =>
    have modes (m : PaneModes) (after : (s.pane p).modes.map committedModes = some m) :
        m.buffering = .direct → m.front = .a := by
      obtain ⟨before, had, rfl⟩ := Option.map_eq_some_iff.1 after
      exact fieldsOk_committedModes before (direct before had)
    refine ⟨tears, fun _ => rfl, modes, ?_⟩
    rcases owned with state | state <;> simp only [state] at shape <;>
      simp [committedPane, Pane.target, shape]
  case adopt h active orphaned =>
    simp only [orphaned] at shape
    exact ⟨tears, fun _ => rfl, direct, by simp [adoptedPane, shape]⟩
  case tear =>
    refine ⟨capped, single, direct, ?_⟩
    cases state : (s.pane p).state <;> simp only [state] at shape ⊢
    case free => rw [shape]; rfl
    all_goals exact shape
  case unhold => exact fieldsOk_unheld ok
  case commit t owned =>
    exact fieldsOk_requests ok (owned.elim (owned_of_held ok) id) _ _ _ nofun fun pending =>
      ⟨(pending_requests ok pending).1, nofun⟩
  case count tag n m held =>
    exact fieldsOk_requests ok (owned_of_held ok (by simp [held])) _ _ _ (fun _ => single (by simp [held])) fun pending =>
      ⟨(pending_requests ok pending).1, nofun⟩
  case holdCommit tag n owned uncommitted =>
    exact fieldsOk_requests ok owned _ _ _ (fun _ => uncommitted) fun pending =>
      ⟨(pending_requests ok pending).1, nofun⟩
  case stageHeld tag rect held =>
    refine fieldsOk_requests ok (owned_of_held ok (by simp [held])) _ _ _ nofun fun pending => ⟨?_, nofun⟩
    have := (pending_requests ok pending).2 tag
    cases rect <;> simp_all
  case holdStage tag rect stageable =>
    refine fieldsOk_requests ok stageable.owned _ _ _ (fun _ => stageable.uncommitted) fun pending =>
      ⟨(pending_requests ok pending).1, fun other same => stageable.present ?_ pending⟩
    cases same; rfl
  case stage rect stageable =>
    refine fieldsOk_requests ok stageable.owned _ _ _ single fun pending => ⟨?_, (pending_requests ok pending).2⟩
    exact Option.isSome_iff_ne_none.2 fun none => stageable.present none pending

theorem PaneMove.lawful {p : PaneNo} {q : Pane} (move : PaneMove s p q) (ok : PaneOk out gone s (s.pane p)) :
    PaneOk out gone s q ∧ ∀ h, (s.pane p).grants h → q.grants h := by
  have fields := move.fieldsOk ok.fields
  have kept (state : q.state = (s.pane p).state) (owner : q.owner = (s.pane p).owner)
      (guest : q.guest = (s.pane p).guest) : PaneOk out gone s q ∧ ∀ h, (s.pane p).grants h → q.grants h :=
    ⟨⟨fields, by rw [state, owner]; exact ok.owner, by rw [owner, guest]; exact ok.guest, by rw [state]; exact ok.setup⟩,
      fun h rights => by simpa [Pane.grants, state, owner, guest] using rights⟩
  have running (state : (s.pane p).state ≠ .free) : s.inRun = false → q.state = .free := fun setup =>
    absurd (ok.setup setup) state
  cases move
  case free retiring =>
    exact ⟨⟨fields, nofun, nofun, fun _ => rfl⟩, fun h rights => by simp [Pane.grants, retiring] at rights⟩
  case claim h rect m run active free valid front =>
    refine ⟨⟨fields, ?_, nofun, by simp [run]⟩, fun h rights => by simp [Pane.grants, free] at rights⟩
    simp [claimedPane, active]
  case adopt h active orphaned =>
    refine ⟨⟨fields, ?_, nofun, running (by simp [orphaned])⟩, fun h rights => by simp [Pane.grants, orphaned] at rights⟩
    simp [adoptedPane, active]
  case apply owned _ =>
    refine ⟨⟨fields, fun h owner _ => ok.owner h owner (by rcases owned with state | state <;> simp [state]), ok.guest,
      running (by rcases owned with state | state <;> simp [state])⟩, fun h rights => ?_⟩
    rcases rights with ⟨owner, -⟩ | ⟨guest, -⟩
    · exact .inl ⟨owner, .inr rfl⟩
    · exact .inr ⟨guest, rfl⟩
  all_goals exact kept rfl rfl rfl

theorem rightsCheck_grants (h : HostNo) (sel : Byte) (p : PaneNo) (r : Rect) (passes : rightsCheck s h sel = .ok (p, r)) :
    sel.toNat = p.val ∧ (s.pane p).grants h := by
  unfold rightsCheck at passes
  split at passes
  · cases passes
  · next q named =>
    dsimp only at passes
    (repeat' split at passes) <;> cases passes
    next present granted _ =>
      have state : (s.pane p).state = .pending ∨ (s.pane p).state = .live := by
        simp only [Bool.and_eq_true, decide_eq_true_eq, not_and_or, ne_eq, not_not] at present
        exact present
      refine ⟨?_, ?_⟩
      · unfold paneOf at named
        split at named <;> cases named
        rfl
      · simp only [Bool.or_eq_true, Bool.and_eq_true, decide_eq_true_eq, ne_eq] at granted
        rcases granted with owner | ⟨guest, notPending⟩
        · exact .inl ⟨owner, state⟩
        · exact .inr ⟨guest, state.resolve_left notPending⟩

theorem serviceCheck_grants (h : HostNo) (op : CellOp) (p : PaneNo) (area : Rect)
    (passes : serviceCheck s h op = .ok (p, area)) : op.pane.toNat = p.val ∧ (s.pane p).grants h := by
  unfold serviceCheck at passes
  split at passes
  · cases passes
  · next named => 
    split at passes
    · cases passes
      exact rightsCheck_grants h op.pane p _ named
    · cases passes

theorem LaneMove.lawful {h : HostNo} {l : Lane} (move : LaneMove s h l)
    (ok : ∀ v, (s.lane h).service = some v → ServiceOk exempt s h v) :
    ∀ v, l.service = some v → ServiceOk exempt s h v := by
  intro v held
  cases move
  case join => exact ok v held
  case refuse | finish => cases held
  case begin op rest p area run idle head passes =>
    cases held
    obtain ⟨named, grants⟩ := serviceCheck_grants h op p area passes
    exact ⟨named, nofun, fun _ => .inr grants⟩
  case test u a service idle =>
    cases held
    have before := ok u service
    exact ⟨before.named, fun stop => absurd (before.stopping stop) idle, before.rights⟩
  case advance u n line col service going next =>
    cases held
    have before := ok u service
    exact ⟨before.named, fun stop => by simp [going] at stop, before.rights⟩
  case delay u rs service =>
    cases held
    have before := ok u service
    exact ⟨before.named, before.stopping, before.rights⟩

/-- Stopping or dropping operations ends the exemption of those that meet the test. -/
theorem Lawful.stopOps {exempt' : HostNo → PaneNo → Prop} (lawful : Lawful out gone exempt work s) (h : HostNo)
    (test : CellOp → Bool) (parked : Parked → Bool) (status : Status)
    (ended : ∀ g (v : Service), exempt g v.pane → v.op.pane.toNat = v.pane.val →
      exempt' g v.pane ∨ (g = h ∧ test v.op = true)) :
    Lawful out gone exempt' work (stopOps h test parked status s) := by
  refine ⟨fun p => (lawful.panes p).of_same (fun _ => rfl) rfl, fun w g v held => ?_⟩
  have going (u : Service) (before : (s.lane g).service = some u) (kept : ¬(g = h ∧ test u.op = true)) :
      ServiceOk exempt' (Machine.stopOps h test parked status s) g u := by
    have ok := lawful.services w g u before
    exact ok.mono fun rights => rights.imp_left fun still => (ended g u still ok.named).resolve_right kept
  by_cases same : h = g
  · subst same
    replace held : (s.lane h).service.bind (stoppedService test status) = some v := by
      simpa [Machine.stopOps] using held
    obtain ⟨u, before, stopped⟩ := Option.bind_eq_some_iff.1 held
    unfold stoppedService at stopped
    split at stopped
    · split at stopped
      · cases stopped
      · next waits =>
        cases stopped
        have ok := lawful.services w h u before
        exact ⟨ok.named, fun _ => by simpa [Service.stopsAtOnce] using waits, nofun⟩
    · next other =>
      cases stopped
      exact going v before fun ⟨_, met⟩ => other met
  · exact going v (by simpa [Machine.stopOps, same] using held) fun ⟨other, _⟩ => same other.symm

theorem Lawful.dropOps {exempt' : HostNo → PaneNo → Prop} (lawful : Lawful out gone exempt work s) (h : HostNo)
    (ended : ∀ g p, exempt g p → exempt' g p ∨ g = h) : Lawful out gone exempt' work (dropOps h s) := by
  refine ⟨fun p => (lawful.panes p).of_same (fun _ => rfl) rfl, fun w g v held => ?_⟩
  by_cases same : h = g
  · subst same
    simp [Machine.dropOps] at held
  · exact (lawful.services w g v (by simpa [Machine.dropOps, same] using held)).mono fun rights =>
      rights.imp_left fun still => (ended g v.pane still).resolve_right fun other => same other.symm

theorem Lawful.move (lawful : Lawful out gone exempt work s) (move : Move s t) : Lawful out gone exempt work t := by
  have granted (h : HostNo) (v : Service) (service : (s.lane h).service = some v) :
      Lawful out gone exempt work (setAccess h .inProgress s) :=
    lawful.setLane h _ fun w u held => by
      have before := lawful.services w h v service
      rw [service] at held
      cases held
      exact ⟨before.named, fun _ => rfl, before.rights⟩
  cases move
  case quiet same => exact lawful.quiet same
  case pane p q move =>
    obtain ⟨ok, grants⟩ := move.lawful (lawful.panes p)
    exact lawful.setPane p q ok fun h rights => .inr (grants h rights)
  case lane h l move => exact lawful.setLane h l fun w => move.lawful (lawful.services w h)
  case scan | grantSegment | free | abandon => exact lawful.of_same (fun _ => rfl) (fun _ => rfl) (fun _ => rfl) rfl
  case grantRead h v back service idle =>
    exact (granted h v service).of_same (fun _ => rfl) (fun _ => rfl) (fun _ => rfl) rfl
  case grantWrite h v restart service idle =>
    exact (granted h v service).of_same (fun _ => rfl) (fun _ => rfl) (fun g => by simp [grantWrite]) rfl
  case stop h test parked status => exact lawful.stopOps h test parked status fun g v still _ => .inl still
  case drop h => exact lawful.dropOps h fun g p still => .inl still

end
end Sys2Proof.Machine
end

section
/-! Departures, guests and releases leave the Pane Table lawful (R13, R21 to R28, R33, R87, R88). -/
namespace Sys2Proof.Machine

/-! ## Loops that change each pane by itself -/

theorem forEach_setPane (f : PaneNo → State → State) (g : Pane → Pane) (turn : ∀ p s, f p s = s.setPane p (g (s.pane p)))
    (l : List PaneNo) (apart : l.Nodup) (s : State) (p : PaneNo) :
    (forEach l f s).pane p = if p ∈ l then g (s.pane p) else s.pane p := by
  induction l generalizing s with
  | nil => simp
  | cons q l ih =>
    obtain ⟨outside, rest⟩ := List.nodup_cons.1 apart
    rw [forEach_cons, ih rest, turn, State.pane_setPane]
    by_cases same : q = p
    · subst same; simp [outside]
    · simp [same, Ne.symm same]

theorem forEach_allPanes_pane (f : PaneNo → State → State) (g : Pane → Pane)
    (turn : ∀ p s, f p s = s.setPane p (g (s.pane p))) (s : State) (p : PaneNo) :
    (forEach allPanes f s).pane p = g (s.pane p) := by
  rw [forEach_setPane f g turn _ (allPanes_rising.imp fun h => ne_of_lt h), if_pos (mem_allPanes p)]

/-- A pane once its owner `h` has departed, if it is its owner (R26, R27). -/
def departedPane (h : HostNo) (kind : Departure) (q : Pane) : Pane :=
  if q.owner = some h ∧ q.state = .pending then .free q.tears
  else if q.owner = some h ∧ q.state = .live then
    (if kind = .detach .release then retiringPane q else orphanedPane q)
  else q

theorem departPane_eq (h : HostNo) (kind : Departure) (p : PaneNo) (s : State) :
    departPane h kind p s = s.setPane p (departedPane h kind (s.pane p)) := by
  simp only [departPane, departedPane, owns, Bool.and_eq_true, decide_eq_true_eq]
  (repeat' split) <;> simp

theorem removeGuest_eq (h : HostNo) (p : PaneNo) (s : State) :
    removeGuest h p s = s.setPane p { s.pane p with guest := if (s.pane p).guest = some h then none else (s.pane p).guest } := by
  unfold removeGuest
  split
  · rfl
  · exact (s.setPane_self p).symm

section
variable {out gone : HostNo → Prop} {exempt : HostNo → PaneNo → Prop} {work : Prop} {s : State}

theorem Lawful.moves {t : State} (lawful : Lawful out gone exempt work s) (run : Moves s t) :
    Lawful out gone exempt work t := by
  induction run with
  | refl => exact lawful
  | tail _ last ih => exact ih.move last

/-- The end of host `h`'s work on some panes ends its exemption on them (R21, R23, R87). -/
theorem Lawful.endWork {exempt' : HostNo → PaneNo → Prop} (lawful : Lawful out gone exempt work s)
    (panes : List PaneNo) (status : Status) (h : HostNo)
    (ended : ∀ g p, exempt g p → exempt' g p ∨ (g = h ∧ p ∈ panes)) :
    Lawful out gone exempt' work (endWork panes status h s) := by
  refine (lawful.stopOps h _ _ status fun g v still named => ?_).moves (endWork_after_stop panes status h s)
  refine (ended g v.pane still).imp_right fun ⟨same, on⟩ => ⟨same, ?_⟩
  exact List.any_eq_true.2 ⟨v.pane, on, by simp [CellOp.onPane, named]⟩

theorem Lawful.departGuest {exempt' : HostNo → PaneNo → Prop} (lawful : Lawful out gone exempt work s)
    (h : HostNo) (kind : Departure) (g : HostNo) (panes : List PaneNo)
    (ended : ∀ g' p, exempt g' p → exempt' g' p ∨ (g' = g ∧ p ∈ panes)) :
    Lawful out gone exempt' work (departGuest h kind g panes s) :=
  (lawful.endWork panes (guestEnd kind).1 g ended).quiet (by constructor <;> simp [Machine.departGuest])

theorem Lawful.departGuests (h : HostNo) (kind : Departure) (panes : HostNo → List PaneNo) (gs : List HostNo)
    (lawful : Lawful out gone (fun g p => exempt g p ∨ (g ∈ gs ∧ p ∈ panes g)) work s) :
    Lawful out gone exempt work (forEach gs (fun g => Machine.departGuest h kind g (panes g)) s) := by
  induction gs generalizing s with
  | nil => simpa using lawful
  | cons g gs ih =>
    refine ih (lawful.departGuest h kind g (panes g) fun g' p still => ?_)
    rcases still with kept | ⟨on, named⟩
    · exact .inl (.inl kept)
    · rcases List.mem_cons.1 on with rfl | on
      · exact .inr ⟨rfl, named⟩
      · exact .inl (.inr ⟨on, named⟩)

/-! ## Departures -/

theorem fieldsOk_departedPane (h : HostNo) (kind : Departure) {q : Pane} (ok : q.fieldsOk) :
    (departedPane h kind q).fieldsOk := by
  have ⟨tears, single, direct, shape⟩ := ok
  unfold departedPane
  (repeat' split)
  · simp [Pane.fieldsOk, Pane.free, tears]
  · next owned _ =>
    simp only [owned.2] at shape
    exact ⟨tears, nofun, direct, by simp [retiringPane, shape]⟩
  · next owned _ =>
    simp only [owned.2] at shape
    exact ⟨tears, nofun, direct, by simp [orphanedPane, shape]⟩
  · exact ok

theorem fieldsOk_state_of_owner {q : Pane} (ok : q.fieldsOk) (h : HostNo) (owner : q.owner = some h) :
    q.state = .pending ∨ q.state = .live ∨ q.state = .retiring := by
  obtain ⟨-, -, -, shape⟩ := ok
  cases state : q.state <;> simp only [state] at shape
  case free => rw [shape] at owner; cases owner
  case orphaned => simp [shape] at owner
  all_goals simp

/-- A departing host's pane becomes FREE, RETIRING or ORPHANED, and every other stays. -/
theorem departedPane_cases (h : HostNo) (kind : Departure) (q : Pane) :
    (departedPane h kind q = q ∧ ¬(q.owner = some h ∧ (q.state = .pending ∨ q.state = .live))) ∨
      (departedPane h kind q = .free q.tears ∧ q.owner = some h ∧ q.state = .pending) ∨
      ((departedPane h kind q = retiringPane q ∨ departedPane h kind q = orphanedPane q) ∧ q.owner = some h ∧
        q.state = .live) := by
  unfold departedPane
  (repeat' split) <;> simp_all

/-- The departed owner's panes are no longer its own but for RETIRING ones. -/
theorem PaneOk.departed {h : HostNo} (kind : Departure) {q : Pane} (ok : PaneOk (· = h) gone s q) :
    PaneOk noHost gone s (departedPane h kind q) := by
  have fields := fieldsOk_departedPane h kind ok.fields
  rcases departedPane_cases h kind q with ⟨same, others⟩ | ⟨freed, -⟩ | ⟨retiring | orphaned, -, live⟩
  · rw [same]
    refine ⟨ok.fields, fun g owner state => (ok.owner g owner state).imp_right ?_, ok.guest, ok.setup⟩
    rintro rfl
    have := fieldsOk_state_of_owner ok.fields g owner
    exact others ⟨owner, by tauto⟩
  · rw [freed] at fields ⊢
    exact ⟨fields, nofun, nofun, fun _ => rfl⟩
  · rw [retiring] at fields ⊢
    exact ⟨fields, fun _ _ state => absurd rfl state, nofun, fun setup => by have := ok.setup setup; simp_all⟩
  · rw [orphaned] at fields ⊢
    exact ⟨fields, nofun, nofun, fun setup => by have := ok.setup setup; simp_all⟩

/-- Only the departing owner and its panes' guests lose rights. -/
theorem grants_departedPane {h g : HostNo} (kind : Departure) {q : Pane} (rights : q.grants g) :
    g = h ∨ (q.owner = some h ∧ q.state = .live ∧ q.guest = some g) ∨ (departedPane h kind q).grants g := by
  rcases departedPane_cases h kind q with ⟨same, -⟩ | ⟨-, owner, pending⟩ | ⟨-, owner, live⟩
  · rw [same]; exact .inr (.inr rights)
  · rcases rights with ⟨own, -⟩ | ⟨-, live⟩
    · exact .inl (by simpa [owner] using own.symm)
    · simp [pending] at live
  · rcases rights with ⟨own, -⟩ | ⟨guest, -⟩
    · exact .inl (by simpa [owner] using own.symm)
    · exact .inr (.inl ⟨owner, live, guest⟩)

/-- Only LIVE panes have guests, and any host or none fits there as far as Table 2-1 goes. -/
theorem live_of_guest {q : Pane} (ok : q.fieldsOk) (g : HostNo) (guest : q.guest = some g) : q.state = .live := by
  obtain ⟨-, -, -, shape⟩ := ok
  cases state : q.state <;> simp only [state] at shape
  case free => rw [shape] at guest; cases guest
  case live => rfl
  all_goals simp [shape] at guest

theorem fieldsOk_guest {q : Pane} (ok : q.fieldsOk) (live : q.state = .live) (guest : Option HostNo) :
    Pane.fieldsOk { q with guest := guest } := by
  obtain ⟨tears, single, direct, shape⟩ := ok
  refine ⟨tears, single, direct, ?_⟩
  simp only [live] at shape ⊢
  exact shape

theorem PaneOk.unguested {h : HostNo} {q : Pane} (ok : PaneOk out (· = h) s q) :
    PaneOk out noHost s { q with guest := if q.guest = some h then none else q.guest } := by
  by_cases guest : q.guest = some h
  · refine ⟨fieldsOk_guest ok.fields (live_of_guest ok.fields h guest) _, ok.owner, ?_, ok.setup⟩
    simp [guest]
  · simp only [guest, if_false]
    exact ⟨ok.fields, ok.owner, fun g is => ⟨.inl ((ok.guest g is).1.resolve_right fun same => guest (same ▸ is)),
      (ok.guest g is).2⟩, ok.setup⟩

/-- The Pane Manager's share of a departure ends the departing host's rights, and its guests' work with them. -/
theorem Lawful.departPanes (h : HostNo) (kind : Departure) (lawful : Lawful (· = h) (· = h) noWork work s) :
    Lawful noHost noHost (fun g _ => g = h) work (departPanes h kind s) := by
  have left : Lawful noHost (· = h) (fun g p => g = h ∨ (g ∈ allHosts ∧ p ∈ guestPanesOf s h g)) work
      (forEach allPanes (departPane h kind) s) := by
    have pane := forEach_allPanes_pane (departPane h kind) (departedPane h kind) (departPane_eq h kind) s
    refine ⟨fun p => ?_, fun w g v service => ?_⟩
    · rw [pane]
      exact ((lawful.panes p).departed kind).of_same (by simp) (by simp [State.inRun])
    · refine (lawful.services w g v (by simpa using service)).mono fun rights => ?_
      rw [pane]
      rcases rights with no | rights
      · exact no.elim
      · rcases grants_departedPane kind rights (h := h) with mine | guest | kept
        · exact .inl (.inl mine)
        · exact .inl (.inr ⟨mem_allHosts g, by simp [guestPanesOf, owns, guest, mem_allPanes]⟩)
        · exact .inr kept
  have told := Lawful.departGuests h kind (guestPanesOf s h) allHosts left
  have noticed := told.moves (forEach_moves (fun p => postTo allHosts (.orphanNotice p h (orphanReason kind)))
    (orphansOf s h kind) _ fun p t => (postTo_quiet _ _ t).moves)
  unfold Machine.departPanes
  dsimp only
  generalize forEach (orphansOf s h kind) _ _ = u at noticed
  have pane := forEach_allPanes_pane (removeGuest h) (fun q => { q with guest := if q.guest = some h then none else q.guest })
    (removeGuest_eq h) u
  refine ⟨fun p => ?_, fun w g v service => ?_⟩
  · rw [pane]
    exact (noticed.panes p).unguested.of_same (by simp) (by simp [State.inRun])
  · refine (noticed.services w g v (by simpa using service)).mono fun rights => ?_
    rw [pane]
    rcases rights with mine | owner | ⟨guest, live⟩
    · exact .inl mine
    · exact .inr (.inl owner)
    · by_cases same : g = h
      · exact .inl same
      · exact .inr (.inr ⟨by simp [guest, same], live⟩)

/-! ## Guests and releases -/

/-- More exemptions. -/
theorem Lawful.mono {exempt' : HostNo → PaneNo → Prop} (lawful : Lawful out gone exempt work s)
    (more : ∀ g p, exempt g p → exempt' g p) : Lawful out gone exempt' work s :=
  ⟨lawful.panes, fun w g v service => (lawful.services w g v service).mono fun rights => rights.imp_left (more g v.pane)⟩

theorem Lawful.changeGuest (lawful : Lawful noHost noHost noWork work s) (h : HostNo) (p : PaneNo)
    (named : Option HostNo) (owner : (s.pane p).owner = some h) (live : (s.pane p).state = .live)
    (allowed : ∀ g, named = some g → g ≠ h ∧ s.isActive g = true) :
    Lawful noHost noHost noWork work (changeGuest h p named s) := by
  have ok := lawful.panes p
  have changed : Lawful noHost noHost (fun g r => (s.pane p).guest = some g ∧ r = p) work
      (s.setPane p { s.pane p with guest := named }) := by
    refine (lawful.mono fun _ _ no => no.elim).setPane p _
      ⟨fieldsOk_guest ok.fields live named, ok.owner, fun g is => ?_, ok.setup⟩ fun g rights => ?_
    · exact ⟨.inl (allowed g is).2, by simpa [owner] using (allowed g is).1.symm⟩
    · rcases rights with own | ⟨guest, -⟩
      · exact .inr (.inl own)
      · exact .inl ⟨guest, rfl⟩
  unfold Machine.changeGuest
  dsimp only
  refine Lawful.quiet ?_ (postTo_quiet _ _ _)
  cases guest : (s.pane p).guest with
  | none => exact changed.mono fun g r no => by simp [guest] at no
  | some g =>
    refine (changed.endWork [p] .revoked g fun g' r still => .inr ?_).quiet (by constructor <;> simp [revokeGuest])
    simpa [guest, eq_comm] using still

theorem PaneOk.released {h : HostNo} {q : Pane} (ok : PaneOk out gone s q) (owner : q.owner = some h)
    (state : q.state = .pending ∨ q.state = .live) : PaneOk out gone s (releasedPane q) := by
  have ⟨tears, _, direct, shape⟩ := ok.fields
  unfold releasedPane
  split
  · exact ⟨by simp [Pane.fieldsOk, Pane.free, tears], nofun, nofun, fun _ => rfl⟩
  · next notPending =>
    have live := state.resolve_left notPending
    simp only [live] at shape
    exact ⟨⟨tears, nofun, direct, by simp [retiringPane, shape, owner]⟩, fun _ _ retiring => absurd rfl retiring, nofun,
      fun setup => by have := ok.setup setup; simp_all⟩

/-- A release ends the work of the owner and of the guest, the only hosts with rights on the pane (R22, R23). -/
theorem Lawful.releasePane (lawful : Lawful noHost noHost noWork work s) (h : HostNo) (tag : Byte) (p : PaneNo)
    (owner : (s.pane p).owner = some h) (state : (s.pane p).state = .pending ∨ (s.pane p).state = .live) :
    ∃ t, Lawful noHost noHost noWork work t ∧ releasePane h tag p s = settle t := by
  have released : Lawful noHost noHost (fun g r => (g = h ∨ (s.pane p).guest = some g) ∧ r = p) work
      (s.setPane p (releasedPane (s.pane p))) := by
    refine (lawful.mono fun _ _ no => no.elim).setPane p _ ((lawful.panes p).released owner state) fun g rights => .inl ?_
    rcases rights with ⟨own, -⟩ | ⟨guest, -⟩
    · exact ⟨.inl (by simpa [owner] using own.symm), rfl⟩
    · exact ⟨.inr guest, rfl⟩
  have answered := released.quiet (answerAll_quiet h ((s.pane p).held.toList.map cancelledHeld) _)
  have owned : Lawful noHost noHost (fun g r => (s.pane p).guest = some g ∧ r = p) work _ :=
    answered.endWork [p] .cancelled h fun g r ⟨who, on⟩ =>
      who.symm.imp (fun guest => ⟨guest, on⟩) fun same => ⟨same, by simp [on]⟩
  unfold Machine.releasePane
  dsimp only
  refine ⟨_, Lawful.quiet (Lawful.quiet ?_ (postTo_quiet _ _ _)) (reply_quiet _ _ _ _ _ _), rfl⟩
  generalize Machine.endWork [p] .cancelled h _ = u at owned
  cases guest : (s.pane p).guest with
  | none => exact owned.mono fun g r no => by simp [guest] at no
  | some g =>
    exact owned.endWork [p] .cancelled g fun g' r still => .inr (by simpa [guest, eq_comm] using still)

/-! ## Every step -/

/-- A host that leaves ACTIVE may still own panes and be a guest until the Pane Manager has done its share. -/
theorem Lawful.leaveActive (lawful : Lawful noHost noHost noWork work s) (h : HostNo) (after : HostState) :
    Lawful (· = h) (· = h) noWork work (leaveActive h after s) := by
  have others (g : HostNo) (active : s.isActive g = true ∨ noHost g) :
      (Machine.leaveActive h after s).isActive g = true ∨ g = h := by
    by_cases same : g = h
    · exact .inr same
    · exact .inl (by simpa [Machine.leaveActive, isActive_eq, Ne.symm same] using active)
  exact lawful.of_hosts (fun _ => by rfl) (fun _ => by rfl) others others id

theorem Lawful.attachHost (lawful : Lawful noHost noHost noWork work s) (h : HostNo) :
    Lawful noHost noHost noWork work (attachHost h s) := by
  unfold Machine.attachHost
  split
  · exact lawful
  · have kept (g : HostNo) (active : s.isActive g = true ∨ noHost g) :
        (s.setHost h { s.host h with state := .active, vote := false }).isActive g = true ∨ noHost g := by
      refine .inl ?_
      by_cases same : h = g
      · subst same; simp [isActive_eq]
      · simpa [isActive_eq, same] using active
    exact lawful.of_hosts (fun _ => by rfl) (fun _ => by rfl) kept kept id

theorem lawful_partReset (cause : Cause) (s : State) : Lawful noHost noHost noWork work (partReset cause s) := by
  refine ⟨fun p => ?_, fun _ h v service => by simp at service⟩
  simpa using ⟨by simp [Pane.fieldsOk, Pane.free], nofun, nofun, fun _ => rfl⟩

theorem lawful_keptByAll (work : Prop) : KeptByAll (Lawful noHost noHost noWork work) where
  move lawful move := lawful.move move
  reset cause s _ := lawful_partReset cause s
  attach h _ lawful := lawful.attachHost h
  silent h kind after s u lawful left := by
    have gone := (lawful.leaveActive h after).quiet left
    have cleared := gone.quiet (t := clearEvents h (portDeparture h (kind = .lapse) u)) (by constructor <;> simp)
    have dropped := (cleared.departPanes h kind).dropOps (exempt' := noWork) h fun _ _ same => .inr same
    exact (dropped.moves (takeIdleStages_moves _)).quiet (by constructor <;> simp [silentlyLeft])
  detach h mode s lawful :=
    ((lawful.leaveActive h .absent).departPanes h (.detach mode)).stopOps h _ _ _ fun _ _ same _ => .inr ⟨same, rfl⟩
  guest h p named s lawful owner live allowed := lawful.changeGuest h p named owner live allowed
  release h tag p s lawful owner state := lawful.releasePane h tag p owner state
  config h f value cell v s lawful setup _ := lawful.of_same (fun _ => rfl) (fun _ => rfl) (fun _ => rfl) rfl
  run lawful setup := lawful.of_hosts (fun _ => by rfl) (fun _ => by rfl) (fun _ => id) (fun _ => id) fun _ => setup

end

/-- Settles O54: `Lawful` is what every move keeps, and departures, guest changes and releases make it good again. -/
theorem paneTableStaysLawful : Obligations.PaneTableStaysLawful := by
  unfold Obligations.PaneTableStaysLawful
  intro s t table run
  have after (work : Prop) (works : work → s.workOk) : t.paneTableOk ∧ (work → t.workOk) :=
    (lawful_iff work t).1 ((lawful_keptByAll work).step ((lawful_iff work s).2 ⟨table, works⟩) run)
  exact ⟨(after False False.elim).1, (after s.workOk id).2⟩

end Sys2Proof.Machine
end

section
/-! Every place named lies in the store (R2, R3, R75, R154): settles O59. -/
namespace Sys2Proof.Machine

/-! ## The condition by parts -/

/-- What `Pane.inFrame` says where the pane is not FREE, and that it is FREE in SETUP. -/
structure PanePlaced (s : State) (q : Pane) : Prop where
  inside : q.state ≠ .free → q.inFrame s.conf.settings
  setup : s.inRun = false → q.state = .free

/-- What `State.geometryOk` says of one lane. -/
structure LanePlaced (s : State) (l : Lane) : Prop where
  service : ∀ v, l.service = some v → v.inFrame s.conf.settings
  queued : ∀ op ∈ l.queued, op.sized
  setup : s.inRun = false → l.service = none

/-- What `State.geometryOk` says of the latch in flight and the cursor. -/
structure ScanPlaced (s : State) (x : Scan) : Prop where
  cursor : x.cursorLine < s.conf.settings.frameHeight
  latch : ∀ l, x.latch = some l →
    l.line < s.conf.settings.frameHeight ∧ l.segment < segmentCount s.conf.settings.frameWidth
  setup : s.inRun = false → x.latch = none ∧ x.cursorLine = 0

/-- An access that names places of the store (R2). -/
def StoreAccess.inside : StoreAccess → Prop
  | .segment _ line first cells | .write _ _ _ line first cells _ | .read _ _ _ line first cells =>
      line < 480 ∧ first + cells.length ≤ 800

/-- `State.geometryOk` by parts. -/
structure Placed (s : State) : Prop where
  frame : s.conf.settings.frameOk
  pane : ∀ p, PanePlaced s (s.pane p)
  lane : ∀ h, LanePlaced s (s.lane h)
  scan : ScanPlaced s s.scan
  access : ∀ a, s.arbiter.access = some a → a.inside

theorem accessInStore_iff (s : State) : accessInStore s = true ↔ ∀ a, s.arbiter.access = some a → a.inside := by
  unfold accessInStore
  cases access : s.arbiter.access with
  | none => simp
  | some a => cases a <;> simp [StoreAccess.inside, runInStore_iff]

theorem placed_iff (s : State) : Placed s ↔ s.geometryOk := by
  constructor
  · rintro ⟨frame, pane, lane, scan, access⟩
    exact ⟨frame, fun setup => ⟨fun p => (pane p).setup setup, fun h => (lane h).setup setup, scan.setup setup⟩,
      fun p => (pane p).inside, fun h => (lane h).service, fun h => (lane h).queued, scan.cursor, scan.latch,
      (accessInStore_iff s).2 access⟩
  · rintro ⟨frame, setup, pane, service, queued, cursor, latch, access⟩
    exact ⟨frame, fun p => ⟨pane p, fun run => (setup run).1 p⟩,
      fun h => ⟨service h, queued h, fun run => (setup run).2.1 h⟩, ⟨cursor, latch, fun run => (setup run).2.2⟩,
      (accessInStore_iff s).1 access⟩

/-! ## What an update leaves placed -/

section
variable {s t : State}

theorem PanePlaced.of_same {q : Pane} (ok : PanePlaced s q) (settings : t.conf.settings = s.conf.settings)
    (part : t.inRun = s.inRun) : PanePlaced t q := ⟨settings ▸ ok.inside, part ▸ ok.setup⟩

theorem LanePlaced.of_same {l : Lane} (ok : LanePlaced s l) (settings : t.conf.settings = s.conf.settings)
    (part : t.inRun = s.inRun) : LanePlaced t l := ⟨settings ▸ ok.service, ok.queued, part ▸ ok.setup⟩

theorem ScanPlaced.of_same {x y : Scan} (ok : ScanPlaced s x) (settings : t.conf.settings = s.conf.settings)
    (part : t.inRun = s.inRun) (latch : y.latch = x.latch) (cursor : y.cursorLine = x.cursorLine) : ScanPlaced t y :=
  ⟨by rw [settings, cursor]; exact ok.cursor, by rw [settings, latch]; exact ok.latch,
    by rw [part, latch, cursor]; exact ok.setup⟩

/-- The same settings and part state, and placed records. -/
theorem Placed.of_parts (placed : Placed s) (settings : t.conf.settings = s.conf.settings) (part : t.inRun = s.inRun)
    (pane : ∀ p, PanePlaced s (t.pane p)) (lane : ∀ h, LanePlaced s (t.lane h)) (scan : ScanPlaced s t.scan)
    (access : ∀ a, t.arbiter.access = some a → a.inside) : Placed t :=
  ⟨settings ▸ placed.frame, fun p => (pane p).of_same settings part, fun h => (lane h).of_same settings part,
    scan.of_same settings part rfl rfl, access⟩

theorem Placed.of_same (placed : Placed s) (settings : t.conf.settings = s.conf.settings) (part : t.inRun = s.inRun)
    (pane : ∀ p, t.pane p = s.pane p) (lane : ∀ h, t.lane h = s.lane h) (latch : t.scan.latch = s.scan.latch)
    (cursor : t.scan.cursorLine = s.scan.cursorLine) (access : t.arbiter.access = s.arbiter.access) : Placed t :=
  placed.of_parts settings part (fun p => pane p ▸ placed.pane p) (fun h => lane h ▸ placed.lane h)
    (placed.scan.of_same rfl rfl latch cursor) (access ▸ placed.access)

theorem Placed.quiet (placed : Placed s) (same : Quiet s t) : Placed t :=
  placed.of_same same.settings same.inRun same.pane same.lane same.latch same.cursor same.access

theorem Placed.setPane (placed : Placed s) (p : PaneNo) (q : Pane) (ok : PanePlaced s q) : Placed (s.setPane p q) :=
  placed.of_parts rfl rfl (fun r => by rw [State.pane_setPane]; split; exacts [ok, placed.pane r]) placed.lane
    placed.scan placed.access

theorem Placed.setLane (placed : Placed s) (h : HostNo) (l : Lane) (ok : LanePlaced s l) : Placed (s.setLane h l) :=
  placed.of_parts rfl rfl placed.pane (fun g => by rw [State.lane_setLane]; split; exacts [ok, placed.lane g])
    placed.scan placed.access

theorem Placed.setScan (placed : Placed s) (x : Scan) (ok : ScanPlaced s x) : Placed (s.setScan x) :=
  placed.of_parts rfl rfl placed.pane placed.lane ok placed.access

/-! ## Every move keeps everything placed -/

/-- A pane's target rectangle is one of its rectangles. -/
theorem mem_rects_of_target {q : Pane} {r : Rect} (target : q.target = some r) : r ∈ q.rects := by
  unfold Pane.target at target
  unfold Pane.rects
  cases staged : q.staged <;> simp_all

/-- What a pane holds once another rectangle, or "none", is staged. -/
theorem inFrame_stage {c : Settings} {q : Pane} (inside : q.inFrame c) (rect : Option Rect) (held : Option Held)
    (valid : ∀ r, rect = some r → rectValidIn r c.frameWidth c.frameHeight = true)
    (waits : ∀ tag r, held = some (.stage tag (some r)) → rectValidIn r c.frameWidth c.frameHeight = true) :
    Pane.inFrame c { q with staged := rect, held := held } := by
  refine ⟨fun r named => ?_, waits⟩
  rcases List.mem_append.1 named with current | staged
  · exact inside.1 r (List.mem_append_left _ current)
  · exact valid r (by simpa using staged)

theorem PaneMove.placed {p : PaneNo} {q : Pane} (move : PaneMove s p q) (ok : PanePlaced s (s.pane p)) :
    PanePlaced s q := by
  have ⟨inside, setup⟩ := ok
  have running (state : (s.pane p).state ≠ .free) : s.inRun = false → q.state = .free := fun run =>
    absurd (setup run) state
  cases move
  case commit | unhold | count | holdCommit => exact ⟨fun state => ⟨(inside state).1, nofun⟩, setup⟩
  case tear => exact ⟨inside, setup⟩
  case stageHeld tag rect held =>
    exact ⟨fun state => inFrame_stage (inside state) rect none
      (fun r named => (inside state).2 tag r (by rw [held, named])) nofun, setup⟩
  case holdStage tag rect stageable =>
    refine ⟨fun state => ⟨(inside state).1, fun other r held => stageable.valid r ?_⟩, setup⟩
    cases held; rfl
  case stage rect stageable =>
    exact ⟨fun state => inFrame_stage (inside state) rect _ stageable.valid (inside state).2, setup⟩
  case free => exact ⟨fun state => absurd rfl state, fun _ => rfl⟩
  case apply owned _ =>
    have used : (s.pane p).state ≠ .free := by rcases owned with state | state <;> simp [state]
    refine ⟨fun _ => ⟨fun r named => ?_, (inside used).2⟩, running used⟩
    exact (inside used).1 r (mem_rects_of_target (by simpa [committedPane, Pane.rects] using named))
  case claim h rect m run active free valid front =>
    refine ⟨fun _ => ⟨fun r named => ?_, nofun⟩, by simp [run]⟩
    obtain rfl : r = rect := by simpa [claimedPane, Pane.rects] using named
    exact valid
  case adopt h active orphaned =>
    have used : (s.pane p).state ≠ .free := by simp [orphaned]
    exact ⟨fun _ => inFrame_stage (inside used) none none nofun nofun, running used⟩

theorem rightsCheck_target {h : HostNo} {sel : Byte} {p : PaneNo} {r : Rect} (passes : rightsCheck s h sel = .ok (p, r)) :
    (s.pane p).target = some r := by
  unfold rightsCheck at passes
  split at passes
  · cases passes
  · dsimp only at passes
    (repeat' split at passes) <;> cases passes
    assumption

/-- What passes the checks of a service start lies in the pane's target rectangle (Table 5-4). -/
theorem serviceCheck_target {h : HostNo} {op : CellOp} {p : PaneNo} {area : Rect}
    (passes : serviceCheck s h op = .ok (p, area)) :
    ∃ t, (s.pane p).target = some t ∧ op.inTarget t = true ∧ area = op.area t := by
  unfold serviceCheck at passes
  split at passes
  · cases passes
  · next q t rights =>
    split at passes
    · next fits =>
      cases passes
      exact ⟨t, rightsCheck_target rights, fits, rfl⟩
    · cases passes

/-- An operation that starts lies in its pane's target rectangle, and so in the frame (R75). -/
theorem inFrame_begun {c : Settings} {op : CellOp} {p : PaneNo} {t : Rect} (named : op.pane.toNat = p.val)
    (sized : op.sized) (fits : op.inTarget t = true) (valid : rectValidIn t c.frameWidth c.frameHeight = true) :
    Service.inFrame c ⟨op, p, op.area t, (op.area t).y, (op.area t).x, .made, 0, none, []⟩ := by
  obtain ⟨tag, pane, body⟩ := op
  simp only [rectValidIn, Bool.and_eq_true, decide_eq_true_eq] at valid
  obtain ⟨⟨⟨wide, high⟩, right⟩, bottom⟩ := valid
  cases body with
  | write px py cells =>
    have short : cells.length ≤ 64 := sized.1 px py cells rfl
    simp only [CellOp.inTarget, Bool.and_eq_true, decide_eq_true_eq] at fits
    refine ⟨by simpa [CellOp.onPane] using named, ?_⟩
    simp only [CellOp.area, CellBody.write.injEq]
    exact ⟨by omega, by omega, le_refl _, by omega, by omega,
      fun _ _ _ ⟨_, _, same⟩ => ⟨trivial, by rw [same], short, le_refl _⟩⟩
  | fill f c =>
    have ⟨w, hh⟩ : f.w ≠ 0 ∧ f.h ≠ 0 := sized.2 f c rfl
    simp only [CellOp.inTarget, Bool.and_eq_true, decide_eq_true_eq] at fits
    refine ⟨by simpa [CellOp.onPane] using named, ?_⟩
    simp only [CellOp.area]
    exact ⟨by omega, by omega, le_refl _, by omega, by omega, nofun⟩
  | read px py n bank =>
    simp only [CellOp.inTarget, Bool.and_eq_true, decide_eq_true_eq] at fits
    refine ⟨by simpa [CellOp.onPane] using named, ?_⟩
    simp only [CellOp.area]
    exact ⟨by omega, by omega, le_refl _, by omega, by omega, nofun⟩

theorem inFrame_next {c : Settings} {v : Service} (ok : v.inFrame c) (n line col : Nat)
    (next : v.following = some (line, col)) :
    Service.inFrame c { v with written := n, line := line, col := col, access := .made } := by
  obtain ⟨named, right, bottom, from_, low, to_, written⟩ := ok
  have length : v.accessLen ≤ v.area.x + v.area.w - v.col := Nat.min_le_right _ _
  unfold Service.following at next
  split at next
  · next more =>
    cases next
    refine ⟨named, right, bottom, by dsimp only; omega, low, by dsimp only; omega, fun px py cells body => ?_⟩
    obtain ⟨start, whole, short, -⟩ := written px py cells body
    have : v.accessLen = min 64 (v.area.x + v.area.w - v.col) := rfl
    omega
  · split at next
    · next down =>
      cases next
      exact ⟨named, right, bottom, le_refl _, down, Nat.le_add_right _ _, fun px py cells body =>
        ⟨rfl, (written px py cells body).2⟩⟩
    · cases next

theorem LaneMove.placed {h : HostNo} {l : Lane} (move : LaneMove s h l) (panes : ∀ p, PanePlaced s (s.pane p))
    (ok : LanePlaced s (s.lane h)) : LanePlaced s l := by
  have ⟨service, queued, setup⟩ := ok
  have running {v : Service} (held : (s.lane h).service = some v) : s.inRun = false → l.service = none := fun run => by
    rw [setup run] at held; cases held
  cases move
  case join op sized =>
    refine ⟨service, fun other on => ?_, setup⟩
    rcases List.mem_append.1 on with before | joins
    · exact queued other before
    · obtain rfl := List.mem_singleton.1 joins
      exact sized
  case begin op rest p area run idle head passes =>
    obtain ⟨t, target, fits, rfl⟩ := serviceCheck_target passes
    obtain ⟨named, grants⟩ := serviceCheck_grants h op p _ passes
    have used : (s.pane p).state ≠ .free := by
      rcases grants with ⟨-, state | state⟩ | ⟨-, state⟩ <;> simp [state]
    refine ⟨fun v held => ?_, fun other on => queued other (by rw [head]; exact List.mem_cons_of_mem _ on), by simp [run]⟩
    cases held
    exact inFrame_begun named (queued op (by rw [head]; exact List.mem_cons_self))
      fits (((panes p).inside used).1 t (mem_rects_of_target target))
  case refuse op rest head =>
    exact ⟨nofun, fun other on => queued other (by rw [head]; exact List.mem_cons_of_mem _ on), fun _ => rfl⟩
  case finish => exact ⟨nofun, queued, fun _ => rfl⟩
  case test v a held idle =>
    refine ⟨fun u same => ?_, queued, running held⟩
    cases same
    exact service v held
  case advance v n line col held going next =>
    refine ⟨fun u same => ?_, queued, running held⟩
    cases same
    exact inFrame_next (service v held) n line col next
  case delay v rs held =>
    refine ⟨fun u same => ?_, queued, running held⟩
    cases same
    exact service v held

theorem ScanMove.placed {x : Scan} (move : ScanMove s x) (frame : s.conf.settings.frameOk) (ok : ScanPlaced s s.scan) :
    ScanPlaced s x := by
  have ⟨cursor, latch, setup⟩ := ok
  have segments : 0 < segmentCount s.conf.settings.frameWidth := by
    have := frame.1
    simp only [segmentCount, Config.segmentCells]
    omega
  have skipped (frameNo : Half) (k : Nat) :
      (cursorAfter s.conf.settings.frameHeight frameNo k).2 < s.conf.settings.frameHeight := by
    have := frame.2.2.1
    unfold cursorAfter
    split
    · assumption
    · dsimp only; omega
  have running {l : Latch} {P : Prop} (inFlight : s.scan.latch = some l) (run : s.inRun = false) : P := by
    rw [(setup run).1] at inFlight; cases inFlight
  cases move
  case tear l held =>
    refine ⟨cursor, fun m same => ?_, running held⟩
    cases same
    exact latch l held
  case restart l held =>
    refine ⟨cursor, fun m same => ?_, running held⟩
    cases same
    exact ⟨(latch l held).1, segments⟩
  case gather l cells held more =>
    refine ⟨cursor, fun m same => ?_, running held⟩
    cases same
    exact ⟨(latch l held).1, more⟩
  case complete l entry held => exact ⟨skipped _ _, nofun, running held⟩
  case skip frameNo k run => exact ⟨skipped _ _, latch, by simp [run]⟩
  case start run =>
    refine ⟨cursor, fun m same => ?_, by simp [run]⟩
    cases same
    exact ⟨cursor, segments⟩

/-- The next access of an operation in the frame names places of the store (R2, R3). -/
theorem inside_next {c : Settings} {v : Service} (frame : c.frameOk) (ok : v.inFrame c) :
    v.line < 480 ∧ v.col + v.accessLen ≤ 800 ∧ v.col + v.accessCells.length ≤ 800 := by
  obtain ⟨-, right, bottom, from_, low, to_, written⟩ := ok
  obtain ⟨-, width, -, height⟩ := frame
  have length : v.accessLen ≤ v.area.x + v.area.w - v.col := Nat.min_le_right _ _
  refine ⟨by omega, by omega, ?_⟩
  unfold Service.accessCells
  split
  · next px py cells body =>
    obtain ⟨start, whole, -⟩ := written px py cells body
    omega
  · rw [List.length_replicate]; omega
  · rw [List.length_nil]; omega

theorem inside_segment (frame : s.conf.settings.frameOk) (l : Latch) (line : l.line < s.conf.settings.frameHeight)
    (segment : l.segment < segmentCount s.conf.settings.frameWidth) :
    (StoreAccess.segment true l.line (Config.segmentCells * l.segment) (composeSegment s l.line l.segment)).inside := by
  obtain ⟨-, width, -, height⟩ := frame
  refine ⟨by omega, ?_⟩
  simp only [segmentCount, Config.segmentCells, composeSegment_length] at segment ⊢
  omega

theorem inside_abandonAccess {a : StoreAccess} (inside : a.inside) : (abandonAccess a).inside := by
  cases a <;> exact inside

theorem inside_detachAccess (h : HostNo) {a : StoreAccess} (inside : a.inside) : (detachAccess h a).inside := by
  cases a <;> exact inside

/-- Stopped operations leave what lies in the frame in place. -/
theorem LanePlaced.stopped {l : Lane} (ok : LanePlaced s l) (test : CellOp → Bool) (status : Status) :
    LanePlaced s ⟨l.service.bind (stoppedService test status), l.queued.filter fun op => !test op⟩ := by
  refine ⟨fun v held => ?_, fun op on => ok.queued op (List.mem_filter.1 on).1, fun run => by simp [ok.setup run]⟩
  obtain ⟨u, before, stopped⟩ := Option.bind_eq_some_iff.1 held
  unfold stoppedService at stopped
  (repeat' split at stopped) <;> cases stopped
  · exact ok.service u before
  · exact ok.service v before

theorem Placed.move (placed : Placed s) (move : Move s t) : Placed t := by
  have granted (h : HostNo) (v : Service) (service : (s.lane h).service = some v) : Placed (setAccess h .inProgress s) := by
    refine placed.setLane h _ ⟨fun u held => ?_, (placed.lane h).queued, fun run => ?_⟩
    · rw [service] at held
      cases held
      exact (placed.lane h).service v service
    · rw [(placed.lane h).setup run] at service; cases service
  cases move
  case quiet same => exact placed.quiet same
  case pane p q move => exact placed.setPane p q (move.placed (placed.pane p))
  case lane h l move => exact placed.setLane h l (move.placed placed.pane (placed.lane h))
  case scan x move => exact placed.setScan x (move.placed placed.frame placed.scan)
  case grantSegment l latch =>
    refine placed.of_parts rfl rfl placed.pane placed.lane placed.scan fun a held => ?_
    cases held
    obtain ⟨line, segment⟩ := placed.scan.latch l latch
    exact inside_segment placed.frame l line segment
  case grantRead h v back service idle =>
    have ⟨line, columns, _⟩ := inside_next placed.frame ((placed.lane h).service v service)
    refine (granted h v service).of_parts rfl rfl (granted h v service).pane (granted h v service).lane
      (granted h v service).scan fun a held => ?_
    cases held
    exact ⟨line, by simpa [CellStore.readRun] using columns⟩
  case grantWrite h v restart service idle =>
    have ⟨line, _, columns⟩ := inside_next placed.frame ((placed.lane h).service v service)
    refine (granted h v service).of_parts rfl rfl (granted h v service).pane (granted h v service).lane
      (granted h v service).scan fun a held => ?_
    cases held
    exact ⟨line, columns⟩
  case free => exact placed.of_parts rfl rfl placed.pane placed.lane placed.scan nofun
  case abandon =>
    refine placed.of_parts rfl rfl placed.pane placed.lane
      ⟨placed.scan.cursor, nofun, fun run => ⟨rfl, (placed.scan.setup run).2⟩⟩ fun a held => ?_
    obtain ⟨b, before, rfl⟩ := Option.map_eq_some_iff.1 held
    exact inside_abandonAccess (placed.access b before)
  case stop h test parked status =>
    exact (placed.setLane h _ ((placed.lane h).stopped test status)).of_same rfl rfl (fun _ => rfl) (fun _ => rfl) rfl rfl rfl
  case drop h =>
    have dropped := placed.setLane h ⟨none, []⟩ ⟨nofun, nofun, fun _ => rfl⟩
    refine dropped.of_parts rfl rfl dropped.pane dropped.lane dropped.scan fun a held => ?_
    obtain ⟨b, before, rfl⟩ := Option.map_eq_some_iff.1 held
    exact inside_detachAccess h (placed.access b before)

end
end Sys2Proof.Machine
end

section
/-! Departures, guests, releases, settings and resets keep everything placed, and no step stops (R2): settles O59. -/
namespace Sys2Proof.Machine

section
variable {s t : State}

theorem Placed.moves (placed : Placed s) (run : Moves s t) : Placed t := by
  induction run with
  | refl => exact placed
  | tail _ last ih => exact ih.move last

/-! ## Panes whose rights end -/

theorem inFrame_unstaged {c : Settings} {q : Pane} (inside : q.inFrame c) :
    Pane.inFrame c { q with staged := none, held := none } := inFrame_stage inside none none nofun nofun

theorem PanePlaced.departed {q : Pane} (ok : PanePlaced s q) (h : HostNo) (kind : Departure) :
    PanePlaced s (departedPane h kind q) := by
  rcases departedPane_cases h kind q with ⟨same, -⟩ | ⟨freed, -⟩ | ⟨retiring | orphaned, -, live⟩
  · rwa [same]
  · rw [freed]; exact ⟨fun state => absurd rfl state, fun _ => rfl⟩
  · have used : q.state ≠ .free := by simp [live]
    rw [retiring]; exact ⟨fun _ => inFrame_unstaged (ok.inside used), fun setup => absurd (ok.setup setup) used⟩
  · have used : q.state ≠ .free := by simp [live]
    rw [orphaned]; exact ⟨fun _ => inFrame_unstaged (ok.inside used), fun setup => absurd (ok.setup setup) used⟩

theorem PanePlaced.released {q : Pane} (ok : PanePlaced s q) (state : q.state = .pending ∨ q.state = .live) :
    PanePlaced s (releasedPane q) := by
  have used : q.state ≠ .free := by rcases state with state | state <;> simp [state]
  unfold releasedPane
  split
  · exact ⟨fun state => absurd rfl state, fun _ => rfl⟩
  · exact ⟨fun _ => inFrame_unstaged (ok.inside used), fun setup => absurd (ok.setup setup) used⟩

theorem endWork_placed (panes : List PaneNo) (status : Status) (h : HostNo) (placed : Placed s) :
    Placed (endWork panes status h s) := placed.moves (endWork_moves panes status h s)

theorem departGuest_placed (h : HostNo) (kind : Departure) (g : HostNo) (panes : List PaneNo) (placed : Placed s) :
    Placed (departGuest h kind g panes s) := placed.moves (.head (.stop g _ _ _) (departGuest_after_stop h kind g panes s))

theorem Placed.departPanes (placed : Placed s) (h : HostNo) (kind : Departure) : Placed (departPanes h kind s) := by
  refine forEach_induct _ _ (fun p u stands => ?_) _ _ (forEach_induct _ _ (fun p u stands => ?_) _ _
    (forEach_induct _ _ (fun g u stands => departGuest_placed h kind g _ stands) _ _
      (forEach_induct _ _ (fun p u stands => ?_) _ _ placed)))
  · rw [removeGuest_eq]; exact stands.setPane p _ ⟨(stands.pane p).inside, (stands.pane p).setup⟩
  · exact stands.quiet (postTo_quiet _ _ _)
  · rw [departPane_eq]; exact stands.setPane p _ ((stands.pane p).departed h kind)

theorem Placed.changeGuest (placed : Placed s) (h : HostNo) (p : PaneNo) (named : Option HostNo) :
    Placed (changeGuest h p named s) := by
  unfold Machine.changeGuest
  dsimp only
  have ok : PanePlaced s { s.pane p with guest := named } := ⟨(placed.pane p).inside, (placed.pane p).setup⟩
  refine Placed.quiet (forEach_induct Placed _ (fun g u stands => ?_) _ _ (placed.setPane p _ ok)) (postTo_quiet _ _ _)
  exact (endWork_placed [p] .revoked g stands).quiet (by constructor <;> simp [revokeGuest])

theorem Placed.releasePane (placed : Placed s) (h : HostNo) (tag : Byte) (p : PaneNo)
    (state : (s.pane p).state = .pending ∨ (s.pane p).state = .live) :
    ∃ t, Placed t ∧ releasePane h tag p s = settle t := by
  have answered := (placed.setPane p _ ((placed.pane p).released state)).quiet
    (answerAll_quiet h ((s.pane p).held.toList.map cancelledHeld) _)
  have ended := forEach_induct Placed _ (fun g u stands => endWork_placed [p] .cancelled g stands) (s.pane p).guest.toList _
    (endWork_placed [p] .cancelled h answered)
  exact ⟨_, (ended.quiet (postTo_quiet _ _ _)).quiet (reply_quiet _ _ _ _ _ _), rfl⟩

/-! ## Settings and resets (R154, R159) -/

/-- A field's value in its range keeps the frame one Table 11-3 allows. -/
theorem frameOk_setField {c : Settings} (ok : c.frameOk) (f : Fin 19) (value : Half) (cell : Option RawCell)
    (v : FieldValue) (offered : offeredValue f value cell = some v) : (setField c f v).frameOk := by
  unfold offeredValue at offered
  split at offered <;> split at offered <;> cases offered
  · exact ok
  · next range =>
    have ⟨wide, wider, high, higher⟩ := ok
    simp only [Bool.and_eq_true, fieldInRange, fieldRange, decide_eq_true_eq] at range
    obtain ⟨-, ⟨low, top⟩, -⟩ := range
    simp only [setField, setNumber]
    split <;> rename_i number
    case h_1 => simp only [number, decide_eq_true_eq] at low top; exact ⟨low, top, high, higher⟩
    case h_2 => simp only [number, decide_eq_true_eq] at low top; exact ⟨wide, wider, low, top⟩
    case h_12 => split <;> exact ok
    all_goals exact ok

theorem placed_partReset (cause : Cause) (s : State) : Placed (partReset cause s) := by
  have frame : Settings.reset.frameOk := by unfold Settings.frameOk; decide
  have height : 0 < Settings.reset.frameHeight := by decide
  refine ⟨frame, fun p => ?_, fun h => ?_, ⟨height, nofun, fun _ => ⟨rfl, rfl⟩⟩, nofun⟩
  · rw [pane_partReset]; exact ⟨fun state => absurd rfl state, fun _ => rfl⟩
  · rw [lane_partReset]; exact ⟨nofun, nofun, fun _ => rfl⟩

theorem placed_keptByAll : KeptByAll Placed where
  move placed move := placed.move move
  reset cause s _ := placed_partReset cause s
  attach h s placed := placed.of_same (by simp) (by simp [State.inRun]) (by simp) (by simp) (by simp) (by simp) (by simp)
  silent h kind after s u placed left := by
    have gone := (placed.of_same (t := leaveActive h after s) rfl rfl (fun _ => rfl) (fun _ => rfl) rfl rfl rfl).quiet left
    have cleared := gone.quiet (t := clearEvents h (portDeparture h (kind = .lapse) u)) (by constructor <;> simp)
    have dropped := (cleared.departPanes h kind).move (.drop h)
    exact (dropped.moves (takeIdleStages_moves _)).quiet (by constructor <;> simp [silentlyLeft])
  detach h mode s placed := by
    have gone := placed.of_same (t := leaveActive h .absent s) rfl rfl (fun _ => rfl) (fun _ => rfl) rfl rfl rfl
    exact (gone.departPanes h (.detach mode)).move (.stop h _ _ _)
  guest h p named s placed _ _ _ := placed.changeGuest h p named
  release h tag p s placed _ state := placed.releasePane h tag p state
  config h f value cell v s placed setup offered := by
    have frame := frameOk_setField placed.frame f value cell v offered
    have ⟨latch, cursor⟩ := placed.scan.setup setup
    refine ⟨frame, fun p => ?_, fun g => ?_, ⟨?_, ?_, placed.scan.setup⟩, placed.access⟩
    · exact ⟨fun used => absurd ((placed.pane p).setup setup) used, (placed.pane p).setup⟩
    · refine ⟨fun w held => ?_, (placed.lane g).queued, (placed.lane g).setup⟩
      have idle := (placed.lane g).setup setup
      exact absurd (idle.symm.trans held) nofun
    · have height : 32 ≤ (setField s.conf.settings f v).frameHeight := frame.2.2.1
      exact Nat.lt_of_lt_of_le (by rw [State.scan_setConf, cursor]; decide) height
    · exact fun l held => absurd (latch.symm.trans held) nofun
  run placed _ := ⟨placed.frame, fun p => ⟨(placed.pane p).inside, nofun⟩,
    fun h => ⟨(placed.lane h).service, (placed.lane h).queued, nofun⟩, ⟨placed.scan.cursor, placed.scan.latch, nofun⟩,
    placed.access⟩

end

/-- Settles O59: every step keeps `Placed`, and what is placed stops no command. -/
theorem noStepLeavesTheStore : Obligations.NoStepLeavesTheStore := by
  unfold Obligations.NoStepLeavesTheStore
  intro s geometry
  have placed := (placed_iff s).2 geometry
  suffices answers : ∃ t, step s = .next t by
    obtain ⟨t, run⟩ := answers
    exact ⟨t, run, (placed_iff t).1 (placed_keptByAll.step placed run)⟩
  unfold step
  split
  · next c rest _ =>
    rcases everyCommandCompletes c (s.setPending rest) with ⟨t, run, -⟩ | ⟨-, outside, -⟩
    · exact ⟨t, run⟩
    · have inside : accessInStore (s.setPending rest) = true := (accessInStore_iff _).2 placed.access
      rw [inside] at outside
      cases outside
  · exact ⟨_, rfl⟩

end Sys2Proof.Machine
end

section
/-! What follows at once from an event (R66, R73): grants and service starts, and what they keep. -/
namespace Sys2Proof.Machine

/-! ## Grants -/

/-- The record of an operation in service, its access state aside. -/
def Service.bare (v : Service) : Service := { v with access := .made }

/-- A latch, its torn flag aside. -/
def Latch.bare (l : Latch) : Latch := { l with torn := false }

theorem Service.bare_eq_iff (v w : Service) : w.bare = v.bare ↔ ∃ a, w = { v with access := a } := by
  constructor
  · intro same
    refine ⟨w.access, ?_⟩
    obtain ⟨⟩ := v
    obtain ⟨⟩ := w
    simp_all [Service.bare]
  · rintro ⟨a, rfl⟩
    rfl

theorem Latch.bare_eq_iff (l m : Latch) : m.bare = l.bare ↔ ∃ torn, m = { l with torn := torn } := by
  constructor
  · intro same
    refine ⟨m.torn, ?_⟩
    obtain ⟨⟩ := l
    obtain ⟨⟩ := m
    simp_all [Latch.bare]
  · rintro ⟨torn, rfl⟩
    rfl

/-- What the grant decisions keep of operations in service, the latch in flight and the hostless overflow count. -/
structure Granted (s t : State) : Prop where
  service : ∀ g, (t.lane g).service.map Service.bare = (s.lane g).service.map Service.bare
  latch : t.scan.latch.map Latch.bare = s.scan.latch.map Latch.bare
  hostless : t.faults.hostless = s.faults.hostless

theorem Granted.refl (s : State) : Granted s s := ⟨fun _ => rfl, rfl, rfl⟩

theorem Granted.trans {s t u : State} (first : Granted s t) (second : Granted t u) : Granted s u :=
  ⟨fun g => (second.service g).trans (first.service g), second.latch.trans first.latch,
    second.hostless.trans first.hostless⟩

theorem setAccess_bare (h g : HostNo) (a : AccessState) (s : State) :
    ((setAccess h a s).lane g).service.map Service.bare = (s.lane g).service.map Service.bare := by
  by_cases same : h = g
  · subst same
    cases service : (s.lane h).service <;> simp [setAccess, service, Service.bare]
  · simp [setAccess, same]

/-- A report that names a host leaves the hostless overflow count. -/
theorem reportFault_hostless (r : FaultRecord) (s : State) (named : r.host.isSome) :
    (reportFault r s).faults.hostless = s.faults.hostless := by
  rw [reportFault_eq]
  rcases takeReport_cases (noteHosts r) r s with ⟨i, q, -, -, merged⟩ | ⟨-, i, -, -, recorded⟩ | ⟨-, counted⟩
  · rw [merged]; rfl
  · rw [recorded]; simp
  · rw [counted, countOverflow_eq]
    cases host : r.host with
    | none => simp [host] at named
    | some h => rfl

theorem grantRead_granted (h : HostNo) (v : Service) (back : Bool) (s : State) : Granted s (grantRead h v back s) :=
  ⟨fun g => setAccess_bare h g .inProgress s, rfl, rfl⟩

theorem grantWrite_granted (h : HostNo) (v : Service) (restart : Option (Half × Nat)) (s : State) :
    Granted s (grantWrite h v restart s) := ⟨fun g => setAccess_bare h g .inProgress s, rfl, rfl⟩

theorem reportFault_granted (r : FaultRecord) (s : State) (named : r.host.isSome) : Granted s (reportFault r s) :=
  ⟨fun g => by simp, by simp, reportFault_hostless r s named⟩

theorem passGrant_granted (kind : FaultKind) (h : HostNo) (v : Service) (l : Latch) (s : State)
    (latch : s.scan.latch = some l) : Granted s (passGrant kind h v l s) := by
  have torn : Granted s ((s.setScan { s.scan with latch := some { l with torn := true } }).setPane v.pane
      { s.pane v.pane with tears := satSucc (s.pane v.pane).tears }) :=
    ⟨fun _ => rfl, by simp [latch, Latch.bare], rfl⟩
  exact (torn.trans (reportFault_granted _ _ rfl)).trans (grantWrite_granted h v none _)

theorem parkOrPass_granted (h : HostNo) (v : Service) (l : Latch) (s : State) (latch : s.scan.latch = some l) :
    Granted s (parkOrPass h v l s) := by
  unfold parkOrPass
  split
  · exact ⟨fun g => setAccess_bare h g .parked _, rfl, rfl⟩
  · exact passGrant_granted _ h v l s latch

theorem resolveConflict_granted (h : HostNo) (v : Service) (l : Latch) (s : State) (latch : s.scan.latch = some l) :
    Granted s (resolveConflict h v l s) := by
  unfold resolveConflict
  split
  · exact passGrant_granted _ h v l s latch
  · exact parkOrPass_granted h v l s latch
  · split
    · exact (reportFault_granted _ s rfl).trans (parkOrPass_granted h v l _ (by simpa using latch))
    · split
      · exact grantWrite_granted h v _ s
      · exact parkOrPass_granted h v l s latch

theorem serveHost_granted (h : HostNo) (s : State) : Granted s (serveHost h s) := by
  unfold serveHost
  split
  · exact .refl s
  · next v _ =>
    split
    · exact grantRead_granted h v _ s
    · split
      · next l conflict => exact resolveConflict_granted h v l s (conflictOf_latch s v l conflict)
      · exact grantWrite_granted h v none s

theorem arbitrate_granted (n : Nat) (s : State) : Granted s (arbitrate n s) := by
  induction n generalizing s with
  | zero => exact .refl s
  | succ n ih =>
    unfold arbitrate
    split
    · exact .refl s
    · split
      · exact .refl s
      · split
        · exact ⟨fun _ => rfl, rfl, rfl⟩
        · exact .refl s
      · split
        · next h _ => exact (serveHost_granted h s).trans (ih _)
        · exact .refl s

/-! ## Service starts -/

theorem withdrawOffer_bare (p : PaneNo) (h g : HostNo) (s : State) :
    ((withdrawOffer p h s).lane g).service.map Service.bare = (s.lane g).service.map Service.bare := by
  unfold withdrawOffer
  split
  · split
    · exact setAccess_bare h g .made s
    · rfl
  · rfl

theorem recordCommit_bare (h : HostNo) (p : PaneNo) (g : HostNo) (s : State) :
    ((recordCommit h p s).lane g).service.map Service.bare = (s.lane g).service.map Service.bare := by
  unfold recordCommit
  dsimp only
  split
  · exact forEach_induct (fun t => (t.lane g).service.map Service.bare = (s.lane g).service.map Service.bare) _
      (fun k t same => (withdrawOffer_bare p k g t).trans same) _ _ rfl
  · rfl

theorem testAccess_bare (h g : HostNo) (s : State) :
    ((testAccess h s).lane g).service.map Service.bare = (s.lane g).service.map Service.bare := by
  unfold testAccess
  split
  · rfl
  · split
    · exact setAccess_bare h g _ s
    · split
      · exact setAccess_bare h g _ s
      · rw [(noteBudget_frame _ _ _).2.2.2.2.2.2.2.2.2.2.1]; exact setAccess_bare h g _ s

end Sys2Proof.Machine
end

section
/-! Service starts (R73, R74): what a host's turn keeps, and what the whole run keeps. -/
namespace Sys2Proof.Machine

/-! ## Taking a commit (R37, R39) -/

theorem recordCommit_pane (h : HostNo) (p q : PaneNo) (s : State) :
    (recordCommit h p s).pane q =
      if p = q then { s.pane q with commit := some (s.host h).tickets, held := none } else s.pane q := by
  have recorded : (recordCommit h p s).pane q =
      (s.setPane p { s.pane p with commit := some (s.host h).tickets, held := none }).pane q := by
    unfold recordCommit
    dsimp only
    split
    · exact forEach_pane _ _ _ q fun g t => by simp
    · rfl
  rw [recorded, State.pane_setPane]
  split
  · next same => rw [same]
  · rfl

theorem takeCommit_pane (h : HostNo) (p q : PaneNo) (tag : Byte) (s : State) :
    (takeCommit h p tag s).pane q =
      if p = q then { s.pane q with commit := some (s.host h).tickets, held := none } else s.pane q := by
  rw [← recordCommit_pane]
  simp [takeCommit]

theorem reply_responses (h g : HostNo) (k : Kind) (tag : Byte) (st : Status) (pl : Payload) (s : State) :
    ((reply h k tag st pl s).port g).responses =
      if h = g then (s.port g).responses ++ [responseTo k tag st pl] else (s.port g).responses := by
  rw [reply, answer_port]
  split <;> rfl

theorem takeCommit_responses (h g : HostNo) (p : PaneNo) (tag : Byte) (s : State) :
    ((takeCommit h p tag s).port g).responses =
      if h = g then (s.port g).responses ++ [responseTo .paneCommit tag .accepted (.ticket (s.host h).tickets)]
      else (s.port g).responses := by
  rw [takeCommit, reply_responses]
  simp

theorem takeCommit_bare (h : HostNo) (p : PaneNo) (tag : Byte) (g : HostNo) (s : State) :
    ((takeCommit h p tag s).lane g).service.map Service.bare = (s.lane g).service.map Service.bare := by
  rw [← recordCommit_bare h p g s]
  simp [takeCommit]

/-- The end of an operation is counted only against a PANE_COMMIT its host holds on the pane (R37). -/
theorem countForCommit_cases (h : HostNo) (p : PaneNo) (s : State) :
    (countForCommit h p s = s ∧ ((s.pane p).owner ≠ some h ∨ ∀ tag n, (s.pane p).held ≠ some (.commit tag n))) ∨
      ∃ tag n, (s.pane p).held = some (.commit tag n) ∧ (s.pane p).owner = some h ∧
        ((n ≤ 1 ∧ countForCommit h p s = takeCommit h p tag s) ∨
          (2 ≤ n ∧ countForCommit h p s = s.setPane p { s.pane p with held := some (.commit tag (n - 1)) })) := by
  unfold countForCommit
  split
  · next tag n held =>
    split
    · next owner =>
      split
      · next few => exact .inr ⟨tag, n, held, owner, .inl ⟨few, rfl⟩⟩
      · next many => exact .inr ⟨tag, n, held, owner, .inr ⟨by omega, rfl⟩⟩
    · next other => exact .inl ⟨rfl, .inl other⟩
  · next none => exact .inl ⟨rfl, .inr fun tag n held => none tag n held⟩

/-! ## One host's turn -/

/-- What starting host `h`'s head operations keeps: panes but for requests `h` holds, responses already queued, and the lanes
of others but for access states. -/
structure StartedBy (h : HostNo) (s t : State) : Prop where
  staged : ∀ q, (t.pane q).staged = (s.pane q).staged
  settled : ∀ q, ((s.pane q).owner ≠ some h ∨ ∀ tag n, (s.pane q).held ≠ some (.commit tag n)) →
    (t.pane q).held = (s.pane q).held ∧ (t.pane q).commit = (s.pane q).commit
  pending : ∀ q, (s.pane q).commit ≠ none → (t.pane q).commit ≠ none
  record : ∀ q, (t.pane q).state = (s.pane q).state ∧ (t.pane q).owner = (s.pane q).owner ∧
    (t.pane q).guest = (s.pane q).guest ∧ (t.pane q).current = (s.pane q).current ∧ (t.pane q).modes = (s.pane q).modes
  answers : ∀ g, (s.port g).responses <+: (t.port g).responses
  queued : ∀ g, g ≠ h → (t.lane g).queued = (s.lane g).queued
  service : ∀ g, g ≠ h → (t.lane g).service.map Service.bare = (s.lane g).service.map Service.bare

theorem StartedBy.refl (h : HostNo) (s : State) : StartedBy h s s :=
  ⟨fun _ => rfl, fun _ _ => ⟨rfl, rfl⟩, fun _ => id, fun _ => ⟨rfl, rfl, rfl, rfl, rfl⟩, fun _ => List.prefix_rfl,
    fun _ _ => rfl, fun _ _ => rfl⟩

theorem StartedBy.trans {h : HostNo} {s t u : State} (first : StartedBy h s t) (second : StartedBy h t u) :
    StartedBy h s u where
  staged q := (second.staged q).trans (first.staged q)
  settled q kept := by
    obtain ⟨held, commit⟩ := first.settled q kept
    obtain ⟨-, owner, -⟩ := first.record q
    obtain ⟨heldAfter, commitAfter⟩ := second.settled q (by rwa [owner, held])
    exact ⟨heldAfter.trans held, commitAfter.trans commit⟩
  pending q commit := second.pending q (first.pending q commit)
  record q := by
    obtain ⟨state, owner, guest, current, modes⟩ := first.record q
    obtain ⟨state', owner', guest', current', modes'⟩ := second.record q
    exact ⟨state'.trans state, owner'.trans owner, guest'.trans guest, current'.trans current, modes'.trans modes⟩
  answers g := (first.answers g).trans (second.answers g)
  queued g other := (second.queued g other).trans (first.queued g other)
  service g other := (second.service g other).trans (first.service g other)

theorem countForCommit_startedBy (h : HostNo) (p : PaneNo) (s : State) : StartedBy h s (countForCommit h p s) := by
  rcases countForCommit_cases h p s with ⟨same, -⟩ | ⟨tag, n, held, owner, ⟨-, taken⟩ | ⟨-, counted⟩⟩
  · rw [same]; exact .refl h s
  · rw [taken]
    refine ⟨by simp, fun q kept => ?_, fun q commit => ?_, by simp, fun g => ?_, by simp, fun g _ => takeCommit_bare h p tag g s⟩
    · by_cases same : p = q
      · subst same; simp [held, owner] at kept
      · simp [takeCommit_pane, same]
    · rw [takeCommit_pane]; split
      · simp
      · exact commit
    · rw [takeCommit_responses]; split
      · exact List.prefix_append _ _
      · exact List.prefix_rfl
  · rw [counted]
    refine ⟨by simp, fun q kept => ?_, fun q commit => ?_, by simp, fun g => List.prefix_rfl, fun _ _ => rfl, fun _ _ => rfl⟩
    · by_cases same : p = q
      · subst same; simp [held, owner] at kept
      · simp [same]
    · by_cases same : p = q
      · subst same; simpa using commit
      · simpa [same] using commit

/-- A pane that holds no PANE_STAGE holds none after an end is counted, so none is taken. -/
theorem takeStageIfIdle_unheld (p : PaneNo) (s : State) (none : (s.pane p).stageHeld = false) :
    takeStageIfIdle p s = s := by
  unfold takeStageIfIdle
  split
  · next held _ => simp [Pane.stageHeld, held] at none
  · rfl

theorem countForCommit_stageHeld (h : HostNo) (p : PaneNo) (s : State) (none : (s.pane p).stageHeld = false) :
    ((countForCommit h p s).pane p).stageHeld = false := by
  rcases countForCommit_cases h p s with ⟨same, -⟩ | ⟨tag, n, held, owner, ⟨-, taken⟩ | ⟨-, counted⟩⟩
  · rwa [same]
  · rw [taken, takeCommit_pane, if_pos rfl]; rfl
  · rw [counted, State.pane_setPane_same]; rfl

/-- The report of an end on a pane that holds no PANE_STAGE counts it against a held PANE_COMMIT alone (R84). -/
theorem reportEnd_unheld (h : HostNo) (sel : Byte) (s : State)
    (none : ∀ p, paneOf sel = some p → (s.pane p).stageHeld = false) :
    reportEnd h sel s = s ∨ ∃ p, paneOf sel = some p ∧ reportEnd h sel s = countForCommit h p s := by
  unfold reportEnd
  split
  · next p named => exact .inr ⟨p, named, takeStageIfIdle_unheld _ _ (countForCommit_stageHeld h p s (none p named))⟩
  · exact .inl rfl

theorem headWaits_stageHeld (s : State) (op : CellOp) (p : PaneNo) (named : paneOf op.pane = some p)
    (starts : headWaits s op = false) : (s.pane p).stageHeld = false := by
  simp only [headWaits, named, Bool.or_eq_false_iff] at starts
  exact starts.1

theorem startOp_startedBy (h : HostNo) (op : CellOp) (rest : List CellOp) (s : State) (starts : headWaits s op = false) :
    StartedBy h s (startOp h op rest s) := by
  unfold startOp
  split
  · next status _ =>
    have refused : StartedBy h s (answer h (op.answerCount status 0) (s.setLane h ⟨none, rest⟩)) := by
      refine ⟨by simp, by simp, by simp, by simp, fun g => ?_, fun g other => ?_, fun g other => ?_⟩
      · rw [answer_port]; split
        · exact List.prefix_append _ _
        · exact List.prefix_rfl
      · simp [other.symm]
      · simp [other.symm]
    rcases reportEnd_unheld h op.pane (answer h (op.answerCount status 0) (s.setLane h ⟨none, rest⟩))
      (fun p named => by simpa using headWaits_stageHeld s op p named starts) with same | ⟨p, -, counted⟩
    · rw [same]; exact refused
    · rw [counted]; exact refused.trans (countForCommit_startedBy h p _)
  · next p area _ =>
    refine ⟨by simp, by simp, by simp, by simp, fun g => by simp, fun g other => by simp [other.symm], fun g other => ?_⟩
    rw [testAccess_bare]
    simp [other.symm]

theorem startHead_startedBy (h : HostNo) (n : Nat) (s : State) : StartedBy h s (startHead h n s) := by
  induction n generalizing s with
  | zero => exact .refl h s
  | succ n ih =>
    unfold startHead
    split
    · next op rest _ _ =>
      split
      · exact .refl h s
      · next starts => exact (startOp_startedBy h op rest s (by simpa using starts)).trans (ih _)
    · exact .refl h s

/-- A host with an operation in service starts none (R73). -/
theorem startHead_busy (h : HostNo) (n : Nat) (s : State) (busy : (s.lane h).service ≠ none) : startHead h n s = s := by
  cases n with
  | zero => rfl
  | succ n =>
    unfold startHead
    split
    · next idle _ => exact absurd idle busy
    · rfl

end Sys2Proof.Machine
end

section
/-! What follows at once from an event keeps and starts (R66, R73). -/
namespace Sys2Proof.Machine

/-! ## What all service starts and grants keep -/

/-- What follows at once keeps: what is staged, what a pane holds that is no PANE_COMMIT with its pending commit, and the
responses already queued. -/
structure Settles (s t : State) : Prop where
  staged : ∀ q, (t.pane q).staged = (s.pane q).staged
  settled : ∀ q, (∀ tag n, (s.pane q).held ≠ some (.commit tag n)) →
    (t.pane q).held = (s.pane q).held ∧ (t.pane q).commit = (s.pane q).commit
  answers : ∀ g, (s.port g).responses <+: (t.port g).responses

theorem Settles.trans {s t u : State} (first : Settles s t) (second : Settles t u) : Settles s u where
  staged q := (second.staged q).trans (first.staged q)
  settled q kept := by
    obtain ⟨held, commit⟩ := first.settled q kept
    obtain ⟨heldAfter, commitAfter⟩ := second.settled q (by rwa [held])
    exact ⟨heldAfter.trans held, commitAfter.trans commit⟩
  answers g := (first.answers g).trans (second.answers g)

theorem StartedBy.settles {h : HostNo} {s t : State} (started : StartedBy h s t) : Settles s t :=
  ⟨started.staged, fun q kept => started.settled q (.inr kept), started.answers⟩

theorem startServices_settles (s : State) : Settles s (startServices s) :=
  forEach_induct (Settles s) _ (fun h t settles => settles.trans (startHead_startedBy h _ t).settles) _ _
    ⟨fun _ => rfl, fun _ _ => ⟨rfl, rfl⟩, fun _ => List.prefix_rfl⟩

/-- Grants keep what a host's starts keep, whichever host it is. -/
theorem arbitrate_startedBy (h : HostNo) (n : Nat) (s : State) : StartedBy h s (arbitrate n s) :=
  ⟨by simp, by simp, by simp, by simp, fun g => by simp, fun g _ => by simp, fun g _ => (arbitrate_granted n s).service g⟩

theorem settle_settles (s : State) : Settles s (settle s) := by
  unfold settle
  split
  · exact (startServices_settles s).trans (arbitrate_startedBy 0 5 _).settles
  · exact ⟨fun _ => rfl, fun _ _ => ⟨rfl, rfl⟩, fun _ => List.prefix_rfl⟩

/-- An operation in service stays in service, its access state aside. -/
theorem startHead_service (g h : HostNo) (n : Nat) (s : State) (v : Service) (service : (s.lane h).service = some v) :
    ∃ a, ((startHead g n s).lane h).service = some { v with access := a } := by
  by_cases same : h = g
  · subst same
    rw [startHead_busy h n s (by simp [service])]
    exact ⟨v.access, service⟩
  · have kept := (startHead_startedBy g n s).service h same
    rw [service] at kept
    obtain ⟨w, now, bare⟩ := Option.map_eq_some_iff.1 kept
    obtain ⟨a, rfl⟩ := (Service.bare_eq_iff v w).1 bare
    exact ⟨a, now⟩

theorem Granted.service_some {s t : State} (granted : Granted s t) (h : HostNo) (v : Service)
    (service : (s.lane h).service = some v) : ∃ a, (t.lane h).service = some { v with access := a } := by
  have kept := granted.service h
  rw [service] at kept
  obtain ⟨w, now, bare⟩ := Option.map_eq_some_iff.1 kept
  obtain ⟨a, rfl⟩ := (Service.bare_eq_iff v w).1 bare
  exact ⟨a, now⟩

theorem Granted.service_none {s t : State} (granted : Granted s t) (h : HostNo) (service : (s.lane h).service = none) :
    (t.lane h).service = none := by
  have kept := granted.service h
  rw [service] at kept
  simpa using kept

theorem startServices_service (h : HostNo) (s : State) (v : Service) (service : (s.lane h).service = some v) :
    ∃ a, ((startServices s).lane h).service = some { v with access := a } :=
  forEach_induct (fun t => ∃ a, (t.lane h).service = some { v with access := a }) _
    (fun g t ⟨a, held⟩ => startHead_service g h _ t { v with access := a } held) _ _ ⟨v.access, service⟩

theorem settle_service (h : HostNo) (s : State) (v : Service) (service : (s.lane h).service = some v) :
    ∃ a, ((settle s).lane h).service = some { v with access := a } := by
  unfold settle
  split
  · obtain ⟨a, started⟩ := startServices_service h s v service
    exact (arbitrate_granted 5 _).service_some h { v with access := a } started
  · exact ⟨v.access, service⟩

theorem settle_latch (s : State) : (settle s).scan.latch.map Latch.bare = s.scan.latch.map Latch.bare := by
  unfold settle
  split
  · rw [(arbitrate_granted 5 _).latch]; simp
  · rfl

theorem settle_hostless (s : State) : (settle s).faults.hostless = s.faults.hostless := by
  unfold settle
  split
  · rw [(arbitrate_granted 5 _).hostless]; simp
  · rfl

theorem settle_latch_some (s : State) (l : Latch) (latch : s.scan.latch = some l) :
    ∃ torn, (settle s).scan.latch = some { l with torn := torn } := by
  have kept := settle_latch s
  rw [latch] at kept
  obtain ⟨m, now, bare⟩ := Option.map_eq_some_iff.1 kept
  obtain ⟨torn, rfl⟩ := (Latch.bare_eq_iff l m).1 bare
  exact ⟨torn, now⟩

theorem settle_latch_none (s : State) (latch : s.scan.latch = none) : (settle s).scan.latch = none := by
  have kept := settle_latch s
  rw [latch] at kept
  simpa using kept

theorem Scan.eq_but_latch {x y : Scan} (mark : y.mark = x.mark) (emission : y.emission = x.emission)
    (timer : y.timer = x.timer) (cursorFrame : y.cursorFrame = x.cursorFrame) (cursorLine : y.cursorLine = x.cursorLine)
    (frame : y.frame = x.frame) (queue : y.queue = x.queue) (emitter : y.emitter = x.emitter) (link : y.link = x.link)
    (lane : y.lane = x.lane) : y = { x with latch := y.latch } := by
  obtain ⟨⟩ := x
  obtain ⟨⟩ := y
  simp_all

/-- What follows at once keeps what the statements say of it. -/
theorem settle_settledFrom (s : State) : s.settledFrom (settle s) := by
  refine ⟨by simp, by simp, by simp, by simp, by simp, by simp, ?_, settle_latch_some s, settle_latch_none s, by simp,
    settle_hostless s, by simp, by simp, by simp⟩
  exact Scan.eq_but_latch (by simp) (by simp) (by simp) (by simp) (by simp) (by simp) (by simp) (by simp) (by simp) (by simp)

/-! ## A host whose held PANE_COMMIT still waits -/

/-- Panes as a host's starts leave them: an operation that waits or passes its checks does so still. -/
theorem StartedBy.servable {g : HostNo} {s t : State} (started : StartedBy g s t) (h : HostNo) (op : CellOp)
    (servable : s.servable h op) : t.servable h op := by
  obtain ⟨p, named, ways⟩ := servable
  obtain ⟨state, owner, guest, current, modes⟩ := started.record p
  refine ⟨p, named, ?_⟩
  rcases ways with ⟨tag, r, held⟩ | ⟨writes, double, commit⟩ | ⟨placed, rights, r, target, fits⟩
  · exact .inl ⟨tag, r, by rw [(started.settled p (.inr (by simp [held]))).1, held]⟩
  · exact .inr (.inl ⟨writes, by rwa [modes], started.pending p commit⟩)
  · exact .inr (.inr ⟨by rwa [state], by rwa [owner, guest, state], r, by rwa [started.staged, current], fits⟩)

theorem paneOf_eq_some (sel : Byte) (p : PaneNo) (named : sel.toNat = p.val) : paneOf sel = some p := by
  have inside : sel.toNat < 16 := named ▸ p.isLt
  simp only [paneOf, dif_pos inside, Option.some.injEq]
  exact Fin.ext named

/-- A servable operation that does not wait passes the checks of its service start (R73, R74). -/
theorem serviceCheck_of_servable {s : State} {h : HostNo} {op : CellOp} (servable : s.servable h op)
    (starts : headWaits s op = false) : ∃ p area, serviceCheck s h op = .ok (p, area) := by
  obtain ⟨p, named, ways⟩ := servable
  have pane := paneOf_eq_some op.pane p named
  simp only [headWaits, pane, Bool.or_eq_false_iff] at starts
  obtain ⟨unheld, unpending⟩ := starts
  rcases ways with ⟨tag, r, held⟩ | ⟨writes, double, commit⟩ | ⟨placed, rights, r, target, fits⟩
  · simp [Pane.stageHeld, held] at unheld
  · have wrote : op.writes = true := by
      unfold CellOp.kind at writes
      unfold CellOp.writes
      split <;> simp_all
    simp [Pane.writesWait, Pane.isDouble, wrote, double, commit] at unpending
  · have passes : rightsCheck s h op.pane = .ok (p, r) := by
      have used : ¬((s.pane p).state ≠ .pending ∧ (s.pane p).state ≠ .live) := by tauto
      have granted : (s.pane p).owner = some h ∨ ((s.pane p).guest = some h ∧ (s.pane p).state ≠ .pending) :=
        rights.imp_right fun ⟨guest, live⟩ => ⟨guest, by simp [live]⟩
      have found : (s.pane p).target = some r := by simpa [Pane.target] using target
      simp only [rightsCheck, pane, Bool.and_eq_true, decide_eq_true_eq, Bool.or_eq_true, if_neg used, if_pos granted, found]
    exact ⟨p, op.area r, by simp only [serviceCheck, passes, fits, if_true]⟩

/-- An operation that passes the checks of its service start is in service with nothing written (R75). -/
theorem startOp_passes (h : HostNo) (op : CellOp) (rest : List CellOp) (s : State) (p : PaneNo) (area : Rect)
    (passes : serviceCheck s h op = .ok (p, area)) :
    ∃ a, ((startOp h op rest s).lane h).service = some ⟨op, p, area, area.y, area.x, a, 0, none, []⟩ ∧
      ((startOp h op rest s).lane h).queued = rest ∧ ∀ q, (startOp h op rest s).pane q = s.pane q := by
  simp only [startOp, passes]
  have begun := testAccess_bare h h (s.setLane h ⟨some ⟨op, p, area, area.y, area.x, .made, 0, none, []⟩, rest⟩)
  rw [State.lane_setLane_same] at begun
  obtain ⟨w, now, bare⟩ := Option.map_eq_some_iff.1 begun
  obtain ⟨a, rfl⟩ := (Service.bare_eq_iff _ w).1 bare
  exact ⟨a, now, by simp, by simp⟩

/-- A PANE_COMMIT that host `h` holds on pane `p` still waits for `m` operations: the host's next operation is not
refused, and waits at the head of its lane or is in service with nothing written yet. -/
structure CommitWaits (h : HostNo) (p : PaneNo) (tag : Byte) (m : Nat) (commit : Option Half) (queued : List CellOp)
    (s : State) : Prop where
  held : (s.pane p).held = some (.commit tag m)
  commit : (s.pane p).commit = commit
  owner : (s.pane p).owner = some h
  lane : (s.lane h = ⟨none, queued⟩ ∧ ∀ op, queued.head? = some op → s.servable h op) ∨
    ∃ op rest w, queued = op :: rest ∧ s.lane h = ⟨some w, rest⟩ ∧ w.op = op ∧ w.written = 0 ∧ w.stop = none

section
variable {h : HostNo} {p : PaneNo} {tag : Byte} {m : Nat} {commit : Option Half} {queued : List CellOp} {s t : State}

theorem ne_add_one (h : HostNo) : h ≠ h + 1 := by revert h; decide

theorem lane_eq {l : Lane} {a : Option Service} {b : List CellOp} (service : l.service = a) (queued : l.queued = b) :
    l = ⟨a, b⟩ := by
  cases l
  simp_all

theorem CommitWaits.other (waits : CommitWaits h p tag m commit queued s) (g : HostNo) (other : h ≠ g)
    (started : StartedBy g s t) : CommitWaits h p tag m commit queued t := by
  have kept := started.settled p (.inl (by simp [waits.owner, other]))
  refine ⟨kept.1.trans waits.held, kept.2.trans waits.commit, (started.record p).2.1.trans waits.owner, ?_⟩
  have behind := started.queued h other
  have serving := started.service h other
  rcases waits.lane with ⟨lane, servable⟩ | ⟨op, rest, w, head, lane, same, written, stop⟩
  · rw [lane] at behind serving
    exact .inl ⟨lane_eq (by simpa using serving) behind, fun op first => started.servable h op (servable op first)⟩
  · rw [lane] at behind serving
    obtain ⟨w', now, bare⟩ := Option.map_eq_some_iff.1 serving
    obtain ⟨a, rfl⟩ := (Service.bare_eq_iff w w').1 bare
    exact .inr ⟨op, rest, _, head, lane_eq now behind, same, written, stop⟩

/-- The host's own turn: its head operation waits or starts, and then nothing more starts. -/
theorem CommitWaits.own (waits : CommitWaits h p tag m commit queued s) (n : Nat) :
    CommitWaits h p tag m commit queued (startHead h n s) := by
  rcases waits.lane with ⟨lane, servable⟩ | ⟨op, rest, w, head, lane, -⟩
  · cases n with
    | zero => exact waits
    | succ n =>
      cases queued with
      | nil => simpa [startHead, lane] using waits
      | cons op rest =>
        simp only [startHead, lane]
        split
        · exact waits
        · next starts =>
          obtain ⟨q, area, passes⟩ := serviceCheck_of_servable (servable op rfl) (by simpa using starts)
          have ⟨a, started, behind, pane⟩ := startOp_passes h op rest s q area passes
          rw [startHead_busy h n _ (by simp [started])]
          exact ⟨by rw [pane]; exact waits.held, by rw [pane]; exact waits.commit, by rw [pane]; exact waits.owner,
            .inr ⟨op, rest, _, rfl, lane_eq started behind, rfl, rfl, rfl⟩⟩
  · rw [startHead_busy h n s (by simp [lane])]
    exact waits

theorem CommitWaits.startServices (waits : CommitWaits h p tag m commit queued s) :
    CommitWaits h p tag m commit queued (startServices s) := by
  refine forEach_induct (CommitWaits h p tag m commit queued) _ (fun g t still => ?_) _ _ waits
  by_cases same : h = g
  · subst same; exact still.own _
  · exact still.other g same (startHead_startedBy g _ t)

theorem CommitWaits.settle (waits : CommitWaits h p tag m commit queued s) :
    CommitWaits h p tag m commit queued (settle s) := by
  unfold Machine.settle
  split
  · exact waits.startServices.other (h + 1) (ne_add_one h) (arbitrate_startedBy (h + 1) 5 _)
  · exact waits

end
end Sys2Proof.Machine
end

section
/-! The end of an operation takes the request held on its pane (R18, R37, R84). -/
namespace Sys2Proof.Machine

section
variable {h : HostNo} {p : PaneNo} {s : State}

/-! ## Held requests -/

theorem countForCommit_last {tag : Byte} {n : Nat} (held : (s.pane p).held = some (.commit tag n))
    (owner : (s.pane p).owner = some h) (few : n ≤ 1) : countForCommit h p s = takeCommit h p tag s := by
  simp [countForCommit, held, owner, few]

theorem countForCommit_more {tag : Byte} {n : Nat} (held : (s.pane p).held = some (.commit tag n))
    (owner : (s.pane p).owner = some h) (many : 2 ≤ n) :
    countForCommit h p s = s.setPane p { s.pane p with held := some (.commit tag (n - 1)) } := by
  simp [countForCommit, held, owner, Nat.not_le.2 many]

theorem countForCommit_stage {tag : Byte} {rect : Option Rect} (held : (s.pane p).held = some (.stage tag rect)) :
    countForCommit h p s = s := by
  simp [countForCommit, held]

theorem paneAtWork_false (idle : ∀ g v, (s.lane g).service = some v → v.pane ≠ p) (unparked : ∀ e ∈ s.parked, e.pane ≠ p) :
    paneAtWork s p = false := by
  simp only [paneAtWork, Bool.or_eq_false_iff, List.any_eq_false, inServiceOn, Option.any_eq_true, decide_eq_true_eq]
  exact ⟨fun g _ ⟨v, service, on⟩ => idle g v service on, fun e listed on => unparked e listed on⟩

theorem takeStageIfIdle_idle {tag : Byte} {rect : Option Rect} {o : HostNo}
    (held : (s.pane p).held = some (.stage tag rect)) (owner : (s.pane p).owner = some o)
    (idle : paneAtWork s p = false) : takeStageIfIdle p s = takeHeldStage o p tag rect s := by
  simp [takeStageIfIdle, held, owner, idle]

theorem takeHeldStage_overlap (o : HostNo) (tag : Byte) (q : Rect) (overlaps : s.overlapsPanes (some p) q = true) :
    takeHeldStage o p tag (some q) s = reply o .paneStage tag .overlap .empty (s.setPane p { s.pane p with held := none }) := by
  simp [takeHeldStage, overlaps]

theorem takeHeldStage_apart (o : HostNo) (tag : Byte) (rect : Option Rect)
    (apart : ∀ q, rect = some q → s.overlapsPanes (some p) q = false) :
    takeHeldStage o p tag rect s =
      reply o .paneStage tag .ok .empty (s.setPane p { s.pane p with held := none, staged := rect }) := by
  cases rect with
  | none => rfl
  | some q => simp [takeHeldStage, apart q rfl]

/-- Responses already queued stay in front. -/
theorem takeStageIfIdle_answers (p : PaneNo) (g : HostNo) (s : State) :
    (s.port g).responses <+: ((takeStageIfIdle p s).port g).responses := by
  unfold takeStageIfIdle
  split
  · split
    · exact List.prefix_rfl
    · unfold takeHeldStage
      split <;>
      · rw [reply_responses]
        split
        · exact List.prefix_append _ _
        · exact List.prefix_rfl
  · exact List.prefix_rfl

theorem reportEnd_answers (h : HostNo) (sel : Byte) (g : HostNo) (s : State) :
    (s.port g).responses <+: ((reportEnd h sel s).port g).responses := by
  unfold reportEnd
  split
  · exact ((countForCommit_startedBy h _ s).answers g).trans (takeStageIfIdle_answers _ g _)
  · exact List.prefix_rfl

/-! ## The end of an operation -/

/-- The state once an operation's response is placed and its slot free, before its end is reported (R84). -/
def endPlaced (h : HostNo) (rs : List Response) (s : State) : State :=
  answerAll h rs (s.setLane h { s.lane h with service := none })

theorem finishOp_eq (h : HostNo) (v : Service) (r : Response) (s : State) :
    finishOp h v r s = reportEnd h v.op.pane (endPlaced h (r :: v.delayed) s) := rfl

@[simp] theorem endPlaced_frame (h : HostNo) (rs : List Response) (s : State) :
    (∀ q, (endPlaced h rs s).pane q = s.pane q) ∧ (∀ g, (endPlaced h rs s).host g = s.host g) ∧
    (endPlaced h rs s).parked = s.parked ∧ (endPlaced h rs s).lane h = ⟨none, (s.lane h).queued⟩ := by
  simp [endPlaced]

theorem endPlaced_lane_other (h g : HostNo) (rs : List Response) (s : State) (other : h ≠ g) :
    (endPlaced h rs s).lane g = s.lane g := by
  simp [endPlaced, other]

theorem endPlaced_responses (h g : HostNo) (rs : List Response) (s : State) :
    ((endPlaced h rs s).port g).responses =
      if h = g then (s.port g).responses ++ rs else (s.port g).responses := by
  rw [endPlaced, (answerAll_port h g rs _).1]
  simp

/-- The response of an operation that ends stands behind those already queued (R84). -/
theorem settle_finishOp_responses (h : HostNo) (v : Service) (r : Response) (s : State) :
    ∃ more, ((settle (finishOp h v r s)).port h).responses = (s.port h).responses ++ r :: more := by
  have placed := ((reportEnd_answers h v.op.pane h (endPlaced h (r :: v.delayed) s))).trans
    ((settle_settles (finishOp h v r s)).answers h)
  rw [endPlaced_responses, if_pos rfl] at placed
  obtain ⟨more, same⟩ := placed
  exact ⟨v.delayed ++ more, by rw [← same]; simp⟩

theorem reportEnd_named (h : HostNo) (sel : Byte) (s : State) (named : sel.toNat = p.val) :
    reportEnd h sel s = takeStageIfIdle p (countForCommit h p s) := by
  simp only [reportEnd, paneOf_eq_some sel p named]

/-! ## The request held on the operation's pane -/

section
variable {v : Service} {r : Response} (named : v.op.pane.toNat = p.val) (alone : v.delayed = [])
include named alone

theorem finishOp_named : finishOp h v r s = takeStageIfIdle p (countForCommit h p (endPlaced h [r] s)) := by
  rw [finishOp_eq, alone, reportEnd_named h v.op.pane _ named]

/-- The last operation a held PANE_COMMIT waited for: it is taken (R37). -/
theorem settle_finishOp_commit_last {tag : Byte} {n : Nat} (held : (s.pane p).held = some (.commit tag n))
    (owner : (s.pane p).owner = some h) (few : n ≤ 1) :
    ((settle (finishOp h v r s)).pane p).held = none ∧
    ((settle (finishOp h v r s)).pane p).commit = some (s.host h).tickets ∧
    ∃ more, ((settle (finishOp h v r s)).port h).responses = (s.port h).responses ++
      r :: responseTo .paneCommit tag .accepted (.ticket (s.host h).tickets) :: more := by
  have taken : finishOp h v r s = takeCommit h p tag (endPlaced h [r] s) := by
    rw [finishOp_named named alone, countForCommit_last (by simpa using held) (by simpa using owner) few]
    exact takeStageIfIdle_unheld p _ (by rw [takeCommit_pane, if_pos rfl]; rfl)
  have pane := takeCommit_pane h p p tag (endPlaced h [r] s)
  have responses := takeCommit_responses h h p tag (endPlaced h [r] s)
  rw [endPlaced_responses] at responses
  rw [taken]
  have after := settle_settles (takeCommit h p tag (endPlaced h [r] s))
  obtain ⟨heldAfter, commitAfter⟩ := after.settled p (by simp [pane])
  refine ⟨by simp [heldAfter, pane], by simp [commitAfter, pane], ?_⟩
  obtain ⟨more, same⟩ := after.answers h
  exact ⟨more, by rw [← same, responses]; simp⟩

/-- A held PANE_COMMIT that waits for more operations (R37). -/
theorem settle_finishOp_commit_more {tag : Byte} {n : Nat} (held : (s.pane p).held = some (.commit tag n))
    (owner : (s.pane p).owner = some h) (many : 2 ≤ n)
    (servable : ∀ op, (s.lane h).queued.head? = some op → s.servable h op) :
    CommitWaits h p tag (n - 1) (s.pane p).commit (s.lane h).queued (settle (finishOp h v r s)) := by
  have counted : finishOp h v r s = countForCommit h p (endPlaced h [r] s) := by
    rw [finishOp_named named alone, takeStageIfIdle_unheld p _ (countForCommit_stageHeld h p _ ?_)]
    simp [Pane.stageHeld, held]
  have started := countForCommit_startedBy h p (endPlaced h [r] s)
  have servableAfter (op : CellOp) (first : (s.lane h).queued.head? = some op) :
      (countForCommit h p (endPlaced h [r] s)).servable h op :=
    started.servable h op (by simpa [State.servable] using servable op first)
  rw [counted]
  rw [countForCommit_more (by simpa using held) (by simpa using owner) many] at servableAfter ⊢
  exact CommitWaits.settle ⟨by simp, by simp, by simpa using owner, .inl ⟨by simp, servableAfter⟩⟩

/-- A held PANE_STAGE whose pane is idle once the operation has ended is taken, its overlap check made again (R18). -/
theorem finishOp_stage {tag : Byte} {rect : Option Rect} {o : HostNo}
    (held : (s.pane p).held = some (.stage tag rect)) (owner : (s.pane p).owner = some o)
    (others : ∀ g w, g ≠ h → (s.lane g).service = some w → w.pane ≠ p) (unparked : ∀ e ∈ s.parked, e.pane ≠ p) :
    finishOp h v r s = takeHeldStage o p tag rect (endPlaced h [r] s) := by
  rw [finishOp_named named alone, countForCommit_stage (by simpa using held)]
  refine takeStageIfIdle_idle (by simpa using held) (by simpa using owner)
    (paneAtWork_false (fun g w service => ?_) (by simpa using unparked))
  by_cases same : h = g
  · subst same; simp at service
  · exact others g w (Ne.symm same) (by rwa [endPlaced_lane_other h g _ s same] at service)

end

/-- What follows at once leaves a PANE_STAGE taken, or refused, and its answer where it stands. -/
theorem settle_staged (o : HostNo) (tag : Byte) (status : Status) (rect : Option Rect) (u : State) :
    let t := settle (reply o .paneStage tag status .empty (u.setPane p { u.pane p with held := none, staged := rect }))
    (t.pane p).held = none ∧ (t.pane p).staged = rect ∧
      ∃ more, (t.port o).responses = (u.port o).responses ++ responseTo .paneStage tag status .empty :: more := by
  dsimp only
  have after := settle_settles
    (reply o .paneStage tag status .empty (u.setPane p { u.pane p with held := none, staged := rect }))
  refine ⟨by simp [(after.settled p (by simp)).1], by simp [after.staged p], ?_⟩
  obtain ⟨more, same⟩ := after.answers o
  rw [reply_responses, if_pos rfl] at same
  exact ⟨more, by rw [← same]; simp⟩

/-- The end of an operation takes the request held on its pane (R18, R37, R84). -/
theorem heldTaken_settle_finishOp (h : HostNo) (v : Service) (r : Response) (s : State) :
    s.heldTaken (settle (finishOp h v r s)) h v r := by
  intro p named alone
  refine ⟨fun tag n held owner => ⟨settle_finishOp_commit_last named alone held owner, fun many servable => ?_⟩,
    fun tag rect o held owner others unparked => ?_⟩
  · obtain ⟨heldAfter, commitAfter, -, lane⟩ := settle_finishOp_commit_more named alone held owner many servable (r := r)
    refine ⟨heldAfter, commitAfter, fun op rest queued => ?_⟩
    rw [queued] at lane
    rcases lane with ⟨waits, -⟩ | ⟨op', rest', w, same, started, is, written, stop⟩
    · exact .inl waits
    · cases same
      exact .inr ⟨w, started, is, written, stop⟩
  · have taken := finishOp_stage named alone held owner others unparked (r := r)
    have before : ((endPlaced h [r] s).port o).responses =
        if o = h then (s.port o).responses ++ [r] else (s.port o).responses := by
      rw [endPlaced_responses]; simp only [eq_comm]
    have same (q : Rect) : (endPlaced h [r] s).overlapsPanes (some p) q = s.overlapsPanes (some p) q := by
      simp [State.overlapsPanes]
    dsimp only
    rw [← before, taken]
    by_cases overlaps : ∃ q, rect = some q ∧ s.overlapsPanes (some p) q = true
    · obtain ⟨q, rfl, meets⟩ := overlaps
      rw [takeHeldStage_overlap o tag q (by rwa [same])]
      obtain ⟨none, kept, answers⟩ :=
        settle_staged (p := p) o tag .overlap ((endPlaced h [r] s).pane p).staged (endPlaced h [r] s)
      refine ⟨none, fun _ => ⟨by simpa using kept, answers⟩, fun apart => ?_⟩
      rw [apart q rfl] at meets
      cases meets
    · have apart (q : Rect) (is : rect = some q) : s.overlapsPanes (some p) q = false := by
        simpa using fun meets => overlaps ⟨q, is, meets⟩
      rw [takeHeldStage_apart o tag rect fun q is => by rw [same, apart q is]]
      obtain ⟨none, staged, answers⟩ := settle_staged (p := p) o tag .ok rect (endPlaced h [r] s)
      exact ⟨none, fun meets => absurd meets overlaps, fun _ => ⟨staged, answers⟩⟩

end
end Sys2Proof.Machine
end

section
/-! The completions of read and write accesses (R9, R10, R76, R79, R84, R86): settles O41 and O42. -/
namespace Sys2Proof.Machine

theorem settledFrom_trans {s t u : State} (first : s.settledFrom t) (second : t.settledFrom u) : s.settledFrom u := by
  obtain ⟨pending, choices, pin, store, conf, panel, scan, latch, none, urgency, hostless, host, port, pane⟩ := first
  obtain ⟨pending', choices', pin', store', conf', panel', scan', latch', none', urgency', hostless', host', port', pane'⟩ :=
    second
  refine ⟨pending'.trans pending, choices'.trans choices, pin'.trans pin, store'.trans store, conf'.trans conf,
    panel'.trans panel, by rw [scan', scan], fun l held => ?_, fun idle => none' (none idle), urgency'.trans urgency,
    hostless'.trans hostless, fun g => ?_, fun g => ?_, fun r => ?_⟩
  · obtain ⟨torn, before⟩ := latch l held
    exact latch' { l with torn := torn } before
  · obtain ⟨a, b, c, d⟩ := host g
    obtain ⟨a', b', c', d'⟩ := host' g
    exact ⟨a'.trans a, b'.trans b, c'.trans c, d'.trans d⟩
  · obtain ⟨a, b, c, d, e⟩ := port g
    obtain ⟨a', b', c', d', e'⟩ := port' g
    exact ⟨a'.trans a, b'.trans b, c'.trans c, d'.trans d, e'.trans e⟩
  · obtain ⟨a, b, c, d, e, f⟩ := pane r
    obtain ⟨a', b', c', d', e', f'⟩ := pane' r
    exact ⟨a'.trans a, b'.trans b, c'.trans c, d'.trans d, e'.trans e, f'.trans f⟩

/-- What follows at once where no operation is queued: grants alone. -/
theorem settle_unqueued (s : State) (idle : ∀ g, (s.lane g).queued = []) (g : HostNo) :
    ((settle s).port g).responses = (s.port g).responses ∧ ((settle s).port g).slots = (s.port g).slots ∧
    ((settle s).lane g).queued = [] ∧ ((s.lane g).service = none → ((settle s).lane g).service = none) ∧
    ∀ v, (s.lane g).service = some v → ∃ a, ((settle s).lane g).service = some { v with access := a } := by
  unfold settle
  split
  · rw [startServices_idle s idle]
    have granted := arbitrate_granted 5 s
    exact ⟨by simp, by simp, by simp [idle], granted.service_none g, granted.service_some g⟩
  · exact ⟨rfl, rfl, idle g, id, fun v service => ⟨v.access, service⟩⟩

theorem exec_completion {f : State → State} {s : State} (access : StoreAccess) (held : s.arbiter.access = some access)
    (inside : access.inside) : completion f s = .next (f s) := by
  have placed : accessInStore s = true := (accessInStore_iff s).2 fun a is => by
    rw [held] at is; cases is; exact inside
  simp [completion, placed]

/-- Nothing but the access in progress, lanes and what the end of an operation takes differs. -/
theorem settledFrom_of_scan {s t : State} (scan : t.scan = s.scan) (pending : t.pending = s.pending)
    (choices : t.choices = s.choices) (pin : t.resetPin = s.resetPin) (store : t.store = s.store) (conf : t.conf = s.conf)
    (panel : t.panel = s.panel) (urgency : t.arbiter.urgency = s.arbiter.urgency)
    (hostless : t.faults.hostless = s.faults.hostless)
    (host : ∀ g, (t.host g).state = (s.host g).state ∧ (t.host g).reserved = (s.host g).reserved ∧
      (t.host g).budget = (s.host g).budget ∧ (t.host g).vote = (s.host g).vote)
    (port : ∀ g, (t.port g).present = (s.port g).present ∧ (t.port g).drop = (s.port g).drop ∧
      (t.port g).resetSeen = (s.port g).resetSeen ∧ (t.port g).lapsedSeen = (s.port g).lapsedSeen ∧
      (t.port g).exchange = (s.port g).exchange)
    (pane : ∀ r, (t.pane r).state = (s.pane r).state ∧ (t.pane r).owner = (s.pane r).owner ∧
      (t.pane r).former = (s.pane r).former ∧ (t.pane r).guest = (s.pane r).guest ∧
      (t.pane r).current = (s.pane r).current ∧ (t.pane r).modes = (s.pane r).modes) : s.settledFrom t :=
  ⟨pending, choices, pin, store, conf, panel, by rw [scan], fun l latch => ⟨l.torn, by rw [scan, latch]⟩,
    fun idle => by rw [scan, idle], urgency, hostless, host, port, pane⟩

/-! ## Reads -/

theorem readAccessComplete_eq {s : State} {live : Bool} {h : HostNo} {bank : Bank} {line first : Nat} {cells : List Cell}
    (access : s.arbiter.access = some (.read live h bank line first cells)) :
    readAccessComplete s = settle (if live then readDone h cells (freeStore s) else freeStore s) := by
  simp [readAccessComplete, access]

theorem readDone_going {s : State} {h : HostNo} {v : Service} (cells : List Cell) (service : (s.lane h).service = some v)
    (going : v.stop = none) :
    readDone h cells s = finishOp h v (responseTo v.op.kind v.op.tag .ok (.cells cells)) s := by
  simp [readDone, service, going, responseTo]

theorem readDone_stopped {s : State} {h : HostNo} {v : Service} {status : Status} (cells : List Cell)
    (service : (s.lane h).service = some v) (stop : v.stop = some status) :
    readDone h cells s = finishOp h v (responseTo v.op.kind v.op.tag status (.count v.written)) s := by
  simp [readDone, service, stop, responseTo, CellOp.answerCount]

/-- Settles O41: the operation's end takes the held request, and what follows at once keeps the rest. -/
theorem readAccessCompletes : Obligations.ReadAccessCompletes := by
  unfold Obligations.ReadAccessCompletes
  intro s live h bank line first cells access inside
  have next : exec .readAccessComplete s = .next (readAccessComplete s) :=
    exec_completion _ access ((runInStore_iff line first cells.length).1 inside)
  have done : s.settledFrom (if live then readDone h cells (freeStore s) else freeStore s) := by
    split <;> apply settledFrom_of_scan <;> simp
  refine ⟨_, next, ?_, fun dead idle g => ?_, fun v alive service => ⟨fun going => ?_, fun status stop => ?_⟩⟩ <;>
    rw [readAccessComplete_eq access]
  · exact settledFrom_trans done (settle_settledFrom _)
  · subst dead
    exact settle_unqueued (freeStore s) idle g
  · subst alive
    rw [if_pos rfl, readDone_going cells (s := freeStore s) service going]
    exact ⟨heldTaken_settle_finishOp h v _ (freeStore s), settle_finishOp_responses h v _ (freeStore s)⟩
  · subst alive
    rw [if_pos rfl, readDone_stopped cells (s := freeStore s) service stop]
    exact ⟨heldTaken_settle_finishOp h v _ (freeStore s), settle_finishOp_responses h v _ (freeStore s)⟩

/-! ## Writes -/

/-- The latch in flight once a write with this restart mark has completed (R100, R101). -/
def restartedLatch : Option (Half × Nat) → Option Latch → Option Latch
  | some mark, some l =>
    if mark = (l.frame, l.line) then
      some { l with segment := 0, gathered := [], torn := false, restarts := l.restarts + 1 }
    else some l
  | _, latch => latch

theorem restartedLatch_none (restart : Option (Half × Nat)) : restartedLatch restart none = none := by
  cases restart <;> rfl

theorem restartLatch_eq (restart : Option (Half × Nat)) (s : State) :
    restartLatch restart s = s.setScan { s.scan with latch := restartedLatch restart s.scan.latch } := by
  have unchanged : s.setScan { s.scan with latch := s.scan.latch } = s := s.setScan_self
  rcases restart with _ | ⟨frame, line⟩
  · exact unchanged.symm
  · cases latch : s.scan.latch with
    | none => simp only [restartLatch, latch, restartedLatch_none]; rw [← latch, unchanged]
    | some l =>
      simp only [restartLatch, latch, restartedLatch, Prod.mk.injEq, Bool.and_eq_true, decide_eq_true_eq,
        eq_comm (a := frame), eq_comm (a := line)]
      split
      · rfl
      · rw [← latch, unchanged]

theorem restartedLatch_marked (l : Latch) : restartedLatch (some (l.frame, l.line)) (some l) =
    some { l with segment := 0, gathered := [], torn := false, restarts := l.restarts + 1 } := by
  simp [restartedLatch]

theorem restartedLatch_unmarked {restart : Option (Half × Nat)} (l : Latch) (other : restart ≠ some (l.frame, l.line)) :
    restartedLatch restart (some l) = some l := by
  cases restart with
  | none => rfl
  | some mark => simp [restartedLatch, show ¬mark = (l.frame, l.line) from fun same => other (by rw [same])]

/-- The state once a write access has stored its cells and perhaps restarted the latch (R9, R100). -/
def writeStored (bank : Bank) (line first : Nat) (cells : List Cell) (restart : Option (Half × Nat)) (s : State) : State :=
  (storeCells bank line first cells (freeStore s)).setScan
    { s.scan with latch := restartedLatch restart s.scan.latch }

theorem writeStored_latch (bank : Bank) (line first : Nat) (cells : List Cell) (restart : Option (Half × Nat)) (s : State) :
    (writeStored bank line first cells restart s).scan.latch = restartedLatch restart s.scan.latch := rfl

theorem writeAccessComplete_eq {s : State} {live : Bool} {h : HostNo} {bank : Bank} {line first : Nat} {cells : List Cell}
    {restart : Option (Half × Nat)} (access : s.arbiter.access = some (.write live h bank line first cells restart)) :
    writeAccessComplete s = settle (if live then writeDone h cells.length (writeStored bank line first cells restart s)
      else writeStored bank line first cells restart s) := by
  simp only [writeAccessComplete, access, restartLatch_eq]
  rfl

theorem writeDone_stopped {s : State} {h : HostNo} {v : Service} {status : Status} (n : Nat)
    (service : (s.lane h).service = some v) (stop : v.stop = some status) :
    writeDone h n s = finishOp h { v with written := v.written + n }
      (responseTo v.op.kind v.op.tag status (.count (v.written + n))) s := by
  simp [writeDone, service, stop, responseTo, CellOp.answerCount]

theorem writeDone_last {s : State} {h : HostNo} {v : Service} (n : Nat) (service : (s.lane h).service = some v)
    (going : v.stop = none) (last : v.following = none) :
    writeDone h n s = finishOp h { v with written := v.written + n }
      (responseTo v.op.kind v.op.tag .ok (.count (v.written + n))) s := by
  simp only [writeDone, service]
  split
  · next status stop => exact absurd (going.symm.trans stop) nofun
  · rfl
  · next more => exact absurd (last.symm.trans more) nofun

theorem writeDone_next {s : State} {h : HostNo} {v : Service} (n line col : Nat) (service : (s.lane h).service = some v)
    (going : v.stop = none) (next : v.following = some (line, col)) :
    ∃ a, ((writeDone h n s).lane h).service =
      some { v with written := v.written + n, line := line, col := col, access := a } := by
  have tested := testAccess_bare h h (s.setLane h
    { s.lane h with service := some { v with written := v.written + n, line := line, col := col, access := .made } })
  rw [State.lane_setLane_same] at tested
  obtain ⟨w, now, bare⟩ := Option.map_eq_some_iff.1 tested
  obtain ⟨a, rfl⟩ := (Service.bare_eq_iff _ w).1 bare
  refine ⟨a, ?_⟩
  simp only [writeDone, service]
  split
  · next status stop => exact absurd (going.symm.trans stop) nofun
  · next last => exact absurd (next.symm.trans last) nofun
  · next line' col' more =>
    cases next.symm.trans more
    exact now

theorem writeDone_settledFrom (s : State) (h : HostNo) (n : Nat) (live : Bool) :
    s.settledFrom (if live then writeDone h n s else s) := by
  split <;> apply settledFrom_of_scan <;> simp

/-- What a write access that has completed leaves: its latch and store, and the rest as what follows at once leaves it. -/
theorem writeAccessComplete_settledFrom {s t : State} {bank : Bank} {line first : Nat} {cells : List Cell}
    {restart : Option (Half × Nat)} (settled : (writeStored bank line first cells restart s).settledFrom t) :
    ((s.setStore t.store).setScan { s.scan with latch := t.scan.latch }).settledFrom t := by
  obtain ⟨pending, choices, pin, -, conf, panel, scan, -, -, urgency, hostless, host, port, pane⟩ := settled
  exact ⟨pending, choices, pin, rfl, conf, panel, scan, fun l latch => ⟨l.torn, latch⟩, id, urgency, hostless, host, port,
    pane⟩

/-- Settles O42: the cells stored, the latch restarted when marked, the operation continued or ended, and what follows at
once. -/
theorem writeAccessCompletes : Obligations.WriteAccessCompletes := by
  unfold Obligations.WriteAccessCompletes
  intro s live h bank line first cells restart access base
  have place : base = placeOf bank first line := by
    cases bank <;> simp only [base, placeOf, Config.bankCells, Config.columns] <;> omega
  clear_value base
  subst place
  refine ⟨fun outside => ?_, fun low right => ?_⟩
  · have beyond : accessInStore s = false := by
      rw [← Bool.not_eq_true, accessInStore_iff]
      intro inside
      obtain ⟨low, right⟩ := inside _ access
      omega
    simp [exec, execWriteAccessComplete, completion, beyond]
  have next : exec .writeAccessComplete s = .next (writeAccessComplete s) := exec_completion _ access ⟨low, right⟩
  rw [writeAccessComplete_eq access] at next
  have settled := settledFrom_trans
    (writeDone_settledFrom (writeStored bank line first cells restart s) h cells.length live) (settle_settledFrom _)
  have ⟨_, _, _, stored, _, _, _, inFlight, unlatched, _⟩ := settled
  refine ⟨_, next, writeAccessComplete_settledFrom settled, fun i c is => ?_, fun a other => ?_, fun l latch marked => ?_,
    fun l latch unmarked => ?_, fun idle => ?_, fun v alive service => ?_⟩
  · rw [stored]
    exact CellStore.read_writeRun_same _ _ _ _ _ ((runInStore_iff _ _ _).2 ⟨low, right⟩) i c is
  · rw [stored]
    exact CellStore.read_writeRun_other _ _ _ _ _ a (by omega)
  · obtain ⟨torn, after⟩ := inFlight _ (by rw [writeStored_latch, latch, marked, restartedLatch_marked])
    exact ⟨_, after, rfl, rfl, rfl, rfl, rfl⟩
  · exact inFlight l (by rw [writeStored_latch, latch, restartedLatch_unmarked l unmarked])
  · exact unlatched (by rw [writeStored_latch, idle, restartedLatch_none])
  · subst alive
    have serving : ((writeStored bank line first cells restart s).lane h).service = some v := service
    have ended (r : Response) : s.heldTaken (settle (finishOp h { v with written := v.written + cells.length } r
          (writeStored bank line first cells restart s))) h v r ∧
        ∃ more, ((settle (finishOp h { v with written := v.written + cells.length } r
          (writeStored bank line first cells restart s))).port h).responses = (s.port h).responses ++ r :: more :=
      ⟨heldTaken_settle_finishOp h { v with written := v.written + cells.length } r
          (writeStored bank line first cells restart s),
        settle_finishOp_responses h _ r (writeStored bank line first cells restart s)⟩
    have continued (line' col' : Nat) (going : v.stop = .none) (following : v.following = some (line', col')) :
        ∃ v', ((settle (writeDone h cells.length (writeStored bank line first cells restart s))).lane h).service = some v' ∧
          v'.op = v.op ∧ v'.line = line' ∧ v'.col = col' ∧ v'.written = v.written + cells.length := by
      obtain ⟨a, begun⟩ := writeDone_next cells.length line' col' serving going following
      obtain ⟨a', still⟩ := settle_service h _ _ begun
      exact ⟨_, still, rfl, rfl, rfl, rfl⟩
    rw [if_pos rfl]
    refine ⟨fun status stop => ?_, fun going more => ?_, fun going across down => ?_, fun going across last => ?_⟩
    · rw [writeDone_stopped cells.length serving stop]
      exact ended _
    · exact continued _ _ going (if_pos more)
    · have whole : ¬v.col + v.accessLen < v.area.x + v.area.w := Nat.not_lt.2 across
      exact continued _ _ going (by rw [Service.following, if_neg whole, if_pos down])
    · have whole : ¬v.col + v.accessLen < v.area.x + v.area.w := Nat.not_lt.2 across
      rw [writeDone_last cells.length serving going (by rw [Service.following, if_neg whole, if_neg (Nat.not_lt.2 last)])]
      exact ended _

end Sys2Proof.Machine
end

section
/-! The panes' rectangles stay apart (R14): settles O53. -/
namespace Sys2Proof.Machine

/-! ## Overlap -/

/-- Rectangles that share a cell overlap (R14). -/
theorem rectsOverlap_of_shared {r q : Rect} {x y : Nat} (inR : rectHolds r x y = true) (inQ : rectHolds q x y = true) :
    rectsOverlap r q = true := by
  rw [rectHolds_iff] at inR inQ
  simp only [rectsOverlap, Bool.and_eq_true, decide_eq_true_eq]
  omega

/-- The rectangles a pane keeps others out of: none while it is FREE (R14). -/
def Pane.areas (q : Pane) : List Rect := if q.state = .free then [] else q.rects

@[simp] theorem areas_free (tears : Nat) : (Pane.free tears).areas = [] := rfl

theorem mem_areas_iff (q : Pane) (r : Rect) : r ∈ q.areas ↔ q.state ≠ .free ∧ r ∈ q.rects := by
  by_cases free : q.state = .free <;> simp [Pane.areas, free]

theorem mem_areas {q : Pane} {r : Rect} :
    r ∈ q.areas ↔ q.state ≠ .free ∧ (q.current = some r ∨ q.staged = some r) := by
  simp [mem_areas_iff, Pane.rects]

theorem overlapsPanes_iff (s : State) (except : Option PaneNo) (r : Rect) :
    s.overlapsPanes except r = true ↔ ∃ p, except ≠ some p ∧ ∃ q ∈ (s.pane p).areas, rectsOverlap r q = true := by
  simp only [State.overlapsPanes, List.any_eq_true, mem_allPanes, true_and, Bool.and_eq_true, decide_eq_true_eq,
    mem_areas_iff, and_assoc, exists_and_left]

/-- Two rectangles have no cell in common. -/
def RectsApart (a b : Rect) : Prop := ∀ x y, ¬(rectHolds a x y = true ∧ rectHolds b x y = true)

theorem RectsApart.symm {a b : Rect} (apart : RectsApart a b) : RectsApart b a := fun x y both => apart x y both.symm

theorem panesApart_iff (s : State) :
    s.panesApart ↔ ∀ p q, p ≠ q → ∀ a ∈ (s.pane p).areas, ∀ b ∈ (s.pane q).areas, RectsApart a b := by
  simp only [mem_areas_iff]
  exact ⟨fun apart p q differ a inP b inQ => apart p q differ inP.1 inQ.1 a inP.2 b inQ.2,
    fun apart p q differ usedP usedQ a inP b inQ => apart p q differ a ⟨usedP, inP⟩ b ⟨usedQ, inQ⟩⟩

/-- A rectangle that passes the overlap check is apart from every other pane (R14). -/
theorem apart_of_checked {s : State} {except : Option PaneNo} {r : Rect} (checked : s.overlapsPanes except r = false)
    (p : PaneNo) (other : except ≠ some p) (b : Rect) (inP : b ∈ (s.pane p).areas) : RectsApart r b := by
  rintro x y ⟨inR, inB⟩
  have meets := (overlapsPanes_iff s except r).2 ⟨p, other, b, inP, rectsOverlap_of_shared inR inB⟩
  rw [checked] at meets
  cases meets

/-! ## What an update leaves apart -/

section
variable {s t : State}

/-- Every pane keeps others out of no more than before. -/
def Shrinks (s t : State) : Prop := ∀ p, (t.pane p).areas ⊆ (s.pane p).areas

theorem Shrinks.trans {u : State} (first : Shrinks s t) (second : Shrinks t u) : Shrinks s u :=
  fun p _ inP => first p (second p inP)

theorem Shrinks.of_pane (pane : ∀ p, t.pane p = s.pane p) : Shrinks s t := fun p => by rw [pane]; exact List.Subset.refl _

theorem areas_congr {p q : Pane} (state : p.state = q.state) (current : p.current = q.current)
    (staged : p.staged = q.staged) : p.areas = q.areas := by simp [Pane.areas, Pane.rects, state, current, staged]

theorem Shrinks.of_fields (state : ∀ p, (t.pane p).state = (s.pane p).state)
    (current : ∀ p, (t.pane p).current = (s.pane p).current) (staged : ∀ p, (t.pane p).staged = (s.pane p).staged) :
    Shrinks s t := fun p => by rw [areas_congr (state p) (current p) (staged p)]; exact List.Subset.refl _

theorem Shrinks.setPane (p : PaneNo) (q : Pane) (less : q.areas ⊆ (s.pane p).areas) : Shrinks s (s.setPane p q) := by
  intro r
  rw [State.pane_setPane]
  split
  · next same => subst same; exact less
  · exact List.Subset.refl _

theorem Shrinks.forEach {α : Type} (f : α → State → State) (l : List α) (turn : ∀ a u, Shrinks u (f a u)) (s : State) :
    Shrinks s (forEach l f s) :=
  forEach_induct (Shrinks s) f (fun a u before => before.trans (turn a u)) l s (.of_pane fun _ => rfl)

namespace State.panesApart

theorem shrinks (apart : s.panesApart) (less : Shrinks s t) : t.panesApart := by
  rw [panesApart_iff] at apart ⊢
  exact fun p q differ a inP b inQ => apart p q differ a (less p inP) b (less q inQ)

theorem of_pane (apart : s.panesApart) (pane : ∀ p, t.pane p = s.pane p) : t.panesApart := apart.shrinks (.of_pane pane)

/-- A pane takes in a rectangle that passed the overlap check (R14). -/
theorem setPane (apart : s.panesApart) (p : PaneNo) (q : Pane)
    (checked : ∀ r ∈ q.areas, r ∈ (s.pane p).areas ∨ ∀ p', p' ≠ p → ∀ b ∈ (s.pane p').areas, RectsApart r b) :
    (s.setPane p q).panesApart := by
  rw [panesApart_iff] at apart ⊢
  have new (p' : PaneNo) (other : p' ≠ p) (a : Rect) (inQ : a ∈ q.areas) (b : Rect) (inP' : b ∈ (s.pane p').areas) :
      RectsApart a b :=
    (checked a inQ).elim (fun before => apart p p' other.symm a before b inP') fun clear => clear p' other b inP'
  intro p₁ p₂ differ a in₁ b in₂
  rw [State.pane_setPane] at in₁ in₂
  split at in₁ <;> split at in₂
  · next same same' => exact absurd (same.symm.trans same') differ
  · next same _ => exact new p₂ (by rw [same]; exact differ.symm) a in₁ b in₂
  · next _ same => exact (new p₁ (by rw [same]; exact differ) b in₂ a in₁).symm
  · exact apart p₁ p₂ differ a in₁ b in₂

/-! ## Held requests (R18, R37) -/

theorem takeStageIfIdle (apart : s.panesApart) (p : PaneNo) : (takeStageIfIdle p s).panesApart := by
  unfold Machine.takeStageIfIdle
  split
  · next tag rect h _ _ =>
    split
    · exact apart
    · unfold takeHeldStage
      split
      · refine of_pane (apart.setPane p { s.pane p with held := none } fun r inP => .inl ?_) (by simp)
        exact mem_areas.2 (mem_areas.1 inP)
      · next clear =>
        refine of_pane (apart.setPane p { s.pane p with held := none, staged := rect } fun r inP => ?_) (by simp)
        obtain ⟨used, current | staged⟩ := mem_areas.1 inP
        · exact .inl (mem_areas.2 ⟨used, .inl current⟩)
        · obtain rfl : rect = some r := staged
          exact .inr fun p' other => apart_of_checked (by simpa using clear) p' (by simpa using other.symm)
  · exact apart

theorem reportEnd (apart : s.panesApart) (h : HostNo) (sel : Byte) : (reportEnd h sel s).panesApart := by
  unfold Machine.reportEnd
  split
  · exact (apart.shrinks (.of_fields (by simp) (by simp) (by simp))).takeStageIfIdle _
  · exact apart

theorem finishOp (apart : s.panesApart) (h : HostNo) (v : Service) (r : Response) : (finishOp h v r s).panesApart := by
  rw [finishOp_eq]
  exact (apart.of_pane (by simp)).reportEnd _ _

theorem takeIdleStages (apart : s.panesApart) : (takeIdleStages s).panesApart :=
  forEach_induct State.panesApart _ (fun p _ stands => stands.takeStageIfIdle p) _ _ apart

theorem endWork (apart : s.panesApart) (panes : List PaneNo) (status : Status) (h : HostNo) :
    (endWork panes status h s).panesApart :=
  forEach_induct State.panesApart _ (fun p _ stands => stands.takeStageIfIdle p) _ _ (apart.of_pane (by simp))

theorem settle (apart : s.panesApart) : (settle s).panesApart :=
  apart.shrinks (.of_fields (by simp) (by simp) (settle_settles s).staged)

theorem writeDone (apart : s.panesApart) (h : HostNo) (n : Nat) : (writeDone h n s).panesApart := by
  unfold Machine.writeDone
  split
  · exact apart
  · dsimp only
    split
    · exact apart.finishOp _ _ _
    · exact apart.finishOp _ _ _
    · exact apart.of_pane (by simp)

theorem readDone (apart : s.panesApart) (h : HostNo) (cells : List Cell) : (readDone h cells s).panesApart := by
  unfold Machine.readDone
  split
  · exact apart
  · split <;> exact apart.finishOp _ _ _

end State.panesApart

/-! ## The scan (R43 to R47, R53 to R57, R63) -/

/-- A pane's record after a frame boundary (R44 to R47). -/
def boundaryRecord (q : Pane) : Pane :=
  if q.state = .retiring then .free q.tears
  else if (q.state = .pending ∨ q.state = .live) ∧ q.commit.isSome then committedPane q
  else q

theorem boundaryPane_pane (frame : Half) (p q : PaneNo) (s : State) :
    (boundaryPane frame p s).pane q = if p = q then boundaryRecord (s.pane q) else s.pane q := by
  have same : (boundaryPane frame p s).pane q = (s.setPane p (boundaryRecord (s.pane p))).pane q := by
    unfold boundaryPane boundaryRecord
    dsimp only
    split
    · next retiring => simp [retiring]
    · next pending commit => simp [pending, commit]
    · next live commit => simp [live, commit]
    · next retiring pending live =>
      rw [if_neg retiring, if_neg]
      · simp
      · rintro ⟨state | state, committed⟩ <;> obtain ⟨t, is⟩ := Option.isSome_iff_exists.1 committed
        · exact pending t state is
        · exact live t state is
  rw [same, State.pane_setPane]
  split
  · next is => rw [is]
  · rfl

/-- Turns that each change the record of their own pane. -/
theorem forEach_ownPane (f : PaneNo → State → State) (g : Pane → Pane)
    (turn : ∀ p q s, (f p s).pane q = if p = q then g (s.pane q) else s.pane q) (l : List PaneNo) (once : l.Nodup)
    (s : State) (p : PaneNo) : (forEach l f s).pane p = if p ∈ l then g (s.pane p) else s.pane p := by
  induction l generalizing s with
  | nil => simp
  | cons q l ih =>
    obtain ⟨outside, rest⟩ := List.nodup_cons.1 once
    rw [forEach_cons, ih rest, turn]
    by_cases same : q = p
    · subst same; simp [outside]
    · simp [same, Ne.symm same]

theorem allPanes_nodup : allPanes.Nodup := allPanes_rising.imp fun less => ne_of_lt less

theorem frameBoundary_pane (frame : Half) (s : State) (p : PaneNo) :
    (frameBoundary frame s).pane p = boundaryRecord (s.pane p) := by
  have each := forEach_ownPane (boundaryPane frame) boundaryRecord (boundaryPane_pane frame) allPanes allPanes_nodup
    (s.setScan { s.scan with frame := frame, cursorFrame := frame }) p
  rw [if_pos (mem_allPanes p)] at each
  simpa [frameBoundary] using each

theorem areas_boundaryRecord (q : Pane) : (boundaryRecord q).areas ⊆ q.areas := by
  intro r inAfter
  unfold boundaryRecord at inAfter
  (repeat' split at inAfter)
  · simp at inAfter
  · next owned =>
    have used : q.state ≠ .free := by rcases owned.1 with state | state <;> simp [state]
    have target : q.target = some r := by simpa [committedPane] using (mem_areas.1 inAfter).2
    rw [Pane.areas, if_neg used]
    exact mem_rects_of_target target
  · exact inAfter

theorem startLatchAs_shrinks (frame : Half) (s : State) : Shrinks s (startLatchAs frame s) := by
  unfold startLatchAs
  dsimp only
  split
  · split
    · intro p
      simpa [frameBoundary_pane] using areas_boundaryRecord (s.pane p)
    · exact .of_pane (by simp)
  · exact .of_pane fun _ => rfl

theorem startLatch_shrinks (s : State) : Shrinks s (startLatch s) := startLatchAs_shrinks _ s

theorem releaseAndStart_shrinks (s : State) : Shrinks s (releaseAndStart s) := by
  have released (u : State) : Shrinks u (releaseParked u) := .of_pane (by simp)
  have counted : Shrinks s (s.setChoices (s.choices + 1)) := .of_pane (by simp)
  unfold releaseAndStart
  dsimp only
  split
  · split
    · exact (counted.trans (released _)).trans (startLatch_shrinks _)
    · exact (counted.trans (startLatch_shrinks _)).trans (released _)
  · exact (released s).trans (startLatch_shrinks _)

theorem gatherSegment_shrinks (cells : List Cell) (s : State) : Shrinks s (gatherSegment cells s) := by
  unfold gatherSegment
  split
  · exact .of_pane fun _ => rfl
  · dsimp only
    split
    · exact .of_pane (by simp)
    · exact (Shrinks.of_pane (by simp)).trans (releaseAndStart_shrinks _)

theorem underrun_shrinks (k : Nat) (s : State) : Shrinks s (underrun k s) := by
  unfold underrun
  dsimp only
  split
  · exact (Shrinks.of_pane (by simp)).trans (releaseAndStart_shrinks _)
  · exact (Shrinks.of_pane (by simp)).trans (startLatch_shrinks _)

theorem visibleMark_shrinks (k : Nat) (s : State) : Shrinks s (visibleMark k s) := by
  unfold visibleMark
  (repeat' split)
  · exact (Shrinks.of_pane (by simp)).trans (startLatch_shrinks _)
  · exact underrun_shrinks k s
  · exact underrun_shrinks k s

theorem markWork_shrinks (first : Bool) (k : Nat) (s : State) : Shrinks s (markWork first k s) := by
  unfold markWork
  dsimp only
  split
  · exact (Shrinks.of_pane (by simp)).trans (visibleMark_shrinks k _)
  · exact .of_pane (by simp)

/-! ## Departures, guests and releases (R20 to R28) -/

theorem areas_departedPane (h : HostNo) (kind : Departure) (q : Pane) : (departedPane h kind q).areas ⊆ q.areas := by
  intro r inAfter
  rcases departedPane_cases h kind q with ⟨same, -⟩ | ⟨freed, -⟩ | ⟨retiring | orphaned, -, live⟩
  · rwa [same] at inAfter
  · simp [freed] at inAfter
  · rw [retiring] at inAfter
    exact mem_areas.2 ⟨by simp [live], .inl (by simpa [retiringPane] using (mem_areas.1 inAfter).2)⟩
  · rw [orphaned] at inAfter
    exact mem_areas.2 ⟨by simp [live], .inl (by simpa [orphanedPane] using (mem_areas.1 inAfter).2)⟩

theorem areas_releasedPane {q : Pane} (used : q.state ≠ .free) : (releasedPane q).areas ⊆ q.areas := by
  intro r inAfter
  unfold releasedPane at inAfter
  split at inAfter
  · simp at inAfter
  · exact mem_areas.2 ⟨used, .inl (by simpa [retiringPane] using (mem_areas.1 inAfter).2)⟩

namespace State.panesApart

theorem judgeVote (apart : s.panesApart) : (judgeVote s).panesApart := by
  rcases judgeVote_cases s with same | closed | reset
  · rwa [same]
  · rw [closed]; exact apart.of_pane (by simp)
  · rw [reset]; exact apart.shrinks fun p => by simp

theorem departPanes (apart : s.panesApart) (h : HostNo) (kind : Departure) : (departPanes h kind s).panesApart := by
  have left : (forEach allPanes (departPane h kind) s).panesApart := apart.shrinks <| Shrinks.forEach _ _
    (fun p u => by rw [departPane_eq]; exact .setPane p _ (areas_departedPane h kind _)) s
  have told := forEach_induct State.panesApart (fun g => departGuest h kind g (guestPanesOf s h g))
    (fun g u stands => of_pane (stands.endWork (guestPanesOf s h g) (guestEnd kind).1 g) (by simp [departGuest]))
    allHosts _ left
  exact told.shrinks <| .of_fields (by simp [Machine.departPanes]) (by simp [Machine.departPanes])
    (by simp [Machine.departPanes])

theorem departSilently (apart : s.panesApart) (h : HostNo) (kind : Departure) : (departSilently h kind s).panesApart := by
  have cleared : (clearEvents h (portDeparture h (kind = .lapse) s)).panesApart := apart.of_pane (by simp)
  have dropped : (dropOps h (Machine.departPanes h kind (clearEvents h (portDeparture h (kind = .lapse) s)))).panesApart :=
    (cleared.departPanes h kind).of_pane (by simp)
  exact (judgeVote (of_pane dropped.takeIdleStages (by simp))).settle

theorem detachHost (apart : s.panesApart) (h : HostNo) (tag : Byte) (mode : DetachMode) :
    (detachHost h tag mode s).panesApart := by
  have gone : (leaveActive h .absent s).panesApart := apart.of_pane (by simp)
  have answered (u : State) (n : Nat) (rs : List Response) (stands : u.panesApart) : (answerAll h rs
      ((dropTransfers h (stopOps h (fun _ => true) (fun _ => true) .cancelled u)).setChoices n)).panesApart :=
    stands.of_pane (by simp)
  have placed (u : State) (r : Response) (stands : u.panesApart) : (startTransfer (placeDetach h r u)).panesApart :=
    stands.of_pane (by simp)
  exact (judgeVote (placed _ _ (takeIdleStages (answered _ _ _ (gone.departPanes h (.detach mode)))))).settle

theorem changeGuest (apart : s.panesApart) (h : HostNo) (p : PaneNo) (named : Option HostNo) :
    (changeGuest h p named s).panesApart := by
  have changed : (s.setPane p { s.pane p with guest := named }).panesApart :=
    apart.setPane p _ fun r inP => .inl (mem_areas.2 (mem_areas.1 inP))
  have revoked := forEach_induct State.panesApart (revokeGuest p h (if named.isSome then .replaced else .withdrawn))
    (fun g u stands => of_pane (stands.endWork [p] .revoked g) (by simp [revokeGuest])) (s.pane p).guest.toList _ changed
  exact revoked.of_pane (by simp [Machine.changeGuest])

theorem releasePane (apart : s.panesApart) (h : HostNo) (tag : Byte) (p : PaneNo) (used : (s.pane p).state ≠ .free) :
    (releasePane h tag p s).panesApart := by
  have released : (s.setPane p (releasedPane (s.pane p))).panesApart :=
    apart.shrinks (.setPane p _ (areas_releasedPane used))
  have ended := forEach_induct State.panesApart (Machine.endWork [p] .cancelled) (fun g u stands => stands.endWork _ _ g)
    (s.pane p).guest.toList _ ((released.of_pane (t := answerAll h ((s.pane p).held.toList.map cancelledHeld)
      (s.setPane p (releasedPane (s.pane p)))) (by simp)).endWork [p] .cancelled h)
  exact (ended.of_pane (by simp)).settle

/-! ## Requests -/

theorem hostCheck (apart : s.panesApart) (h : HostNo) (k : Kind) (tag : Byte) (take : State → State)
    (taken : ∀ u, u.panesApart → (take u).panesApart) : (hostCheck h k tag take s).panesApart := by
  rcases hostCheck_cases h k tag take s with ⟨-, taking⟩ | ⟨status, answered⟩
  · rw [taking]; exact taken _ (apart.of_pane (by simp))
  · rw [answered]; exact apart.of_pane (by simp)

theorem withPane (apart : s.panesApart) (h : HostNo) (k : Kind) (tag sel : Byte) (checks : PaneNo → List (Bool × Status))
    (take : PaneNo → State → State) (taken : ∀ p, firstFailing (checks p) = none → (take p s).panesApart) :
    (withPane h k tag sel checks take s).panesApart := by
  rcases withPane_cases h k tag sel checks take s with ⟨status, answered⟩ | ⟨p, -, passes, taking⟩
  · rw [answered]; exact apart.of_pane (by simp)
  · rw [taking]; exact taken p passes

theorem takePaneClaim (apart : s.panesApart) (h : HostNo) (tag : Byte) (rect : Rect) (buffering policy display : Byte) :
    (takePaneClaim h tag rect buffering policy display s).panesApart := by
  unfold Machine.takePaneClaim
  (repeat' split)
  case h_3.isFalse.isFalse p m _ _ _ clear =>
    refine of_pane (apart.setPane p (claimedPane h rect m) fun r inP => .inr fun p' _ => ?_) (by simp)
    obtain rfl : rect = r := by simpa [claimedPane] using (mem_areas.1 inP).2
    exact apart_of_checked (except := none) (by simpa using clear) p' (by simp)
  all_goals exact apart.of_pane (by simp)

theorem stagePane (apart : s.panesApart) (h : HostNo) (tag : Byte) (rect : Option Rect) (p : PaneNo)
    (clear : ∀ r, rect = some r → s.overlapsPanes (some p) r = false) : (stagePane h tag rect p s).panesApart := by
  unfold Machine.stagePane
  split
  · exact apart.setPane p _ fun r inP => .inl (mem_areas.2 (mem_areas.1 inP))
  · refine of_pane (apart.setPane p { s.pane p with staged := rect } fun r inP => ?_) (by simp)
    obtain ⟨used, current | staged⟩ := mem_areas.1 inP
    · exact .inl (mem_areas.2 ⟨used, .inl current⟩)
    · exact .inr fun p' other => apart_of_checked (clear r staged) p' (by simpa using other.symm)

theorem takePaneStage (apart : s.panesApart) (h : HostNo) (tag sel : Byte) (arg : Half) (rect : Rect) :
    (takePaneStage h tag sel arg rect s).panesApart := by
  refine apart.withPane _ _ _ _ _ _ fun p passes => apart.stagePane h tag _ p fun r named => ?_
  obtain ⟨-, -, checks⟩ := ownerChecks_pass _ _ _ passes
  simp only [List.mem_cons, forall_eq_or_imp, decide_eq_false_iff_not, List.not_mem_nil, false_implies, implies_true,
    and_true] at checks
  obtain ⟨-, -, -, -, -, -, clear⟩ := checks
  simpa [named] using clear

theorem guestPane (apart : s.panesApart) (h : HostNo) (tag : Byte) (named : Option HostNo) (p : PaneNo) :
    (guestPane h tag named p s).panesApart := by
  unfold Machine.guestPane
  split
  · exact apart.of_pane (by simp)
  · exact settle (of_pane (apart.changeGuest h p named) (by simp))

theorem takePaneRelease (apart : s.panesApart) (h : HostNo) (tag sel : Byte) :
    (takePaneRelease h tag sel s).panesApart := by
  refine apart.withPane _ _ _ _ _ _ fun p passes => apart.releasePane h tag p ?_
  obtain ⟨-, state, -⟩ := ownerChecks_pass _ _ _ passes
  rcases state with state | state | state <;> simp [state]

theorem takePaneAdopt (apart : s.panesApart) (h : HostNo) (tag sel : Byte) : (takePaneAdopt h tag sel s).panesApart := by
  refine apart.withPane _ _ _ _ _ _ fun p passes => of_pane (apart.setPane p (adoptedPane h (s.pane p)) fun r inP => .inl ?_)
    (by simp)
  have orphaned : (s.pane p).state = .orphaned := by
    simpa using firstFailing_none _ passes _ (List.mem_singleton.2 rfl)
  exact mem_areas.2 ⟨by simp [orphaned], .inl (by simpa [adoptedPane] using (mem_areas.1 inP).2)⟩

theorem joinLane (apart : s.panesApart) (h : HostNo) (op : CellOp) : (joinLane h op s).panesApart := by
  unfold Machine.joinLane
  split
  · exact settle (apart.of_pane (by simp))
  · exact apart.of_pane (by simp)

theorem takeStart (apart : s.panesApart) (h : HostNo) (tag : Byte) : (takeStart h tag s).panesApart := by
  unfold Machine.takeStart
  (repeat' split)
  case h_2 =>
    have entered : (enterRun s).panesApart :=
      apart.shrinks ((Shrinks.of_pane (by simp)).trans (startLatchAs_shrinks 0 _))
    exact settle (entered.of_pane (by simp))
  all_goals exact apart.of_pane (by simp)

theorem takeResetVote (apart : s.panesApart) (h : HostNo) (tag : Byte) : (takeResetVote h tag s).panesApart := by
  unfold Machine.takeResetVote
  split
  · exact judgeVote (apart.of_pane (by dsimp only; split <;> simp))
  · exact apart.of_pane (by simp)

theorem takeRequest (apart : s.panesApart) (i : Instr) : (takeRequest i s).panesApart := by
  cases i
  case attach | status =>
    exact apart.of_pane (by simp [Machine.takeRequest, attachTaken, takeAttach, statusTaken, takeStatus])
  case detach =>
    refine apart.hostCheck _ _ _ _ fun u stands => ?_
    unfold takeDetach
    split
    · exact stands.of_pane (by simp)
    · exact stands.detachHost _ _ _
  case start => exact apart.hostCheck _ _ _ _ fun u stands => stands.takeStart _ _
  case resetVote => exact apart.hostCheck _ _ _ _ fun u stands => stands.takeResetVote _ _
  case paneClaim => exact apart.hostCheck _ _ _ _ fun u stands => stands.takePaneClaim _ _ _ _ _ _
  case paneStage => exact apart.hostCheck _ _ _ _ fun u stands => stands.takePaneStage _ _ _ _ _
  case paneGuest =>
    exact apart.hostCheck _ _ _ _ fun u stands => stands.withPane _ _ _ _ _ _ fun p _ => stands.guestPane _ _ _ p
  case paneCommit =>
    exact apart.hostCheck _ _ _ _ fun u stands => stands.withPane _ _ _ _ _ _ fun p _ =>
      stands.shrinks (.of_fields (by simp) (by simp) (by simp))
  case paneRelease => exact apart.hostCheck _ _ _ _ fun u stands => stands.takePaneRelease _ _ _
  case paneAdopt => exact apart.hostCheck _ _ _ _ fun u stands => stands.takePaneAdopt _ _ _
  case paneQuery =>
    exact apart.hostCheck _ _ _ _ fun u stands => stands.withPane _ _ _ _ _ _ fun p _ => stands.of_pane (by simp)
  case cellWrite | cellFill | cellRead => exact apart.hostCheck _ _ _ _ fun u stands => stands.joinLane _ _
  case configSet =>
    exact apart.hostCheck _ _ _ _ fun u stands =>
      stands.of_pane (by unfold takeConfigSet; (repeat' split) <;> simp)
  case configGet =>
    exact apart.hostCheck _ _ _ _ fun u stands => stands.of_pane (by unfold takeConfigGet; split <;> simp)
  case faultRead =>
    exact apart.hostCheck _ _ _ _ fun u stands => stands.of_pane (by unfold takeFaultRead; (repeat' split) <;> simp)
  case faultClear =>
    exact apart.hostCheck _ _ _ _ fun u stands =>
      stands.of_pane (by unfold takeFaultClear takeFaultClearOverflow clearSlot; (repeat' split) <;> simp)
  case faultClearOverflow =>
    exact apart.hostCheck _ _ _ _ fun u stands => stands.of_pane (by simp [takeFaultClearOverflow])
  case eventFetch => exact apart.hostCheck _ _ _ _ fun u stands => stands.of_pane (by simp [takeEventFetch])
  case panelSend => exact apart.hostCheck _ _ _ _ fun u stands => stands.of_pane (by simp)
  all_goals exact apart

theorem served (apart : s.panesApart) {h : HostNo} (served : Served h s t) : t.panesApart := by
  cases served with
  | unserved => exact apart
  | dropped | answered => exact apart.of_pane (by simp)
  | taken i => exact takeRequest (apart.of_pane (by simp)) i

/-! ## Events -/

theorem presentDeasserted (apart : s.panesApart) (h : HostNo) : (presentDeasserted h s).panesApart := by
  unfold Machine.presentDeasserted
  dsimp only
  (repeat' split)
  · exact departSilently (apart.of_pane (by simp)) _ _
  all_goals exact apart.of_pane (by simp)

theorem leaseExpiry (apart : s.panesApart) (h : HostNo) : (leaseExpiry h s).panesApart := by
  unfold Machine.leaseExpiry
  split
  · exact departSilently (apart.of_pane (by simp)) _ _
  · exact apart

theorem exchangeEnd (apart : s.panesApart) (h : HostNo) (bytes : List Byte) : (exchangeEnd h bytes s).panesApart := by
  unfold Machine.exchangeEnd
  split
  · exact apart
  · exact served (apart.of_pane (by simp)) (handleFrame_served _ _ _)

theorem lineMark (apart : s.panesApart) : (lineMark s).panesApart := by
  unfold Machine.lineMark
  split
  · exact (apart.shrinks ((Shrinks.of_pane (by simp)).trans (markWork_shrinks _ _ _))).settle
  · exact apart

theorem segmentReadComplete (apart : s.panesApart) : (segmentReadComplete s).panesApart := by
  unfold Machine.segmentReadComplete
  split
  · refine settle ?_
    split
    · exact apart.shrinks ((Shrinks.of_pane (by simp)).trans (gatherSegment_shrinks _ _))
    · exact apart.of_pane (by simp)
  · exact apart

theorem writeAccessComplete (apart : s.panesApart) : (writeAccessComplete s).panesApart := by
  unfold Machine.writeAccessComplete
  split
  · refine settle ?_
    split
    · exact writeDone (apart.of_pane (by simp)) _ _
    · exact apart.of_pane (by simp)
  · exact apart

theorem readAccessComplete (apart : s.panesApart) : (readAccessComplete s).panesApart := by
  unfold Machine.readAccessComplete
  split
  · refine settle ?_
    split
    · exact readDone (apart.of_pane (by simp)) _ _
    · exact apart.of_pane (by simp)
  · exact apart

theorem exec (apart : s.panesApart) (c : Instr) (run : exec c s = .next t) : t.panesApart := by
  have next {u : State} (leaves : Host.Outcome.next u = (Host.Outcome.next t : Host.Outcome State Fault Refusal))
      (stands : u.panesApart) : t.panesApart := Host.Outcome.next.inj leaves ▸ stands
  have completed {f : State → State} (finish : completion f s = .next t) (stands : (f s).panesApart) : t.panesApart := by
    unfold completion at finish
    split at finish
    · exact next finish stands
    · cases finish
  have reset (cause : Cause) (u : State) : (partReset cause u).panesApart := by
    simp [panesApart_iff]
  cases source : requestSource c with
  | some origin =>
    obtain ⟨u, leaves, taken⟩ := exec_served c origin.1 origin.2 s source
    exact next (leaves.symm.trans run) (apart.served taken)
  | none =>
    cases c <;> simp only [requestSource, reduceCtorEq] at source
    case powerOn => exact next run (reset .power s)
    case resetPin => exact next run (reset .pin _)
    case exchangeEnd => exact next run (apart.exchangeEnd _ _)
    case hostPresentDeasserted => exact next run (apart.presentDeasserted _)
    case leaseExpiry => exact next run (apart.leaseExpiry _)
    case lineMark => exact next run apart.lineMark
    case segmentReadComplete => exact completed run apart.segmentReadComplete
    case writeAccessComplete => exact completed run apart.writeAccessComplete
    case readAccessComplete => exact completed run apart.readAccessComplete
    all_goals exact next run (apart.of_pane (by simp [presentAsserted]))

end State.panesApart
end

/-- Settles O53: rectangles are taken in by PANE_CLAIM and PANE_STAGE alone, each checked against the other panes at that
event. -/
theorem panesStayApart : Obligations.PanesStayApart := by
  unfold Obligations.PanesStayApart
  intro s t apart run
  exact step_induct State.panesApart s t run (fun _ => apart) (apart.of_pane (by simp)) fun c _ _ stands => stands.exec c

end Sys2Proof.Machine
end

section
/-! Pane requests as the Pane Manager takes them (R15): settles O26, O27 and O31. -/
namespace Sys2Proof.Machine

/-! ## A request taken -/

/-- The state in which a request of a host that speaks is taken: its lease full, its slot given (R107, R111, R126). -/
def State.received (s : State) (h : HostNo) : State := (s.heard h).slotTaken h

@[simp] theorem received_frame (s : State) (h : HostNo) :
    (∀ p, (s.received h).pane p = s.pane p) ∧ (∀ g, (s.received h).lane g = s.lane g) ∧
    (∀ g, (s.received h).queue g = s.queue g) ∧ (∀ g, (s.received h).isActive g = s.isActive g) ∧
    (s.received h).inRun = s.inRun ∧ (s.received h).conf = s.conf ∧ (s.received h).parked = s.parked ∧
    (s.received h).scan = s.scan ∧ (s.received h).store = s.store ∧ (s.received h).arbiter = s.arbiter ∧
    (s.received h).panel = s.panel ∧ (s.received h).faults = s.faults ∧ (s.received h).pending = s.pending ∧
    (s.received h).choices = s.choices ∧ (s.received h).resetPin = s.resetPin ∧
    (∀ g, ((s.received h).host g).state = (s.host g).state) ∧
    (∀ g, ((s.received h).host g).reserved = (s.host g).reserved) ∧
    (∀ g, ((s.received h).host g).budget = (s.host g).budget) ∧ (∀ g, ((s.received h).host g).vote = (s.host g).vote) ∧
    (∀ g, ((s.received h).port g).responses = (s.port g).responses) ∧
    (∀ g, ((s.received h).port g).present = (s.port g).present) ∧ (∀ g, ((s.received h).port g).drop = (s.port g).drop) ∧
    (∀ g, ((s.received h).port g).resetSeen = (s.port g).resetSeen) ∧
    (∀ g, ((s.received h).port g).lapsedSeen = (s.port g).lapsedSeen) ∧
    (∀ g, ((s.received h).port g).exchange = (s.port g).exchange) := by
  simp -implicitDefEqProofs [State.received, State.slotTaken, ← loadLease_eq]
  simp [State.inRun]

@[simp] theorem received_rectValid (s : State) (h : HostNo) (r : Rect) : (s.received h).rectValid r = s.rectValid r := by
  simp [State.rectValid]

@[simp] theorem received_overlapsPanes (s : State) (h : HostNo) (except : Option PaneNo) (r : Rect) :
    (s.received h).overlapsPanes except r = s.overlapsPanes except r := by simp [State.overlapsPanes]

/-- The answer to a request leaves nothing else of it behind (R127). -/
theorem reply_received (h : HostNo) (k : Kind) (tag : Byte) (st : Status) (pl : Payload) (s : State) :
    reply h k tag st pl (s.received h) = (s.heard h).answered h (responseTo k tag st pl) := reply_slotTaken ..

theorem reply_received_setPane (h : HostNo) (k : Kind) (tag : Byte) (st : Status) (pl : Payload) (s : State) (p : PaneNo)
    (q : Pane) : reply h k tag st pl ((s.received h).setPane p q) =
      ((s.heard h).setPane p q).answered h (responseTo k tag st pl) :=
  reply_slotTaken h k tag st pl ((s.heard h).setPane p q)

/-- The first check that fails refuses; with none the request is taken (R15). -/
theorem withPane_received (h : HostNo) (k : Kind) (tag : Byte) (p : PaneNo) (checks : PaneNo → List (Bool × Status))
    (take : PaneNo → State → State) (s : State) (run : s.inRun = true) :
    withPane h k tag (byteOf p.val) checks take (s.received h) = (firstFailing (checks p)).elim (take p (s.received h))
      fun st => (s.heard h).answered h (responseTo k tag st .empty) := by
  rw [withPane_run h k tag p checks take _ (by simpa using run)]
  cases firstFailing (checks p) with
  | none => rfl
  | some st => exact reply_received ..

@[simp] theorem firstFailing_nil_elim {α : Type} (x : α) (f : Status → α) : (firstFailing []).elim x f = x := rfl

@[simp] theorem firstFailing_cons_elim {α : Type} (fails : Bool) (st : Status) (rest : List (Bool × Status)) (x : α)
    (f : Status → α) :
    (firstFailing ((fails, st) :: rest)).elim x f = if fails = true then f st else (firstFailing rest).elim x f := by
  cases fails <;> rfl

/-! ## PANE_ADOPT and PANE_QUERY (R30, R32) -/

/-- Settles O31: each clause is the request's checks and its record. -/
theorem paneAdoptAndQuery : Obligations.PaneAdoptAndQuery := by
  unfold Obligations.PaneAdoptAndQuery
  intro s h tag p ⟨speaks, run⟩
  have adopts : exec (.paneAdopt h tag (byteOf p.val)) s = .next (takePaneAdopt h tag (byteOf p.val) (s.received h)) :=
    congrArg _ (request_speaks h .paneAdopt tag _ s speaks)
  have queries : exec (.paneQuery h tag (byteOf p.val)) s = .next (takePaneQuery h tag (byteOf p.val) (s.received h)) :=
    congrArg _ (request_speaks h .paneQuery tag _ s speaks)
  rw [adopts, queries, takePaneAdopt, takePaneQuery, withPane_received _ _ _ _ _ _ _ run,
    withPane_received _ _ _ _ _ _ _ run]
  refine ⟨fun other => by simp [adoptChecks, other], fun m r orphaned modes current => ?_, ?_⟩
  · simp [adoptChecks, orphaned, reply_received_setPane, adoptedPane, adoptAnswer, modes, current]
  · simp [reply_received]

/-! ## PANE_STAGE (R17) -/

theorem stageArgOf_named (arg : Half) (rect : Rect) :
    (stageArgOf arg rect).getD none = if arg = 0x0000#16 then some rect else none := by
  unfold stageArgOf
  (repeat' split) <;> rfl

theorem stageArgOf_isNone (arg : Half) (rect : Rect) :
    (stageArgOf arg rect).isNone = true ↔ arg ≠ 0x0000#16 ∧ arg ≠ 0x0001#16 := by
  unfold stageArgOf
  (repeat' split) <;> simp_all

theorem stagePane_received (h : HostNo) (tag : Byte) (rect : Option Rect) (p : PaneNo) (s : State) :
    stagePane h tag rect p (s.received h) =
      if paneAtWork s p = true then ((s.heard h).setPane p { s.pane p with held := some (.stage tag rect) }).slotTaken h
      else ((s.heard h).setPane p { s.pane p with staged := rect }).answered h (responseTo .paneStage tag .ok .empty) := by
  have work : paneAtWork (s.received h) p = paneAtWork s p := by simp [paneAtWork, inServiceOn]
  simp only [stagePane, work, reply_received_setPane, received_frame]
  rfl

/-- Settles O27: the checks in their order, then the pane at work or idle. -/
theorem paneStage : Obligations.PaneStage := by
  unfold Obligations.PaneStage
  intro s h tag p arg rect ⟨speaks, run⟩
  dsimp only
  have stages : exec (.paneStage h tag (byteOf p.val) arg rect) s =
      .next (takePaneStage h tag (byteOf p.val) arg rect (s.received h)) :=
    congrArg _ (request_speaks h .paneStage tag _ s speaks)
  rw [stages, takePaneStage, withPane_received _ _ _ _ _ _ _ run]
  simp only [stageChecks, ownerChecks, List.cons_append, List.nil_append, firstFailing_cons_elim, firstFailing_nil_elim,
    stageArgOf_isNone, stageArgOf_named, stagePane_received, received_frame, received_rectValid, received_overlapsPanes,
    Bool.or_eq_true, decide_eq_true_eq, ← Option.isSome_iff_ne_none]
  by_cases named : arg = 0x0000#16 <;> simp [named, paneAtWork, inServiceOn]

/-! ## PANE_CLAIM (R16) -/

theorem bufferingOf_code (b : Buffering) : bufferingOf b.code = some b := by cases b <;> decide
theorem policyOf_code (p : Policy) : policyOf p.code = some p := by cases p <;> decide
theorem displayOf_code (d : Display) : displayOf d.code = some d := by cases d <;> decide

theorem modesOf_code (b : Buffering) (p : Policy) (d : Display) : modesOf b.code p.code d.code = some ⟨b, .a, p, d⟩ := by
  simp [modesOf, bufferingOf_code, policyOf_code, displayOf_code]

theorem modesOf_none (b p d : Byte) (outside : 2 ≤ b.toNat ∨ 3 ≤ p.toNat ∨ 2 ≤ d.toNat) : modesOf b p d = none := by
  unfold modesOf
  split
  · next buffering policy display =>
    exfalso
    have two : b.toNat < 2 := by
      unfold bufferingOf at buffering; (repeat' split at buffering) <;> simp_all
    have three : p.toNat < 3 := by
      unfold policyOf at policy; (repeat' split at policy) <;> simp_all
    have two' : d.toNat < 2 := by
      unfold displayOf at display; (repeat' split at display) <;> simp_all
    omega
  · rfl

theorem lowestFree_eq_some (s : State) (n : PaneNo) (free : (s.pane n).state = .free)
    (lowest : ∀ m, m < n → (s.pane m).state ≠ .free) : lowestFree s = some n :=
  (allPanes_find?_some _ n).2 ⟨by simpa using free, fun m below => by simpa using lowest m below⟩

theorem lowestFree_eq_none (s : State) (used : ∀ n, (s.pane n).state ≠ .free) : lowestFree s = none :=
  (allPanes_find?_none _).2 fun n => by simpa using used n

theorem rectValid_iff (s : State) (r : Rect) : s.rectValid r = true ↔
    1 ≤ r.w ∧ 1 ≤ r.h ∧ r.x + r.w ≤ s.conf.settings.frameWidth ∧ r.y + r.h ≤ s.conf.settings.frameHeight := by
  simp [State.rectValid, rectValidIn, and_assoc]

/-- Rectangles that are not empty overlap just when they share a cell (R14). -/
theorem rectsOverlap_iff {r q : Rect} (wr : 1 ≤ r.w) (hr : 1 ≤ r.h) (wq : 1 ≤ q.w) (hq : 1 ≤ q.h) :
    rectsOverlap r q = true ↔ ∃ x y, rectHolds r x y = true ∧ rectHolds q x y = true := by
  constructor
  · intro meets
    simp only [rectsOverlap, Bool.and_eq_true, decide_eq_true_eq] at meets
    refine ⟨max r.x q.x, max r.y q.y, ?_, ?_⟩ <;> rw [rectHolds_iff] <;> omega
  · rintro ⟨x, y, inR, inQ⟩
    exact rectsOverlap_of_shared inR inQ

/-- A valid rectangle overlaps a pane just when it shares a cell with one of its rectangles (R3, R14). -/
theorem overlapsPanes_iff_shares (s : State) (geometry : s.geometryOk) (r : Rect) (valid : s.rectValid r = true) :
    s.overlapsPanes none r = true ↔ ∃ q a x y, (s.pane q).state ≠ .free ∧ a ∈ (s.pane q).rects ∧
      rectHolds r x y = true ∧ rectHolds a x y = true := by
  have ⟨wr, hr, _⟩ := (rectValid_iff s r).1 valid
  have placed := (placed_iff s).2 geometry
  have meets (q : PaneNo) (a : Rect) (used : (s.pane q).state ≠ .free) (inQ : a ∈ (s.pane q).rects) :
      rectsOverlap r a = true ↔ ∃ x y, rectHolds r x y = true ∧ rectHolds a x y = true := by
    have ⟨wa, ha, _⟩ := (rectValid_iff s a).1 (((placed.pane q).inside used).1 a inQ)
    exact rectsOverlap_iff wr hr wa ha
  rw [overlapsPanes_iff]
  constructor
  · rintro ⟨q, -, a, inQ, overlap⟩
    obtain ⟨used, inQ⟩ := (mem_areas_iff _ a).1 inQ
    obtain ⟨x, y, both⟩ := (meets q a used inQ).1 overlap
    exact ⟨q, a, x, y, used, inQ, both⟩
  · rintro ⟨q, a, x, y, used, inQ, both⟩
    exact ⟨q, by simp, a, (mem_areas_iff _ a).2 ⟨used, inQ⟩, (meets q a used inQ).2 ⟨x, y, both⟩⟩

/-- Settles O26: the lookups of R16 and the overlap check as shared cells. -/
theorem paneClaim : Obligations.PaneClaim := by
  unfold Obligations.PaneClaim
  intro s h tag rect ⟨speaks, run⟩ geometry
  dsimp only
  have claims (b p d : Byte) : exec (.paneClaim h tag rect b p d) s =
      .next (takePaneClaim h tag rect b p d (s.received h)) :=
    congrArg _ (request_speaks h .paneClaim tag _ s speaks)
  have lowest : lowestFree (s.received h) = lowestFree s := by simp [lowestFree]
  simp only [claims, takePaneClaim, received_frame, run, lowest, received_rectValid, received_overlapsPanes, reply_received,
    reply_received_setPane, ← rectValid_iff, Bool.not_true, Bool.false_eq_true, if_false]
  refine ⟨fun used b p d => by rw [lowestFree_eq_none s used], fun n free below => ?_⟩
  rw [lowestFree_eq_some s n free below]
  refine ⟨fun b p d outside => by rw [modesOf_none b p d outside], fun b p d => ?_⟩
  rw [modesOf_code]
  refine ⟨fun invalid => by simp [invalid], fun valid shares => ?_, fun valid clear => ?_⟩
  · simp [valid, (overlapsPanes_iff_shares s geometry rect valid).2 shares]
  · have apart : s.overlapsPanes none rect = false := by
      rw [← Bool.not_eq_true, overlapsPanes_iff_shares s geometry rect valid]
      exact clear
    simp [valid, apart, claimedPane]

end Sys2Proof.Machine
end

section
/-! What follows at once from an event (R66, R73), step by step: the service starts, then the grant decisions. -/
namespace Sys2Proof.Machine

/-! ## Event queues only grow (R143) -/

/-- Events join the tail, and the count of lost ones, which stops at 255, does not fall. -/
structure EventQueue.Grows (q r : EventQueue) : Prop where
  events : q.events <+: r.events
  lost : min q.lost 255 ≤ r.lost

theorem EventQueue.Grows.refl (q : EventQueue) : q.Grows q := ⟨List.prefix_rfl, Nat.min_le_left _ _⟩

theorem EventQueue.Grows.trans {q r u : EventQueue} (first : q.Grows r) (second : r.Grows u) : q.Grows u :=
  ⟨first.events.trans second.events, by have := first.lost; have := second.lost; omega⟩

theorem postEvent_grows (h g : HostNo) (e : Event) (s : State) : (s.queue g).Grows ((postEvent h e s).queue g) := by
  rw [postEvent_queue]
  split
  · split
    · exact ⟨List.prefix_append _ _, Nat.min_le_left _ _⟩
    · exact ⟨List.prefix_rfl, by dsimp only; omega⟩
  · exact .refl _

theorem postTo_grows (hs : List HostNo) (g : HostNo) (e : Event) (s : State) :
    (s.queue g).Grows ((postTo hs e s).queue g) :=
  forEach_induct (fun t => (s.queue g).Grows (t.queue g)) _ (fun h t grown => grown.trans (postEvent_grows h g e t)) _ _
    (.refl _)

theorem reportFault_grows (r : FaultRecord) (g : HostNo) (s : State) :
    (s.queue g).Grows ((reportFault r s).queue g) := by
  rw [reportFault_eq]
  rcases takeReport_cases (noteHosts r) r s with ⟨i, q, -, -, merged⟩ | ⟨-, i, -, -, recorded⟩ | ⟨-, counted⟩
  · rw [merged]; exact .refl _
  · rw [recorded]
    exact postTo_grows (noteHosts r) g _ (s.setFaults { s.faults with slots := s.faults.slots.set i (some r) })
  · rw [counted]; simpa using EventQueue.Grows.refl _

theorem noteBudget_grows (h g : HostNo) (p : PaneNo) (s : State) :
    (s.queue g).Grows ((noteBudget h p s).queue g) := by
  unfold noteBudget
  split
  · exact .refl _
  · exact postEvent_grows h g _ (s.setHost h _)

/-! ## The steps -/

/-- Nothing changes that a service start or a grant decision looks at; what is told joins the event queues. -/
structure Calm (s t : State) : Prop where
  pane : ∀ p, t.pane p = s.pane p
  lane : ∀ g, t.lane g = s.lane g
  parked : t.parked = s.parked
  latch : t.scan.latch = s.scan.latch
  access : t.arbiter.access = s.arbiter.access
  cells : ∀ g, (t.host g).cells = (s.host g).cells
  budget : ∀ g, (t.host g).budget = (s.host g).budget
  budgetHit : ∀ g, (t.host g).budgetHit = (s.host g).budgetHit
  queue : ∀ g, (s.queue g).Grows (t.queue g)

/-- One step of the service starts (R73 to R76). -/
inductive StartStep : State → State → Prop where
  | calm {s t : State} (same : Calm s t) : StartStep s t
  /-- A held PANE_COMMIT waits for fewer operations or is taken (R37). -/
  | hold {s : State} (p : PaneNo) (c : Option Half) (d : Option Held) (tag : Byte) (n : Nat)
      (held : (s.pane p).held = some (.commit tag n)) :
      StartStep s (s.setPane p { s.pane p with commit := c, held := d })
  /-- An offered write waits again behind the commit of a DOUBLE pane (R85). -/
  | withdraw {s : State} (h : HostNo) (v : Service) (service : (s.lane h).service = some v)
      (offered : v.access = .offered) (waits : (s.pane v.pane).writesWait = true) : StartStep s (setAccess h .made s)
  /-- The head operation is in service, its first access tested (R74, R75, R76). -/
  | begin {s : State} (h : HostNo) (op : CellOp) (rest : List CellOp) (p : PaneNo) (area : Rect) (a : AccessState)
      (idle : (s.lane h).service = none) (head : (s.lane h).queued = op :: rest)
      (passes : serviceCheck s h op = .ok (p, area)) :
      StartStep s (s.setLane h ⟨some ⟨op, p, area, area.y, area.x, a, 0, none, []⟩, rest⟩)
  /-- The head operation is refused (R74). -/
  | refuse {s : State} (h : HostNo) (op : CellOp) (rest : List CellOp) (idle : (s.lane h).service = none)
      (head : (s.lane h).queued = op :: rest) : StartStep s (s.setLane h ⟨none, rest⟩)
  /-- The budget test fails (R82). -/
  | spend {s : State} (h : HostNo) (v : Service) (reached : budgetAllows s h v.accessLen = false) :
      StartStep s (noteBudget h v.pane s)

/-- One step of the grant decisions (R66 to R69). -/
inductive GrantStep : State → State → Prop where
  | calm {s t : State} (same : Calm s t) : GrantStep s t
  /-- The latch is torn (R93). -/
  | torn {s : State} (l : Latch) (latch : s.scan.latch = some l) :
      GrantStep s (s.setScan { s.scan with latch := some { l with torn := true } })
  /-- A tear is counted on the written pane (R93). -/
  | tear {s : State} (h : HostNo) (v : Service) (service : (s.lane h).service = some v) (offered : v.access = .offered) :
      GrantStep s (s.setPane v.pane { s.pane v.pane with tears := satSucc (s.pane v.pane).tears })
  /-- A write that conflicts with the latch is parked (R94). -/
  | park {s : State} (h : HostNo) (v : Service) (l : Latch) (service : (s.lane h).service = some v)
      (offered : v.access = .offered) (conflict : conflictOf s v = some l) :
      GrantStep s (setAccess h .parked (s.setParked (s.parked ++ [parkedEntry h v])))
  /-- The latch's segment read is granted. -/
  | grantSegment {s : State} (l : Latch) (free : s.arbiter.access = none) : GrantStep s (grantSegment l s)
  /-- A read access is granted. -/
  | grantRead {s : State} (h : HostNo) (v : Service) (back : Bool) (free : s.arbiter.access = none)
      (service : (s.lane h).service = some v) (offered : v.access = .offered) (reads : v.op.writes = false) :
      GrantStep s (grantRead h v back s)
  /-- A write access is granted, to restart the latch only where it conflicts with it (R95, R100). -/
  | grantWrite {s : State} (h : HostNo) (v : Service) (restart : Option (Half × Nat)) (free : s.arbiter.access = none)
      (service : (s.lane h).service = some v) (offered : v.access = .offered)
      (plain : restart = none ∨ ∃ l, conflictOf s v = some l) : GrantStep s (grantWrite h v restart s)

abbrev Starts : State → State → Prop := Relation.ReflTransGen StartStep
abbrev Grants : State → State → Prop := Relation.ReflTransGen GrantStep

/-! ## The service starts -/

theorem Calm.refl (s : State) : Calm s s :=
  ⟨fun _ => rfl, fun _ => rfl, rfl, rfl, rfl, fun _ => rfl, fun _ => rfl, fun _ => rfl, fun _ => .refl _⟩

theorem answer_calm (h : HostNo) (r : Response) (s : State) : Calm s (answer h r s) := by
  refine ⟨?_, ?_, ?_, ?_, ?_, ?_, ?_, ?_, fun g => ?_⟩ <;> simp [EventQueue.Grows.refl]

theorem reply_calm (h : HostNo) (k : Kind) (tag : Byte) (st : Status) (pl : Payload) (s : State) :
    Calm s (reply h k tag st pl s) := answer_calm ..

theorem reportFault_calm (r : FaultRecord) (s : State) : Calm s (reportFault r s) := by
  refine ⟨?_, ?_, ?_, ?_, ?_, ?_, ?_, ?_, fun g => reportFault_grows r g s⟩ <;> simp

theorem setHost_tickets_calm (h : HostNo) (n : Half) (s : State) : Calm s (s.setHost h { s.host h with tickets := n }) := by
  refine ⟨fun _ => rfl, fun _ => rfl, rfl, rfl, rfl, fun g => ?_, fun g => ?_, fun g => ?_, fun _ => .refl _⟩ <;>
    (by_cases same : h = g <;> simp [same])

theorem Calm.starts {s t : State} (same : Calm s t) : Starts s t := .single (.calm same)
theorem Calm.grants {s t : State} (same : Calm s t) : Grants s t := .single (.calm same)

theorem withdrawOffer_starts (p : PaneNo) (h : HostNo) (s : State) (waits : (s.pane p).writesWait = true) :
    Starts s (withdrawOffer p h s) := by
  unfold withdrawOffer
  split
  · next v service =>
    split
    · next offered =>
      simp only [Bool.and_eq_true, decide_eq_true_eq] at offered
      obtain ⟨⟨rfl, -⟩, offered⟩ := offered
      exact .single (.withdraw h v service offered waits)
    · exact .refl
  · exact .refl

theorem withdrawOffers_starts (p : PaneNo) (s : State) (waits : (s.pane p).writesWait = true) :
    Starts s (forEach allHosts (withdrawOffer p) s) :=
  (forEach_induct (fun t => Starts s t ∧ (t.pane p).writesWait = true) _
    (fun h t ⟨run, waits⟩ => ⟨run.trans (withdrawOffer_starts p h t waits), by simpa using waits⟩) _ _ ⟨.refl, waits⟩).1

theorem recordCommit_starts (h : HostNo) (p : PaneNo) (s : State) (tag : Byte) (n : Nat)
    (held : (s.pane p).held = some (.commit tag n)) : Starts s (recordCommit h p s) := by
  have ticket := (setHost_tickets_calm h ((s.host h).tickets + 1) s).starts
  have taken := ticket.tail (.hold p (some (s.host h).tickets) none tag n (by simpa using held))
  unfold recordCommit
  dsimp only
  split
  · next double => exact taken.trans (withdrawOffers_starts p _ (by simpa [Pane.writesWait] using double))
  · exact taken

theorem countForCommit_starts (h : HostNo) (p : PaneNo) (s : State) : Starts s (countForCommit h p s) := by
  rcases countForCommit_cases h p s with ⟨same, -⟩ | ⟨tag, n, held, -, ⟨-, taken⟩ | ⟨-, counted⟩⟩
  · rw [same]
  · rw [taken]; exact (recordCommit_starts h p s tag n held).trans (reply_calm ..).starts
  · rw [counted]; exact .single (.hold p (s.pane p).commit _ tag n held)

theorem startOp_starts (h : HostNo) (op : CellOp) (rest : List CellOp) (s : State)
    (idle : (s.lane h).service = none) (head : (s.lane h).queued = op :: rest) (starts : headWaits s op = false) :
    Starts s (startOp h op rest s) := by
  unfold startOp
  split
  · next status _ =>
    have refused : Starts s (answer h (op.answerCount status 0) (s.setLane h ⟨none, rest⟩)) :=
      Relation.ReflTransGen.trans (.single (.refuse h op rest idle head)) (answer_calm ..).starts
    rcases reportEnd_unheld h op.pane (answer h (op.answerCount status 0) (s.setLane h ⟨none, rest⟩))
      (fun p named => by simpa using headWaits_stageHeld s op p named starts) with same | ⟨p, -, counted⟩
    · rw [same]; exact refused
    · rw [counted]; exact refused.trans (countForCommit_starts h p _)
  · next p area passes =>
    have begun (a : AccessState) : Starts s (setAccess h a
        (s.setLane h ⟨some ⟨op, p, area, area.y, area.x, .made, 0, none, []⟩, rest⟩)) := by
      simpa [setAccess] using Relation.ReflTransGen.single (StartStep.begin h op rest p area a idle head passes)
    unfold testAccess
    split
    · next gone => simp at gone
    · next v service =>
      obtain rfl : _ = v := by simpa using service
      split
      · exact begun .offered
      · split
        · exact begun _
        · next reached => exact (begun .made).tail (.spend h _ (Bool.not_eq_true _ |>.mp reached))

theorem startHead_starts (h : HostNo) (n : Nat) (s : State) : Starts s (startHead h n s) := by
  induction n generalizing s with
  | zero => exact .refl
  | succ n ih =>
    unfold startHead
    split
    · next op rest idle head =>
      split
      · exact .refl
      · next starts => exact (startOp_starts h op rest s idle head (by simpa using starts)).trans (ih _)
    · exact .refl

theorem startServices_starts (s : State) : Starts s (startServices s) :=
  forEach_induct (Starts s) _ (fun h t run => run.trans (startHead_starts h _ t)) _ _ .refl

/-! ## The grant decisions -/

theorem passGrant_grants (kind : FaultKind) (h : HostNo) (v : Service) (l : Latch) (s : State)
    (free : s.arbiter.access = none) (service : (s.lane h).service = some v) (offered : v.access = .offered)
    (latch : s.scan.latch = some l) : Grants s (passGrant kind h v l s) := by
  have torn : Grants s (s.setScan { s.scan with latch := some { l with torn := true } }) := .single (.torn l latch)
  have told := (torn.tail (.tear h v service offered)).trans (reportFault_calm (conflictFault kind h v l) _).grants
  exact told.tail (.grantWrite h v none (by simpa using free) (by simpa using service) offered (.inl rfl))

theorem parkOrPass_grants (h : HostNo) (v : Service) (l : Latch) (s : State) (free : s.arbiter.access = none)
    (service : (s.lane h).service = some v) (offered : v.access = .offered) (conflict : conflictOf s v = some l) :
    Grants s (parkOrPass h v l s) := by
  unfold parkOrPass
  split
  · have parked : Grants s (setAccess h .parked (s.setParked (s.parked ++ [parkedEntry h v]))) :=
      .single (.park h v l service offered conflict)
    exact parked.tail (.calm ⟨fun _ => rfl, fun _ => rfl, rfl, rfl, rfl, fun _ => rfl, fun _ => rfl, fun _ => rfl,
      fun _ => .refl _⟩)
  · exact passGrant_grants _ h v l s free service offered (conflictOf_latch s v l conflict)

theorem conflictOf_calm {s t : State} (same : Calm s t) (v : Service) : conflictOf t v = conflictOf s v := by
  simp only [conflictOf, same.latch, same.pane]

theorem resolveConflict_grants (h : HostNo) (v : Service) (l : Latch) (s : State) (free : s.arbiter.access = none)
    (service : (s.lane h).service = some v) (offered : v.access = .offered) (conflict : conflictOf s v = some l) :
    Grants s (resolveConflict h v l s) := by
  have latch := conflictOf_latch s v l conflict
  unfold resolveConflict
  split
  · exact passGrant_grants _ h v l s free service offered latch
  · exact parkOrPass_grants h v l s free service offered conflict
  · split
    · have told := reportFault_calm (conflictFault .relatchLimit h v l) s
      exact told.grants.trans (parkOrPass_grants h v l _ (by simpa using free) (by simpa using service) offered
        ((conflictOf_calm told v).trans conflict))
    · split
      · exact .single (.grantWrite h v _ free service offered (.inr ⟨l, conflict⟩))
      · exact parkOrPass_grants h v l s free service offered conflict

theorem serveHost_grants (h : HostNo) (s : State) (free : s.arbiter.access = none) (offered : offers s h = true) :
    Grants s (serveHost h s) := by
  unfold serveHost
  split
  · exact .refl
  · next v service =>
    have offered : v.access = .offered := by simpa [offers, service] using offered
    split
    · next body => exact .single (.grantRead h v _ free service offered (by simp [CellOp.writes, body]))
    · split
      · next l conflict => exact resolveConflict_grants h v l s free service offered conflict
      · exact .single (.grantWrite h v none free service offered (.inl rfl))

theorem arbitrate_grants (n : Nat) (s : State) : Grants s (arbitrate n s) := by
  induction n generalizing s with
  | zero => exact .refl
  | succ n ih =>
    unfold arbitrate
    split
    · exact .refl
    · next free =>
      have free : s.arbiter.access = none := by simpa using free
      split
      · exact .refl
      · split
        · exact .single (.grantSegment _ free)
        · exact .refl
      · split
        · next h next => exact (serveHost_grants h s free (nextReady_offers s h next)).trans (ih _)
        · exact .refl

/-- What follows at once from an event is service starts and then grant decisions. -/
theorem settle_steps (s : State) : ∃ u, Starts s u ∧ Grants u (settle s) := by
  unfold settle
  split
  · exact ⟨_, startServices_starts s, arbitrate_grants 5 _⟩
  · exact ⟨s, .refl, .refl⟩

theorem Starts.keeps {P : State → Prop} (kept : ∀ {s t}, P s → StartStep s t → P t) {s t : State} (run : Starts s t)
    (holds : P s) : P t := by
  induction run with
  | refl => exact holds
  | tail _ step ih => exact kept ih step

theorem Grants.keeps {P : State → Prop} (kept : ∀ {s t}, P s → GrantStep s t → P t) {s t : State} (run : Grants s t)
    (holds : P s) : P t := by
  induction run with
  | refl => exact holds
  | tail _ step ih => exact kept ih step

/-- What every service start and every grant decision keeps holds after what follows at once. -/
theorem settle_keeps {P : State → Prop} (starts : ∀ {s t}, P s → StartStep s t → P t)
    (grants : ∀ {s t}, P s → GrantStep s t → P t) (s : State) (holds : P s) : P (settle s) := by
  obtain ⟨u, started, granted⟩ := settle_steps s
  exact granted.keeps grants (started.keeps starts holds)

/-! ## What the steps do to lanes, panes and queues -/

theorem setAccess_lane (h g : HostNo) (a : AccessState) (s : State) (v : Service) (service : (s.lane h).service = some v) :
    (setAccess h a s).lane g = if h = g then { s.lane h with service := some { v with access := a } } else s.lane g := by
  rw [setAccess, State.lane_setLane, service]
  rfl

theorem grantRead_lane (h g : HostNo) (v : Service) (back : Bool) (s : State) (service : (s.lane h).service = some v) :
    (grantRead h v back s).lane g =
      if h = g then { s.lane h with service := some { v with access := .inProgress } } else s.lane g :=
  setAccess_lane h g .inProgress s v service

theorem grantWrite_lane (h g : HostNo) (v : Service) (restart : Option (Half × Nat)) (s : State)
    (service : (s.lane h).service = some v) :
    (grantWrite h v restart s).lane g =
      if h = g then { s.lane h with service := some { v with access := .inProgress } } else s.lane g :=
  setAccess_lane h g .inProgress s v service

theorem StartStep.grows {s t : State} (step : StartStep s t) (g : HostNo) : (s.queue g).Grows (t.queue g) := by
  cases step with
  | calm same => exact same.queue g
  | spend h v => exact noteBudget_grows h g v.pane s
  | hold | withdraw | begin | refuse => exact .refl _

theorem GrantStep.grows {s t : State} (step : GrantStep s t) (g : HostNo) : (s.queue g).Grows (t.queue g) := by
  cases step with
  | calm same => exact same.queue g
  | torn | tear | park | grantSegment | grantRead | grantWrite => exact .refl _

theorem settle_grows (s : State) (g : HostNo) : (s.queue g).Grows ((settle s).queue g) :=
  settle_keeps (P := fun t => (s.queue g).Grows (t.queue g)) (fun grown step => grown.trans (step.grows g))
    (fun grown step => grown.trans (step.grows g)) s (.refl _)

end Sys2Proof.Machine
end

section
/-! Work ended on one pane and the requests that end it (R20 to R24, R86, R87): settles O28 and O30. -/
namespace Sys2Proof.Machine

/-! ## The end of a host's work on one pane -/

theorem onPane_iff (op : CellOp) (p : PaneNo) : op.onPane p = true ↔ op.pane.toNat = p.val := decide_eq_true_iff

theorem onSome_singleton (p : PaneNo) : CellOp.onSome [p] = fun op => op.onPane p := by
  funext op
  simp [CellOp.onSome]

theorem endWork_singleton (p : PaneNo) (status : Status) (h : HostNo) (s : State) :
    endWork [p] status h s = takeStageIfIdle p (answerAll h (stoppedResponses s h (·.onPane p) status)
      (stopOps h (·.onPane p) (fun e => [p].contains e.pane) status s)) := by
  rw [endWork, onSome_singleton]
  rfl

theorem endWork_lane (p : PaneNo) (status : Status) (h g : HostNo) (s : State) :
    (endWork [p] status h s).lane g = if h = g then ⟨(s.lane h).service.bind (stoppedService (·.onPane p) status),
      (s.lane h).queued.filter fun op => !op.onPane p⟩ else s.lane g := by
  simp [endWork_singleton, stopOps, State.lane_setLane]

theorem endWork_parked (p : PaneNo) (status : Status) (h : HostNo) (s : State) (e : Parked) :
    e ∈ (endWork [p] status h s).parked ↔ e ∈ s.parked ∧ ¬(e.host = h ∧ e.pane = p) := by
  simp [endWork_singleton, stopOps, imp_iff_not_or]

/-- The answers of the ended operations stand behind those already queued (R24, R87). -/
theorem endWork_answers (p : PaneNo) (status : Status) (h g : HostNo) (s : State) :
    (if h = g then (s.port g).responses ++ stoppedResponses s h (·.onPane p) status else (s.port g).responses) <+:
      ((endWork [p] status h s).port g).responses := by
  have answered := (answerAll_port h g (stoppedResponses s h (·.onPane p) status)
    (stopOps h (·.onPane p) (fun e => [p].contains e.pane) status s)).1
  rw [endWork_singleton]
  exact List.IsPrefix.trans (answered ▸ List.prefix_rfl) (takeStageIfIdle_answers p g _)

/-- On a pane that holds no PANE_STAGE only the ended operations are answered, and every pane stays as it is. -/
theorem endWork_unheld (p : PaneNo) (status : Status) (h : HostNo) (s : State) (none : (s.pane p).stageHeld = false) :
    (∀ g, ((endWork [p] status h s).port g).responses =
      if h = g then (s.port g).responses ++ stoppedResponses s h (·.onPane p) status else (s.port g).responses) ∧
    ∀ q, (endWork [p] status h s).pane q = s.pane q := by
  rw [endWork_singleton, takeStageIfIdle_unheld p _ (by simpa using none)]
  exact ⟨fun g => (answerAll_port h g _ _).1, by simp⟩

/-- The answers of the operations ended, as the statements write them: the one in service that stops at once, then the queued
ones. -/
theorem stoppedResponses_onPane (s : State) (g : HostNo) (p : PaneNo) (status : Status) :
    stoppedResponses s g (·.onPane p) status =
      ((s.lane g).service.toList.filter fun v => v.op.pane.toNat = p.val ∧ v.access ≠ .inProgress).map
        (fun v => responseTo v.op.kind v.op.tag status (.count v.written))
      ++ ((s.lane g).queued.filter fun op => op.pane.toNat = p.val).map
        fun op => responseTo op.kind op.tag status (.count 0) := by
  simp only [stoppedResponses, CellOp.onPane, Service.stopsAtOnce, Bool.decide_and]
  rfl

/-! ## A pane on which a host's work has ended -/

/-- Of host `g`'s work on pane `p` at most an operation with its access in progress is left, marked with `status` (R86). -/
structure Cleared (g : HostNo) (p : PaneNo) (status : Status) (s : State) : Prop where
  queued : ∀ op ∈ (s.lane g).queued, op.onPane p = false
  parked : ∀ e ∈ s.parked, e.pane = p → e.host ≠ g
  service : ∀ v, (s.lane g).service = some v → v.op.onPane p = true → v.access = .inProgress ∧ v.stop = some status
  named : ∀ v, (s.lane g).service = some v → v.op.onPane v.pane = true

theorem Cleared.of_same {g : HostNo} {p : PaneNo} {status : Status} {s t : State} (cleared : Cleared g p status s)
    (lane : t.lane g = s.lane g) (parked : t.parked = s.parked) : Cleared g p status t :=
  ⟨by rw [lane]; exact cleared.queued, by rw [parked]; exact cleared.parked, by rw [lane]; exact cleared.service,
    by rw [lane]; exact cleared.named⟩

theorem Cleared.setLane {g : HostNo} {p : PaneNo} {status : Status} {s : State} (cleared : Cleared g p status s) (h : HostNo)
    (l : Lane) (queued : h = g → ∀ op ∈ l.queued, op.onPane p = false)
    (service : h = g → ∀ v, l.service = some v → v.op.onPane v.pane = true ∧
      (v.op.onPane p = true → v.access = .inProgress ∧ v.stop = some status)) : Cleared g p status (s.setLane h l) := by
  by_cases own : h = g
  · subst own
    refine ⟨by simpa using queued rfl, cleared.parked, fun v held => ?_, fun v held => ?_⟩
    · exact (service rfl v (by simpa using held)).2
    · exact (service rfl v (by simpa using held)).1
  · exact cleared.of_same (by simp [own]) rfl

/-- An offered access of host `g` is not on the pane. -/
theorem Cleared.not_offered {g : HostNo} {p : PaneNo} {status : Status} {s : State} (cleared : Cleared g p status s)
    (v : Service) (service : (s.lane g).service = some v) (offered : v.access = .offered) : v.op.onPane p = false := by
  rw [← Bool.not_eq_true]
  intro onPane
  simpa [offered] using (cleared.service v service onPane).1

theorem Cleared.setAccess {g : HostNo} {p : PaneNo} {status : Status} {s : State} (cleared : Cleared g p status s)
    (h : HostNo) (a : AccessState) (v : Service) (service : (s.lane h).service = some v) (offered : v.access = .offered) :
    Cleared g p status (setAccess h a s) := by
  rw [Machine.setAccess, service]
  refine cleared.setLane h _ (fun own => by subst own; exact cleared.queued) fun own w held => ?_
  subst own
  obtain rfl : { v with access := a } = w := by simpa using held
  exact ⟨cleared.named v service, fun onPane => by simp [cleared.not_offered v service offered] at onPane⟩

theorem Cleared.start {g : HostNo} {p : PaneNo} {status : Status} {s t : State} (cleared : Cleared g p status s)
    (step : StartStep s t) : Cleared g p status t := by
  cases step with
  | calm same => exact cleared.of_same (same.lane g) same.parked
  | hold => exact cleared.of_same rfl rfl
  | withdraw h v service offered => exact cleared.setAccess h .made v service offered
  | begin h op rest q area a idle head passes =>
    refine cleared.setLane h _ (fun own => ?_) fun own w held => ?_
    · subst own
      exact fun op' inRest => cleared.queued op' (by simp [head, inRest])
    · subst own
      have off := cleared.queued op (by simp [head])
      obtain rfl := Option.some.inj held
      exact ⟨(onPane_iff _ _).2 (serviceCheck_grants h op q area passes).1, fun onPane => by simp [off] at onPane⟩
  | refuse h op rest idle head =>
    refine cleared.setLane h _ (fun own => ?_) fun own w held => by cases held
    subst own
    exact fun op' inRest => cleared.queued op' (by simp [head, inRest])
  | spend => exact cleared.of_same (by simp) (by simp)

theorem Cleared.grant {g : HostNo} {p : PaneNo} {status : Status} {s t : State} (cleared : Cleared g p status s)
    (step : GrantStep s t) : Cleared g p status t := by
  cases step with
  | calm same => exact cleared.of_same (same.lane g) same.parked
  | torn | tear | grantSegment => exact cleared.of_same rfl rfl
  | park h v l service offered =>
    have listed : Cleared g p status (s.setParked (s.parked ++ [parkedEntry h v])) := by
      refine ⟨cleared.queued, fun e inList onPane => ?_, cleared.service, cleared.named⟩
      rcases List.mem_append.1 inList with before | added
      · exact cleared.parked e before onPane
      · obtain rfl := List.mem_singleton.1 added
        rintro rfl
        have named : v.op.onPane p = true := onPane ▸ cleared.named v service
        simp [cleared.not_offered v service offered] at named
    exact listed.setAccess h .parked v service offered
  | grantRead h v _ _ service offered => exact (cleared.setAccess h .inProgress v service offered).of_same rfl rfl
  | grantWrite h v _ _ service offered => exact (cleared.setAccess h .inProgress v service offered).of_same rfl rfl

theorem Cleared.settle {g : HostNo} {p : PaneNo} {status : Status} {s : State} (cleared : Cleared g p status s) :
    Cleared g p status (settle s) := settle_keeps Cleared.start Cleared.grant s cleared

/-- What a stop leaves in service is on its pane, stops with the status and has its access in progress (R86). -/
theorem stoppedService_some {p : PaneNo} {status : Status} {v w : Service}
    (stopped : stoppedService (·.onPane p) status v = some w) :
    w.op = v.op ∧ w.pane = v.pane ∧ w.access = v.access ∧ (v.op.onPane p = true → w.access = .inProgress ∧ w.stop = some status) ∧
      (v.op.onPane p = false → w = v) := by
  unfold stoppedService at stopped
  split at stopped
  · next onPane =>
    split at stopped
    · cases stopped
    · next going =>
      obtain rfl := Option.some.inj stopped
      exact ⟨rfl, rfl, rfl, fun _ => ⟨by simpa [Service.stopsAtOnce] using going, rfl⟩, fun off => by simp [onPane] at off⟩
  · next off =>
    obtain rfl := Option.some.inj stopped
    exact ⟨rfl, rfl, rfl, fun onPane => absurd onPane off, fun _ => rfl⟩

theorem endWork_service {p : PaneNo} {status : Status} {h g : HostNo} {s : State} {w : Service}
    (service : ((endWork [p] status h s).lane g).service = some w) :
    ∃ v, (s.lane g).service = some v ∧ w.op = v.op ∧ w.pane = v.pane ∧ w.access = v.access ∧
      (h = g → v.op.onPane p = true → w.access = .inProgress ∧ w.stop = some status) ∧
      ((h ≠ g ∨ v.op.onPane p = false) → w = v) := by
  rw [endWork_lane] at service
  split at service
  · next own =>
    subst own
    obtain ⟨v, held, stopped⟩ := Option.bind_eq_some_iff.1 service
    obtain ⟨op, pane, access, ends, stays⟩ := stoppedService_some stopped
    exact ⟨v, held, op, pane, access, fun _ => ends, fun off => stays (by simpa using off)⟩
  · next other => exact ⟨w, service, rfl, rfl, rfl, fun own => absurd own other, fun _ => rfl⟩

/-- The end of a host's work on a pane clears it of that work. -/
theorem endWork_cleared (g : HostNo) (p : PaneNo) (status : Status) (s : State)
    (named : ∀ v, (s.lane g).service = some v → v.op.onPane v.pane = true) : Cleared g p status (endWork [p] status g s) := by
  refine ⟨fun op inLane => ?_, fun e inList onPane own => ?_, fun w held onPane => ?_, fun w held => ?_⟩
  · rw [endWork_lane, if_pos rfl] at inLane
    simpa using (List.mem_filter.1 inLane).2
  · exact ((endWork_parked p status g s e).1 inList).2 ⟨own, onPane⟩
  · obtain ⟨v, -, op, -, -, ends, -⟩ := endWork_service held
    exact ends rfl (op ▸ onPane)
  · obtain ⟨v, before, op, pane, -⟩ := endWork_service held
    rw [op, pane]
    exact named v before

/-- The end of any host's work keeps what is cleared, and answers nothing more for it. -/
theorem Cleared.endWork {g : HostNo} {p : PaneNo} {status : Status} {s : State} (cleared : Cleared g p status s) (h : HostNo) :
    Cleared g p status (endWork [p] status h s) := by
  by_cases own : h = g
  · subst own
    exact endWork_cleared h p status s cleared.named
  · have lane : (Machine.endWork [p] status h s).lane g = s.lane g := by rw [endWork_lane, if_neg own]
    refine ⟨by rw [lane]; exact cleared.queued, fun e inList => ?_, by rw [lane]; exact cleared.service,
      by rw [lane]; exact cleared.named⟩
    exact cleared.parked e ((endWork_parked p status h s e).1 inList).1

theorem Cleared.stoppedResponses {g : HostNo} {p : PaneNo} {status : Status} {s : State} (cleared : Cleared g p status s) :
    stoppedResponses s g (·.onPane p) status = [] := by
  have noneQueued : (s.lane g).queued.filter (·.onPane p) = [] :=
    List.filter_eq_nil_iff.2 fun op inLane => by simp [cleared.queued op inLane]
  have noneServed : ((s.lane g).service.toList.filter fun v => v.op.onPane p && v.stopsAtOnce) = [] := by
    refine List.filter_eq_nil_iff.2 fun v held => ?_
    have service := cleared.service v (Option.mem_toList.1 held)
    cases onPane : v.op.onPane p <;> simp_all [Service.stopsAtOnce]
  simp [Machine.stoppedResponses, noneQueued, noneServed]

/-! ## A pane nobody may work on any more -/

/-- Pane `p` has counted `n` tears and is neither PENDING nor LIVE, and every access on it is in progress (R12, R86). -/
structure Untouched (p : PaneNo) (n : Nat) (s : State) : Prop where
  tears : (s.pane p).tears = n
  ended : (s.pane p).state ≠ .pending ∧ (s.pane p).state ≠ .live
  busy : ∀ h v, (s.lane h).service = some v → v.pane = p → v.access = .inProgress

theorem Untouched.of_same {p : PaneNo} {n : Nat} {s t : State} (untouched : Untouched p n s)
    (tears : (t.pane p).tears = (s.pane p).tears) (state : (t.pane p).state = (s.pane p).state)
    (lane : ∀ h, t.lane h = s.lane h) : Untouched p n t :=
  ⟨tears.trans untouched.tears, by rw [state]; exact untouched.ended, fun h v => by rw [lane]; exact untouched.busy h v⟩

theorem Untouched.setLane {p : PaneNo} {n : Nat} {s : State} (untouched : Untouched p n s) (h : HostNo) (l : Lane)
    (busy : ∀ v, l.service = some v → v.pane = p → v.access = .inProgress) : Untouched p n (s.setLane h l) := by
  refine ⟨untouched.tears, untouched.ended, fun g v held => ?_⟩
  by_cases own : h = g
  · subst own
    exact busy v (by simpa using held)
  · exact untouched.busy g v (by simpa [own] using held)

theorem Untouched.setAccess {p : PaneNo} {n : Nat} {s : State} (untouched : Untouched p n s) (h : HostNo)
    (a : AccessState) (v : Service) (service : (s.lane h).service = some v) (offered : v.access = .offered) :
    Untouched p n (setAccess h a s) := by
  rw [Machine.setAccess, service]
  refine untouched.setLane h _ fun w held onPane => ?_
  obtain rfl : { v with access := a } = w := by simpa using held
  simpa [offered] using untouched.busy h v service onPane

theorem Untouched.start {p : PaneNo} {n : Nat} {s t : State} (untouched : Untouched p n s) (step : StartStep s t) :
    Untouched p n t := by
  cases step with
  | calm same => exact untouched.of_same (by rw [same.pane]) (by rw [same.pane]) same.lane
  | hold q =>
    by_cases same : q = p
    · subst same
      exact untouched.of_same (by simp) (by simp) fun _ => rfl
    · exact untouched.of_same (by simp [same]) (by simp [same]) fun _ => rfl
  | withdraw h v service offered => exact untouched.setAccess h .made v service offered
  | begin h op rest q area a idle head passes =>
    refine untouched.setLane h _ fun w held onPane => ?_
    obtain rfl := Option.some.inj held
    obtain rfl : q = p := onPane
    have := (serviceCheck_grants h op q area passes).2
    have := untouched.ended
    simp_all [Pane.grants]
  | refuse h op rest idle head => exact untouched.setLane h _ fun w held => by cases held
  | spend => exact untouched.of_same (by simp) (by simp) (by simp)

theorem Untouched.grant {p : PaneNo} {n : Nat} {s t : State} (untouched : Untouched p n s) (step : GrantStep s t) :
    Untouched p n t := by
  cases step with
  | calm same => exact untouched.of_same (by rw [same.pane]) (by rw [same.pane]) same.lane
  | torn | grantSegment => exact untouched.of_same rfl rfl fun _ => rfl
  | tear h v service offered =>
    have other : v.pane ≠ p := fun onPane => by simpa [offered] using untouched.busy h v service onPane
    exact untouched.of_same (by simp [other]) (by simp [other]) fun _ => rfl
  | park h v l service offered =>
    have listed : Untouched p n (s.setParked (s.parked ++ [parkedEntry h v])) := untouched.of_same rfl rfl fun _ => rfl
    exact listed.setAccess h .parked v service offered
  | grantRead h v _ _ service offered =>
    exact (untouched.setAccess h .inProgress v service offered).of_same rfl rfl fun _ => rfl
  | grantWrite h v _ _ service offered =>
    exact (untouched.setAccess h .inProgress v service offered).of_same rfl rfl fun _ => rfl

theorem Untouched.settle {p : PaneNo} {n : Nat} {s : State} (untouched : Untouched p n s) : Untouched p n (settle s) :=
  settle_keeps Untouched.start Untouched.grant s untouched

theorem named_of_geometry {s : State} (geometry : s.geometryOk) (g : HostNo) (v : Service)
    (service : (s.lane g).service = some v) : v.op.onPane v.pane = true :=
  ((((placed_iff s).2 geometry).lane g).service v service).1

/-! ## PANE_GUEST (R20, R21) -/

theorem guestArgOf_host (g : HostNo) : guestArgOf (BitVec.ofNat 16 g.val) = some (some g) := by revert g; decide

theorem guestArgOf_isNone (arg : Half) (large : 4 ≤ arg.toNat) (other : arg ≠ 0xFFFF#16) : (guestArgOf arg).isNone = true := by
  simp [guestArgOf, other, large]

/-- The request's word for a guest names it (R20). -/
theorem guestArgOf_word (named : Option HostNo) :
    guestArgOf (match named with | none => 0xFFFF#16 | some n => BitVec.ofNat 16 n.val) = some named := by
  cases named with
  | none => rfl
  | some g => exact guestArgOf_host g

/-- A change of guest, its answer and what follows at once keep what the statements say of it. -/
theorem changeGuest_settledFrom (h : HostNo) (tag : Byte) (p : PaneNo) (named : Option HostNo) (s : State) :
    (s.setPane p { s.pane p with guest := named }).settledFrom
      (settle (reply h .paneGuest tag .ok .empty (changeGuest h p named (s.received h)))) := by
  refine settledFrom_trans (settledFrom_of_scan ?_ ?_ ?_ ?_ ?_ ?_ ?_ ?_ ?_ ?_ ?_ fun r => ?_) (settle_settledFrom _)
  case refine_12 =>
    by_cases same : p = r
    · subst same
      simp [changeGuest]
    · simp [changeGuest, same]
  all_goals simp

/-- The new guest is told (Table 2-5). -/
theorem changeGuest_granted (h : HostNo) (p : PaneNo) (g : HostNo) (s : State) (other : (s.pane p).guest ≠ some g)
    (active : s.isActive g = true) (room : (s.queue g).events.length < 8) :
    Event.guestGranted p h ∈ ((changeGuest h p (some g) s).queue g).events := by
  cases before : (s.pane p).guest with
  | none => simp [changeGuest, before, postTo, postEvent_queue, active, room]
  | some g' =>
    have differ : g' ≠ g := by simpa [before] using other
    simp [changeGuest, before, postTo, revokeGuest, postEvent_queue, active, room, differ]

/-- The former guest is told (Table 2-5). -/
theorem changeGuest_revoked (h : HostNo) (p : PaneNo) (named : Option HostNo) (g : HostNo) (s : State)
    (before : (s.pane p).guest = some g) (active : s.isActive g = true) (room : (s.queue g).events.length < 8) :
    Event.guestRevoked p h (if named = none then .withdrawn else .replaced) ∈
      ((changeGuest h p named s).queue g).events := by
  simp only [changeGuest, before, Option.toList_some, forEach_cons, forEach_nil]
  refine (postTo_grows _ g _ _).events.subset ?_
  cases named <;> simp [revokeGuest, postEvent_queue, active, room]

/-- The former guest's work on the pane has ended, answered REVOKED (R21, R87). -/
theorem changeGuest_cleared (h : HostNo) (p : PaneNo) (named : Option HostNo) (g : HostNo) (s : State)
    (before : (s.pane p).guest = some g) (onTheirs : ∀ v, (s.lane g).service = some v → v.op.onPane v.pane = true) :
    Cleared g p .revoked (changeGuest h p named s) ∧
      ∀ r ∈ stoppedResponses s g (·.onPane p) .revoked, r ∈ ((changeGuest h p named s).port g).responses := by
  have ended := endWork_cleared g p .revoked (s.setPane p { s.pane p with guest := named }) onTheirs
  have answers := endWork_answers p .revoked g g (s.setPane p { s.pane p with guest := named })
  simp only [changeGuest, before, Option.toList_some, forEach_cons, forEach_nil]
  refine ⟨ended.of_same (by simp [revokeGuest]) (by simp [revokeGuest]), fun r answered => ?_⟩
  have placed := answers.subset (show r ∈ _ by rw [if_pos rfl]; exact List.mem_append_right _ answered)
  simpa [revokeGuest] using placed

/-- The checks of PANE_GUEST for the owner of a LIVE pane: the argument names "none" or another ACTIVE host (R20). -/
theorem guestChecks_pass (h : HostNo) (p : PaneNo) (named : Option HostNo) (s : State) (owner : (s.pane p).owner = some h)
    (live : (s.pane p).state = .live) (ok : ∀ g, named = some g → g ≠ h ∧ s.isActive g = true) (arg : Half)
    (word : guestArgOf arg = some named) : firstFailing (guestChecks h arg s p) = none := by
  have good : named.any (badGuest s (s.pane p)) = false := by
    cases named with
    | none => rfl
    | some g =>
      obtain ⟨other, active⟩ := ok g rfl
      simp [badGuest, owner, active, other.symm]
  simp [guestChecks, ownerChecks, owner, live, word, good, firstFailing]

/-- Settles O28: the checks in their order, then the change of guest and what follows at once. -/
theorem paneGuest : Obligations.PaneGuest := by
  unfold Obligations.PaneGuest
  intro s h tag p ⟨speaks, run⟩ geometry
  dsimp only
  have guests (arg : Half) : exec (.paneGuest h tag (byteOf p.val) arg) s =
      .next (takePaneGuest h tag (byteOf p.val) arg (s.received h)) :=
    congrArg _ (request_speaks h .paneGuest tag _ s speaks)
  simp only [takePaneGuest, withPane_received _ _ _ _ _ _ _ run] at guests
  refine ⟨fun state arg => ?_, fun used owned other arg => ?_, fun owner state arg => ?_, fun owner live => ⟨?_, ?_, ?_⟩⟩
  · simp [guests, guestChecks, ownerChecks, state]
  · simp [guests, guestChecks, ownerChecks, used, owned, other]
  · rcases state with state | state <;> simp [guests, guestChecks, ownerChecks, owner, state]
  · intro arg large other
    simp [guests, guestChecks, ownerChecks, owner, live, guestArgOf_isNone arg large other]
  · intro g bad
    have bad : h = g ∨ s.isActive g = false := bad.imp_left Eq.symm
    simp [guests, guestChecks, ownerChecks, owner, live, guestArgOf_host, badGuest, bad]
  · intro named ok
    have takes (arg : Half) (word : guestArgOf arg = some named) :
        exec (.paneGuest h tag (byteOf p.val) arg) s = .next (guestPane h tag named p (s.received h)) := by
      rw [guests, guestChecks_pass h p named (s.received h) (by simpa using owner) (by simpa using live) (by simpa using ok)
        arg word, word]
      rfl
    refine ⟨fun same => (takes _ (guestArgOf_word named)).trans ?_, fun other =>
      ⟨_, (takes _ (guestArgOf_word named)).trans (congrArg _ (if_neg (by simpa using other))), ?_⟩⟩
    · rw [guestPane, if_pos (by simpa using same), reply_received]
    refine ⟨changeGuest_settledFrom h tag p named s, ?_, ?_, ?_⟩
    · refine ((settle_settles _).answers h).subset ?_
      simp [reply_responses]
    · rintro g rfl room
      refine (settle_grows _ g).events.subset ?_
      simpa using changeGuest_granted h p g (s.received h) (by simpa using other) (by simpa using (ok g rfl).2) (by simpa using room)
    · intro g before _
      have service (v : Service) (held : ((s.received h).lane g).service = some v) : v.op.onPane v.pane = true :=
        named_of_geometry geometry g v (by simpa using held)
      obtain ⟨cleared, answers⟩ := changeGuest_cleared h p named g (s.received h) (by simpa using before) service
      have settled : Cleared g p .revoked (settle (reply h .paneGuest tag .ok .empty (changeGuest h p named (s.received h)))) :=
        (cleared.of_same (by simp) (by simp)).settle
      have answered (r : Response) (ended : r ∈ stoppedResponses (s.received h) g (·.onPane p) .revoked) :
          r ∈ ((settle (reply h .paneGuest tag .ok .empty (changeGuest h p named (s.received h)))).port g).responses := by
        refine ((settle_settles _).answers g).subset ?_
        rw [reply_responses]
        split
        · exact List.mem_append_left _ (answers r ended)
        · exact answers r ended
      simp only [stoppedResponses_onPane, received_frame, List.mem_append, List.mem_map, List.mem_filter,
        Option.mem_toList, decide_eq_true_eq] at answered
      refine ⟨fun op inLane onPane => ?_, settled.parked, fun v held onPane => ?_, fun op inLane onPane => ?_,
        fun v held onPane going => ?_, fun active room => ?_⟩
      · simpa [(onPane_iff op p).2 onPane] using settled.queued op inLane
      · exact settled.service v held ((onPane_iff v.op p).2 onPane)
      · exact answered _ (.inr ⟨op, ⟨inLane, onPane⟩, rfl⟩)
      · exact answered _ (.inl ⟨v, ⟨held, onPane, going⟩, rfl⟩)
      · refine (settle_grows _ g).events.subset ?_
        simpa using changeGuest_revoked h p named g (s.received h) (by simpa using before) (by simpa using active)
          (by simpa using room)

/-! ## PANE_RELEASE (R22, R23, R24) -/

theorem Pane.eq_but_tears {q r : Pane} (state : r.state = q.state) (owner : r.owner = q.owner) (former : r.former = q.former)
    (guest : r.guest = q.guest) (current : r.current = q.current) (staged : r.staged = q.staged) (modes : r.modes = q.modes)
    (commit : r.commit = q.commit) (held : r.held = q.held) : r = { q with tears := r.tears } := by
  obtain ⟨⟩ := q
  obtain ⟨⟩ := r
  simp_all

/-- What follows at once leaves the record of a pane that holds no PANE_COMMIT, its tear count aside. -/
theorem settle_pane_unheld (s : State) (p : PaneNo) (unheld : ∀ tag n, (s.pane p).held ≠ some (.commit tag n)) :
    (settle s).pane p = { s.pane p with tears := ((settle s).pane p).tears } := by
  have settles := settle_settles s
  obtain ⟨held, commit⟩ := settles.settled p unheld
  exact Pane.eq_but_tears (by simp) (by simp) (by simp) (by simp) (by simp) (settles.staged p) (by simp) commit held

theorem releasedPane_held (q : Pane) : (releasedPane q).held = none := by
  unfold releasedPane
  split <;> rfl

/-- A release up to the end of the owner's work: the record, the held request, the owner's operations (R22 to R24). -/
def releaseOwned (h : HostNo) (p : PaneNo) (s : State) : State :=
  endWork [p] .cancelled h (answerAll h ((s.pane p).held.toList.map cancelledHeld) (s.setPane p (releasedPane (s.pane p))))

/-- A release up to its event and its own OK, the guest's work ended too. -/
def releaseEnded (h : HostNo) (p : PaneNo) (s : State) : State :=
  forEach (s.pane p).guest.toList (endWork [p] .cancelled) (releaseOwned h p s)

theorem releasePane_eq (h : HostNo) (tag : Byte) (p : PaneNo) (s : State) :
    releasePane h tag p s = settle (reply h .paneRelease tag .ok (.released (s.pane p).commit)
      (postTo (s.pane p).guest.toList (.guestRevoked p h .released) (releaseEnded h p s))) := rfl

section
variable (h : HostNo) (p : PaneNo) (s : State)

theorem releaseOwned_spec : (∀ q, (releaseOwned h p s).pane q = (s.setPane p (releasedPane (s.pane p))).pane q) ∧
    ∀ g, ((releaseOwned h p s).port g).responses = if h = g then (s.port g).responses ++
      (s.pane p).held.toList.map cancelledHeld ++ stoppedResponses s h (·.onPane p) .cancelled else (s.port g).responses := by
  obtain ⟨answers, panes⟩ := endWork_unheld p .cancelled h
    (answerAll h ((s.pane p).held.toList.map cancelledHeld) (s.setPane p (releasedPane (s.pane p))))
    (by simp [Pane.stageHeld, releasedPane_held])
  refine ⟨fun q => by rw [releaseOwned, panes]; simp, fun g => ?_⟩
  rw [releaseOwned, answers, (answerAll_port h g _ _).1]
  split
  · simp [stoppedResponses]
  · rfl

theorem releaseOwned_lane (g : HostNo) (other : h ≠ g) : (releaseOwned h p s).lane g = s.lane g := by
  simp [releaseOwned, endWork_lane, other]

theorem releaseOwned_service (g : HostNo) (w : Service) (service : ((releaseOwned h p s).lane g).service = some w) :
    ∃ v, (s.lane g).service = some v ∧ w.op = v.op ∧ w.pane = v.pane := by
  obtain ⟨v, held, op, pane, -⟩ := endWork_service service
  exact ⟨v, by simpa using held, op, pane⟩

/-- The record is released, and no other pane changes. -/
theorem releaseEnded_pane (q : PaneNo) : (releaseEnded h p s).pane q = (s.setPane p (releasedPane (s.pane p))).pane q := by
  have owned := (releaseOwned_spec h p s).1
  rw [releaseEnded]
  cases (s.pane p).guest with
  | none => exact owned q
  | some g =>
    rw [Option.toList_some, forEach_cons, forEach_nil,
      (endWork_unheld p .cancelled g _ (by simp [owned, Pane.stageHeld, releasedPane_held])).2, owned]

/-- The guest's answers. -/
theorem releaseEnded_guest (g : HostNo) (guest : (s.pane p).guest = some g) (other : h ≠ g) :
    ((releaseEnded h p s).port g).responses = (s.port g).responses ++ stoppedResponses s g (·.onPane p) .cancelled := by
  obtain ⟨panes, answers⟩ := releaseOwned_spec h p s
  rw [releaseEnded, guest, Option.toList_some, forEach_cons, forEach_nil,
    (endWork_unheld p .cancelled g _ (by simp [panes, Pane.stageHeld, releasedPane_held])).1, answers, if_pos rfl,
    if_neg other, stoppedResponses, releaseOwned_lane h p s g other]
  rfl

variable (named : ∀ g v, (s.lane g).service = some v → v.op.onPane v.pane = true)
include named

theorem releaseOwned_named (g : HostNo) (w : Service) (service : ((releaseOwned h p s).lane g).service = some w) :
    w.op.onPane w.pane = true := by
  obtain ⟨v, held, op, pane⟩ := releaseOwned_service h p s g w service
  rw [op, pane]
  exact named g v held

theorem releaseOwned_cleared : Cleared h p .cancelled (releaseOwned h p s) :=
  endWork_cleared h p .cancelled _ fun v service => named h v (by simpa using service)

/-- The owner's and the guest's work on the pane has ended (R23). -/
theorem releaseEnded_cleared (g : HostNo) (worked : g = h ∨ (s.pane p).guest = some g) :
    Cleared g p .cancelled (releaseEnded h p s) := by
  rw [releaseEnded]
  rcases worked with rfl | guest
  · cases (s.pane p).guest with
    | none => exact releaseOwned_cleared g p s named
    | some k =>
      rw [Option.toList_some, forEach_cons, forEach_nil]
      exact (releaseOwned_cleared g p s named).endWork k
  · rw [guest, Option.toList_some, forEach_cons, forEach_nil]
    exact endWork_cleared g p .cancelled _ (releaseOwned_named h p s named g)

/-- The owner's answers, in R24's order. -/
theorem releaseEnded_owner : ((releaseEnded h p s).port h).responses = (s.port h).responses ++
    (s.pane p).held.toList.map cancelledHeld ++ stoppedResponses s h (·.onPane p) .cancelled := by
  obtain ⟨panes, answers⟩ := releaseOwned_spec h p s
  rw [releaseEnded]
  cases (s.pane p).guest with
  | none => exact (answers h).trans (if_pos rfl)
  | some g =>
    rw [Option.toList_some, forEach_cons, forEach_nil,
      (endWork_unheld p .cancelled g _ (by simp [panes, Pane.stageHeld, releasedPane_held])).1, answers, if_pos rfl]
    split
    · next own =>
      subst own
      rw [(releaseOwned_cleared g p s named).stoppedResponses, List.append_nil]
    · rfl

/-- Nobody may work on the pane any more, so its tear count stands (R12). -/
theorem releaseEnded_untouched (work : s.workOk) (owner : (s.pane p).owner = some h) :
    Untouched p (s.pane p).tears (releaseEnded h p s) := by
  have record := releaseEnded_pane h p s p
  rw [State.pane_setPane_same] at record
  refine ⟨?_, ?_, fun k w service onPane => ?_⟩
  · rw [record, releasedPane]; split <;> rfl
  · rw [record, releasedPane]; split <;> simp [Pane.free, retiringPane]
  · by_cases worked : k = h ∨ (s.pane p).guest = some k
    · have cleared := releaseEnded_cleared h p s named k worked
      exact (cleared.service w service (onPane ▸ cleared.named w service)).1
    · have lane : (releaseEnded h p s).lane k = s.lane k := by
        rw [releaseEnded]
        cases guest : (s.pane p).guest with
        | none => exact releaseOwned_lane h p s k (by tauto)
        | some g =>
          rw [Option.toList_some, forEach_cons, forEach_nil, endWork_lane, if_neg (by rw [guest] at worked; simp_all)]
          exact releaseOwned_lane h p s k (by tauto)
      rw [lane] at service
      obtain ⟨-, stopping, rights⟩ := work k w service
      refine stopping ?_
      cases stop : w.stop with
      | some _ => rfl
      | none =>
        exfalso
        rw [onPane, owner] at rights
        rcases rights stop with ⟨owns, -⟩ | ⟨guest, -⟩
        · exact worked (.inl (by simpa using owns.symm))
        · exact worked (.inr guest)

end

/-- Of the rest a release and what follows at once keep what the statements say. -/
theorem releasePane_settledFrom (h : HostNo) (tag : Byte) (p : PaneNo) (s : State) (q : Pane)
    (released : (q.state = (releasedPane (s.pane p)).state ∧ q.owner = (releasedPane (s.pane p)).owner ∧
      q.former = (releasedPane (s.pane p)).former ∧ q.guest = (releasedPane (s.pane p)).guest ∧
      q.current = (releasedPane (s.pane p)).current ∧ q.modes = (releasedPane (s.pane p)).modes)) :
    (s.setPane p q).settledFrom (releasePane h tag p (s.received h)) := by
  rw [releasePane_eq]
  refine settledFrom_trans (settledFrom_of_scan ?_ ?_ ?_ ?_ ?_ ?_ ?_ ?_ ?_ ?_ ?_ fun r => ?_) (settle_settledFrom _)
  case refine_12 =>
    by_cases same : p = r
    · subst same
      simp [releaseEnded_pane, released]
    · simp [releaseEnded_pane, same]
  all_goals simp [releaseEnded, releaseOwned]

/-- The answer of a cancelled held request, as the statements write it (R24). -/
theorem cancelledHeld_toList (held : Option Held) : held.toList.map cancelledHeld = match held with
    | some (.stage t _) => [responseTo .paneStage t .cancelled .empty]
    | some (.commit t _) => [responseTo .paneCommit t .cancelled .empty]
    | none => [] := by
  cases held with
  | none => rfl
  | some request => cases request <;> rfl

/-- The guest is told that the pane is released. -/
theorem releasePane_told (h : HostNo) (tag : Byte) (p : PaneNo) (g : HostNo) (s : State) (guest : (s.pane p).guest = some g)
    (active : s.isActive g = true) (room : (s.queue g).events.length < 8) :
    Event.guestRevoked p h .released ∈ ((releasePane h tag p s).queue g).events := by
  rw [releasePane_eq]
  refine (settle_grows _ g).events.subset ?_
  simp [guest, postTo, postEvent_queue, active, room, releaseEnded, releaseOwned]

/-- The answers of the owner and of the guest stand first, in R24's order; then what follows at once answers. -/
theorem releasePane_answers (h : HostNo) (tag : Byte) (p : PaneNo) (s : State) (g : HostNo) (rs : List Response)
    (ended : ((releaseEnded h p s).port g).responses = rs) : ∃ more, ((releasePane h tag p s).port g).responses =
      rs ++ (if h = g then [responseTo .paneRelease tag .ok (.released (s.pane p).commit)] else []) ++ more := by
  obtain ⟨more, answers⟩ := (settle_settles (reply h .paneRelease tag .ok (.released (s.pane p).commit)
    (postTo (s.pane p).guest.toList (.guestRevoked p h .released) (releaseEnded h p s)))).answers g
  refine ⟨more, ?_⟩
  rw [releasePane_eq, ← answers, reply_responses]
  split <;> simp [ended]

theorem Cleared.released {h g : HostNo} {p : PaneNo} {s : State} (tag : Byte)
    (cleared : Cleared g p .cancelled (releaseEnded h p s)) : Cleared g p .cancelled (releasePane h tag p s) := by
  rw [releasePane_eq]
  exact (cleared.of_same (by simp) (by simp)).settle

theorem Untouched.released {h : HostNo} {p : PaneNo} {n : Nat} {s : State} (tag : Byte)
    (untouched : Untouched p n (releaseEnded h p s)) : Untouched p n (releasePane h tag p s) := by
  rw [releasePane_eq]
  exact (untouched.of_same (by simp) (by simp) (by simp)).settle

/-- The released record after what follows at once: its tear count aside, it is as R22 makes it. -/
theorem releasePane_record (h : HostNo) (tag : Byte) (p : PaneNo) (s : State) : (releasePane h tag p s).pane p =
    { releasedPane (s.pane p) with tears := ((releasePane h tag p s).pane p).tears } := by
  have record : (reply h .paneRelease tag .ok (.released (s.pane p).commit)
      (postTo (s.pane p).guest.toList (.guestRevoked p h .released) (releaseEnded h p s))).pane p =
      releasedPane (s.pane p) := by simp [releaseEnded_pane]
  rw [releasePane_eq]
  conv_lhs => rw [settle_pane_unheld _ p (by rw [record, releasedPane_held]; simp)]
  rw [record]

/-- Settles O30: the checks in their order, then the release and what follows at once. -/
theorem paneRelease : Obligations.PaneRelease := by
  unfold Obligations.PaneRelease
  intro s h tag p ⟨speaks, run⟩ geometry
  dsimp only
  have releases : exec (.paneRelease h tag (byteOf p.val)) s =
      .next (takePaneRelease h tag (byteOf p.val) (s.received h)) :=
    congrArg _ (request_speaks h .paneRelease tag _ s speaks)
  rw [releases, takePaneRelease, withPane_received _ _ _ _ _ _ _ run]
  simp only [releaseChecks, ownerChecks, List.cons_append, List.nil_append, firstFailing_cons_elim, firstFailing_nil_elim,
    received_frame]
  refine ⟨fun state => by simp [state], fun used owned other => by simp [used, owned, other], fun owner state => by
    simp [owner, state], fun owner state => ?_⟩
  have passes : ¬(s.pane p).state = .free ∧ ¬(s.pane p).state = .orphaned ∧ ¬(s.pane p).state = .retiring := by
    rcases state with state | state <;> simp [state]
  refine ⟨releasePane h tag p (s.received h), by simp [owner, passes], fun work => ?_, fun pending => ?_, fun live => ?_,
    ?_, fun g worked => ?_, fun g guest other => ?_⟩
  all_goals have named (g : HostNo) (v : Service) (service : ((s.received h).lane g).service = some v) :
    v.op.onPane v.pane = true := named_of_geometry geometry g v (by simpa using service)
  · have untouched := releaseEnded_untouched h p (s.received h) named (by simpa [State.workOk] using work) (by simpa using owner)
    simpa using (untouched.released tag).tears
  · have record := releasePane_record h tag p (s.received h)
    exact ⟨by simpa [releasedPane, pending, Pane.free] using record,
      releasePane_settledFrom h tag p s _ (by simp [releasedPane, pending])⟩
  · have record := releasePane_record h tag p (s.received h)
    refine ⟨?_, ?_, ?_, releasePane_settledFrom h tag p s _ (by simp [releasedPane, live, retiringPane])⟩ <;>
      rw [record] <;> simp [releasedPane, live, retiringPane]
  · obtain ⟨more, answers⟩ := releasePane_answers h tag p (s.received h) h _ (releaseEnded_owner h p (s.received h) named)
    rw [stoppedResponses_onPane, cancelledHeld_toList] at answers
    simp only [received_frame, if_true, List.append_assoc, List.singleton_append] at answers
    refine ⟨more, ?_⟩
    simp only [List.append_assoc]
    exact answers
  · have cleared := (releaseEnded_cleared h p (s.received h) named g (by simpa using worked)).released tag
    refine ⟨fun op inLane onPane => ?_, cleared.parked, fun v held onPane => ?_⟩
    · simpa [(onPane_iff op p).2 onPane] using cleared.queued op inLane
    · exact cleared.service v held ((onPane_iff v.op p).2 onPane)
  · obtain ⟨more, answers⟩ := releasePane_answers h tag p (s.received h) g _
      (releaseEnded_guest h p (s.received h) g (by simpa using guest) other.symm)
    rw [stoppedResponses_onPane] at answers
    refine ⟨⟨more, by simpa [other.symm] using answers⟩, fun active room => ?_⟩
    exact releasePane_told h tag p g (s.received h) (by simpa using guest) (by simpa using active) (by simpa using room)

end Sys2Proof.Machine
end

section
/-! The Parked List's release and the frame boundary, and what they leave (R43 to R47, R83, R97, R98, R102). -/
namespace Sys2Proof.Machine

/-! ## Turns -/

/-- What one turn brings about and every turn keeps holds after the turns. -/
theorem forEach_reaches {α : Type} {P Q : State → Prop} {hit : α → Prop} {f : α → State → State}
    (before : ∀ a t, P t → ¬hit a → P (f a t)) (hits : ∀ a t, P t → hit a → Q (f a t)) (after : ∀ a t, Q t → Q (f a t))
    (l : List α) (s : State) (start : P s) (met : ∃ a ∈ l, hit a) : Q (forEach l f s) := by
  induction l generalizing s with
  | nil => simp at met
  | cons a l ih =>
    rw [forEach_cons]
    by_cases hitA : hit a
    · exact forEach_induct Q f after l _ (hits a s start hitA)
    · refine ih _ (before a s start hitA) ?_
      obtain ⟨b, inList, hitB⟩ := met
      rcases List.mem_cons.1 inList with rfl | later
      · exact absurd hitB hitA
      · exact ⟨b, later, hitB⟩

/-! ## Tests of accesses (R76, R81, R85) -/

theorem noteBudget_lane (h g : HostNo) (p : PaneNo) (s : State) : (noteBudget h p s).lane g = s.lane g := by simp

/-- A test leaves the access OFFERED or MADE. -/
theorem testAccess_service (h : HostNo) (s : State) (v : Service) (service : (s.lane h).service = some v) :
    ∃ a, (a = AccessState.made ∨ a = .offered) ∧ ((testAccess h s).lane h).service = some { v with access := a } := by
  have set (a : AccessState) : ((setAccess h a s).lane h).service = some { v with access := a } := by
    rw [setAccess_lane h h a s v service, if_pos rfl]
  unfold testAccess
  simp only [service]
  split
  · exact ⟨.offered, .inr rfl, set _⟩
  · split
    · refine ⟨_, ?_, set _⟩
      split
      · exact .inl rfl
      · exact .inr rfl
    · exact ⟨.made, .inl rfl, by rw [noteBudget_lane]; exact set _⟩

theorem testAccess_other (h g : HostNo) (s : State) (other : h ≠ g) : (testAccess h s).lane g = s.lane g := by
  unfold testAccess
  (repeat' split) <;> simp [setAccess, other]

theorem testAccess_grows (h g : HostNo) (s : State) : (s.queue g).Grows ((testAccess h s).queue g) := by
  unfold testAccess
  split
  · exact .refl _
  · next v _ =>
    have set (a : AccessState) : (s.queue g).Grows ((setAccess h a s).queue g) := by simpa using EventQueue.Grows.refl _
    split
    · exact set _
    · split
      · exact set _
      · exact (set .made).trans (noteBudget_grows h g v.pane _)

/-- No cell is charged, no budget is hit and no commit waits: every test passes. -/
structure Fresh (s : State) : Prop where
  cells : ∀ g, (s.host g).cells = 0
  budgetHit : ∀ g, (s.host g).budgetHit = false
  commit : ∀ p, (s.pane p).commit = none

theorem Fresh.of_same {s t : State} (fresh : Fresh s) (host : ∀ g, (t.host g).cells = (s.host g).cells ∧
    (t.host g).budgetHit = (s.host g).budgetHit) (commit : ∀ p, (t.pane p).commit = (s.pane p).commit) : Fresh t :=
  ⟨fun g => (host g).1.trans (fresh.cells g), fun g => (host g).2.trans (fresh.budgetHit g),
    fun p => (commit p).trans (fresh.commit p)⟩

/-- A budget of which nothing is spent allows every access (R81). -/
theorem budgetAllows_unspent (s : State) (h : HostNo) (v : Service) (unspent : (s.host h).cells = 0) :
    budgetAllows s h v.accessLen = true := by
  have short : v.accessLen ≤ 64 := Nat.min_le_left _ _
  simp only [budgetAllows, unspent, Config.accessCells, Bool.or_eq_true, decide_eq_true_eq]
  omega

theorem testAccess_fresh (h : HostNo) (s : State) (v : Service) (service : (s.lane h).service = some v) (fresh : Fresh s) :
    testAccess h s = setAccess h .offered s := by
  simp [testAccess, service, budgetAllows_unspent s h v (fresh.cells h), Pane.writesWait, fresh.commit]

theorem setAccess_fresh (h : HostNo) (a : AccessState) (s : State) (fresh : Fresh s) : Fresh (setAccess h a s) :=
  fresh.of_same (by simp) (by simp)

/-! ## The Parked List's release (R97, R98, R102) -/

theorem releaseEntry_cases (e : Parked) (s : State) : releaseEntry e s = s ∨
    ∃ v, (s.lane e.host).service = some v ∧ v.access = .parked ∧ releaseEntry e s = testAccess e.host s := by
  unfold releaseEntry
  split
  · next v service =>
    split
    · next parked => exact .inr ⟨v, service, parked, rfl⟩
    · exact .inl rfl
  · exact .inl rfl

theorem releaseEntry_parked (e : Parked) (s : State) (v : Service) (service : (s.lane e.host).service = some v)
    (parked : v.access = .parked) : releaseEntry e s = testAccess e.host s := by
  simp [releaseEntry, service, parked]

theorem releaseEntry_keeps (e : Parked) (s : State) (g : HostNo) (v : Service) (service : (s.lane g).service = some v)
    (kept : v.access ≠ .parked ∨ e.host ≠ g) : ((releaseEntry e s).lane g).service = some v := by
  rcases releaseEntry_cases e s with same | ⟨w, held, parked, tested⟩
  · rw [same, service]
  · have other : e.host ≠ g := by
      rintro rfl
      obtain rfl : v = w := by simpa [service] using held
      simp [parked] at kept
    rw [tested, testAccess_other _ _ _ other, service]

theorem releaseEntry_bare (e : Parked) (s : State) (g : HostNo) :
    ((releaseEntry e s).lane g).service.map Service.bare = (s.lane g).service.map Service.bare := by
  rcases releaseEntry_cases e s with same | ⟨-, -, -, tested⟩
  · rw [same]
  · rw [tested, testAccess_bare]

theorem releaseEntry_grows (e : Parked) (g : HostNo) (s : State) : (s.queue g).Grows ((releaseEntry e s).queue g) := by
  rcases releaseEntry_cases e s with same | ⟨-, -, -, tested⟩
  · rw [same]; exact .refl _
  · rw [tested]; exact testAccess_grows ..

theorem releaseEntry_fresh (e : Parked) (s : State) (fresh : Fresh s) : Fresh (releaseEntry e s) := by
  rcases releaseEntry_cases e s with same | ⟨v, service, -, tested⟩
  · rwa [same]
  · rw [tested, testAccess_fresh _ s v service fresh]; exact setAccess_fresh _ _ _ fresh

theorem releaseParked_list (s : State) : (releaseParked s).parked = [] :=
  forEach_induct (fun t => t.parked = []) _ (fun e t empty => by simpa using empty) _ _ rfl

theorem releaseParked_bare (s : State) (g : HostNo) :
    ((releaseParked s).lane g).service.map Service.bare = (s.lane g).service.map Service.bare :=
  forEach_induct (fun t => (t.lane g).service.map Service.bare = (s.lane g).service.map Service.bare) _
    (fun e t same => (releaseEntry_bare e t g).trans same) _ _ rfl

theorem releaseParked_grows (s : State) (g : HostNo) : (s.queue g).Grows ((releaseParked s).queue g) :=
  forEach_induct (fun t => (s.queue g).Grows (t.queue g)) _ (fun e t grown => grown.trans (releaseEntry_grows e g t)) _ _
    (.refl _)

theorem releaseParked_fresh (s : State) (fresh : Fresh s) : Fresh (releaseParked s) :=
  forEach_induct Fresh _ releaseEntry_fresh _ _ (fresh.of_same (fun _ => ⟨rfl, rfl⟩) fun _ => rfl)

/-- The release leaves an access that is not parked. -/
theorem releaseParked_keeps (s : State) (g : HostNo) (v : Service) (service : (s.lane g).service = some v)
    (unparked : v.access ≠ .parked) : ((releaseParked s).lane g).service = some v :=
  forEach_induct (fun t => (t.lane g).service = some v) _
    (fun e t held => releaseEntry_keeps e t g v held (.inl unparked)) _ _ service

/-- A released access is OFFERED or MADE (R102). -/
theorem releaseParked_tests (s : State) (e : Parked) (inList : e ∈ s.parked) (v : Service)
    (service : (s.lane e.host).service = some v) (parked : v.access = .parked) :
    ∃ a, (a = AccessState.made ∨ a = .offered) ∧
      ((releaseParked s).lane e.host).service = some { v with access := a } := by
  refine forEach_reaches (P := fun t => (t.lane e.host).service = some v)
    (Q := fun t => ∃ a, (a = AccessState.made ∨ a = .offered) ∧ (t.lane e.host).service = some { v with access := a })
    (hit := fun x : Parked => x.host = e.host) (fun x t held other => releaseEntry_keeps x t _ v held (.inr other))
    (fun x t held own => ?_) (fun x t ⟨a, ready, held⟩ => ?_) _ _ service ⟨e, inList, rfl⟩
  · rw [← own] at held ⊢
    rw [releaseEntry_parked x t v held parked]
    exact testAccess_service _ t v held
  · exact ⟨a, ready, releaseEntry_keeps x t _ _ held (.inl (by rcases ready with rfl | rfl <;> simp))⟩

/-- Where every test passes a released access is OFFERED. -/
theorem releaseParked_offers (s : State) (fresh : Fresh s) (e : Parked) (inList : e ∈ s.parked) (v : Service)
    (service : (s.lane e.host).service = some v) (parked : v.access = .parked) :
    ((releaseParked s).lane e.host).service = some { v with access := .offered } := by
  refine forEach_reaches (P := fun t => Fresh t ∧ (t.lane e.host).service = some v)
    (Q := fun t => (t.lane e.host).service = some { v with access := .offered })
    (hit := fun x : Parked => x.host = e.host)
    (fun x t ⟨fresh, held⟩ other => ⟨releaseEntry_fresh x t fresh, releaseEntry_keeps x t _ v held (.inr other)⟩)
    (fun x t ⟨fresh, held⟩ own => ?_) (fun x t held => releaseEntry_keeps x t _ _ held (.inl (by simp))) _ _
    ⟨fresh.of_same (fun _ => ⟨rfl, rfl⟩) fun _ => rfl, service⟩ ⟨e, inList, rfl⟩
  rw [← own] at held ⊢
  rw [releaseEntry_parked x t v held parked, testAccess_fresh _ t v held fresh, setAccess_lane _ _ _ t v held, if_pos rfl]

/-! ## The Write Engine's work at a boundary (R83) -/

theorem retestWaiting_cases (h : HostNo) (s : State) : retestWaiting h s = s ∨
    ∃ v, (s.lane h).service = some v ∧ v.access = .made ∧ retestWaiting h s = testAccess h s := by
  unfold retestWaiting
  split
  · next v service =>
    split
    · next made => exact .inr ⟨v, service, made, rfl⟩
    · exact .inl rfl
  · exact .inl rfl

theorem retestWaiting_keeps (h : HostNo) (s : State) (g : HostNo) (v : Service) (service : (s.lane g).service = some v)
    (kept : v.access ≠ .made ∨ h ≠ g) : ((retestWaiting h s).lane g).service = some v := by
  rcases retestWaiting_cases h s with same | ⟨w, held, made, tested⟩
  · rw [same, service]
  · have other : h ≠ g := by
      rintro rfl
      obtain rfl : v = w := by simpa [service] using held
      simp [made] at kept
    rw [tested, testAccess_other _ _ _ other, service]

theorem retestWaiting_fresh (h : HostNo) (s : State) (fresh : Fresh s) : Fresh (retestWaiting h s) := by
  rcases retestWaiting_cases h s with same | ⟨v, service, -, tested⟩
  · rwa [same]
  · rw [tested, testAccess_fresh _ s v service fresh]; exact setAccess_fresh _ _ _ fresh

theorem retestWaiting_bare (h : HostNo) (s : State) (g : HostNo) :
    ((retestWaiting h s).lane g).service.map Service.bare = (s.lane g).service.map Service.bare := by
  rcases retestWaiting_cases h s with same | ⟨-, -, -, tested⟩
  · rw [same]
  · rw [tested, testAccess_bare]

theorem retestWaiting_grows (h g : HostNo) (s : State) : (s.queue g).Grows ((retestWaiting h s).queue g) := by
  rcases retestWaiting_cases h s with same | ⟨-, -, -, tested⟩
  · rw [same]; exact .refl _
  · rw [tested]; exact testAccess_grows ..

/-- Every budget starts again (R83). -/
theorem refill_host (s : State) (g : HostNo) : ((forEach allHosts refillBudget s).host g).cells = 0 ∧
    ((forEach allHosts refillBudget s).host g).budgetHit = false := by
  refine forEach_reaches (P := fun _ => True) (Q := fun t => (t.host g).cells = 0 ∧ (t.host g).budgetHit = false)
    (hit := (· = g)) (fun _ _ _ _ => trivial) (fun h t _ own => ?_) (fun h t refilled => ?_) _ _ trivial
    ⟨g, mem_allHosts g, rfl⟩
  · simp [refillBudget, own]
  · by_cases own : h = g
    · simp [refillBudget, own]
    · simpa [refillBudget, own] using refilled

/-- Once no commit waits, the boundary's refill leaves every test passing, and no access waits. -/
theorem refillBudgets_spec (s : State) (applied : ∀ p, (s.pane p).commit = none) : Fresh (refillBudgets s) ∧
    ∀ g v, (s.lane g).service = some v → ((refillBudgets s).lane g).service =
      some (if v.access = .made then { v with access := .offered } else v) := by
  have refilled : Fresh (forEach allHosts refillBudget s) :=
    ⟨fun g => (refill_host s g).1, fun g => (refill_host s g).2, by simpa using applied⟩
  refine ⟨forEach_induct Fresh _ retestWaiting_fresh _ _ refilled, fun g v service => ?_⟩
  have held : ((forEach allHosts refillBudget s).lane g).service = some v := by simpa using service
  split
  · next made =>
    refine forEach_reaches (P := fun t => Fresh t ∧ (t.lane g).service = some v)
      (Q := fun t => (t.lane g).service = some { v with access := .offered }) (hit := (· = g))
      (fun h t ⟨fresh, held⟩ other => ⟨retestWaiting_fresh h t fresh, retestWaiting_keeps h t g v held (.inr other)⟩)
      (fun h t ⟨fresh, held⟩ own => ?_) (fun h t held => retestWaiting_keeps h t g _ held (.inl (by simp))) _ _
      ⟨refilled, held⟩ ⟨g, mem_allHosts g, rfl⟩
    subst own
    have retested : retestWaiting h t = testAccess h t := by simp [retestWaiting, held, made]
    rw [retested, testAccess_fresh _ t v held fresh, setAccess_lane _ _ _ t v held, if_pos rfl]
  · next ready =>
    exact forEach_induct (fun t => (t.lane g).service = some v) _
      (fun h t held => retestWaiting_keeps h t g v held (.inl ready)) _ _ held

theorem refillBudgets_bare (s : State) (g : HostNo) :
    ((refillBudgets s).lane g).service.map Service.bare = (s.lane g).service.map Service.bare :=
  forEach_induct (fun t => (t.lane g).service.map Service.bare = (s.lane g).service.map Service.bare) _
    (fun h t same => (retestWaiting_bare h t g).trans same) _ _ (by simp)

theorem refillBudgets_grows (s : State) (g : HostNo) : (s.queue g).Grows ((refillBudgets s).queue g) :=
  forEach_induct (fun t => (s.queue g).Grows (t.queue g)) _ (fun h t grown => grown.trans (retestWaiting_grows h g t)) _ _
    (by simpa using EventQueue.Grows.refl _)

/-! ## The Pane Manager's work at a boundary (R44 to R47) -/

theorem boundaryRecord_commit {q : Pane} (ok : q.fieldsOk) : (boundaryRecord q).commit = none := by
  obtain ⟨-, -, -, shape⟩ := ok
  unfold boundaryRecord
  (repeat' split)
  · rfl
  · rfl
  · next notRetiring uncommitted =>
    cases state : q.state with
    | free => rw [state] at shape; rw [shape]; rfl
    | pending | live => simpa [state] using uncommitted
    | retiring => exact absurd state notRetiring
    | orphaned => simp_all

theorem boundaryPane_grows (frame : Half) (p : PaneNo) (g : HostNo) (s : State) :
    (s.queue g).Grows ((boundaryPane frame p s).queue g) := by
  unfold boundaryPane
  dsimp only
  split
  · exact .refl _
  · exact postTo_grows _ g _ (s.setPane p _)
  · exact postTo_grows _ g _ (s.setPane p _)
  · exact .refl _

/-- An event is in the queue, or has been counted as lost since `n` were (R143). -/
def EventQueue.Told (n : Nat) (e : Event) (q : EventQueue) : Prop := e ∈ q.events ∨ n < q.lost ∨ 255 ≤ q.lost

theorem EventQueue.Told.grow {n : Nat} {e : Event} {q r : EventQueue} (told : q.Told n e) (grown : q.Grows r) : r.Told n e := by
  have := grown.lost
  rcases told with posted | lost | full
  · exact .inl (grown.events.subset posted)
  · unfold EventQueue.Told; omega
  · unfold EventQueue.Told; omega

theorem postEvent_told (h : HostNo) (e : Event) (s : State) (n : Nat) (active : s.isActive h = true)
    (since : min n 255 ≤ (s.queue h).lost) : ((postEvent h e s).queue h).Told n e := by
  rw [postEvent_queue, if_pos ⟨rfl, active⟩]
  split
  · exact .inl (by simp)
  · refine .inr ?_
    dsimp only
    omega

/-- The owner of a pane whose commit applies is told (R45). -/
theorem boundaryPane_told (frame : Half) (p : PaneNo) (s : State) (tk : Half) (o : HostNo) (n : Nat)
    (owned : (s.pane p).state = .pending ∨ (s.pane p).state = .live) (commit : (s.pane p).commit = some tk)
    (owner : (s.pane p).owner = some o) (active : s.isActive o = true) (since : min n 255 ≤ (s.queue o).lost) :
    ((boundaryPane frame p s).queue o).Told n (.commitDone p tk frame) := by
  have turn : boundaryPane frame p s = postEvent o (.commitDone p tk frame) (s.setPane p (committedPane (s.pane p))) := by
    rcases owned with state | state <;> simp [boundaryPane, state, commit, owner, postTo]
  rw [turn]
  exact postEvent_told o _ _ n (by simpa using active) since

section
variable (frame : Half) (s : State)

/-- The boundary with the panes' records made anew, before budgets start again. -/
def boundaryPanes : State :=
  forEach allPanes (boundaryPane frame) (s.setScan { s.scan with frame := frame, cursorFrame := frame })

theorem frameBoundary_eq : frameBoundary frame s = refillBudgets (boundaryPanes frame s) := rfl

theorem boundaryPanes_pane (p : PaneNo) : (boundaryPanes frame s).pane p = boundaryRecord (s.pane p) := by
  rw [← frameBoundary_pane frame s p, frameBoundary_eq]
  simp

theorem boundaryPanes_grows (g : HostNo) : (s.queue g).Grows ((boundaryPanes frame s).queue g) :=
  forEach_induct (fun t => (s.queue g).Grows (t.queue g)) _ (fun p t grown => grown.trans (boundaryPane_grows frame p g t))
    _ _ (.refl _)

theorem boundaryPanes_told (p : PaneNo) (tk : Half) (o : HostNo) (owned : (s.pane p).state = .pending ∨ (s.pane p).state = .live)
    (commit : (s.pane p).commit = some tk) (owner : (s.pane p).owner = some o) (active : s.isActive o = true) :
    ((boundaryPanes frame s).queue o).Told (s.queue o).lost (.commitDone p tk frame) := by
  refine forEach_reaches
    (P := fun t => t.pane p = s.pane p ∧ t.isActive o = true ∧ (s.queue o).Grows (t.queue o))
    (Q := fun t => (t.queue o).Told (s.queue o).lost (.commitDone p tk frame)) (hit := (· = p))
    (fun q t ⟨pane, active, grown⟩ other => ⟨?_, by simpa using active, grown.trans (boundaryPane_grows frame q o t)⟩)
    (fun q t ⟨pane, active, grown⟩ own => ?_) (fun q t told => told.grow (boundaryPane_grows frame q o t)) _ _
    ⟨rfl, by simpa using active, .refl _⟩ ⟨p, mem_allPanes p, rfl⟩
  · rw [boundaryPane_pane, if_neg other, pane]
  · subst own
    rw [← pane] at owned commit owner
    exact boundaryPane_told frame q t tk o _ owned commit owner active grown.lost

theorem frameBoundary_scan : (frameBoundary frame s).scan = { s.scan with frame := frame, cursorFrame := frame } := by
  simp [frameBoundary]

theorem frameBoundary_bare (g : HostNo) :
    ((frameBoundary frame s).lane g).service.map Service.bare = (s.lane g).service.map Service.bare := by
  rw [frameBoundary_eq, refillBudgets_bare]
  simp [boundaryPanes]

/-- The boundary leaves every test passing, and no access waits (R83). -/
theorem frameBoundary_spec (panes : ∀ p, (s.pane p).fieldsOk) : Fresh (frameBoundary frame s) ∧
    ∀ g v, (s.lane g).service = some v → ((frameBoundary frame s).lane g).service =
      some (if v.access = .made then { v with access := .offered } else v) := by
  obtain ⟨fresh, services⟩ := refillBudgets_spec (boundaryPanes frame s) fun p => by
    rw [boundaryPanes_pane]; exact boundaryRecord_commit (panes p)
  exact ⟨fresh, fun g v service => services g v (by simpa [boundaryPanes] using service)⟩

end

end Sys2Proof.Machine
end

section
/-! What follows at once from a frame boundary, and the three events that make one: settles O32. -/
namespace Sys2Proof.Machine

/-! ## Budgets after a boundary (R81, R83) -/

/-- No host has cells charged or its budget hit. -/
def Unspent (s : State) : Prop := ∀ g, (s.host g).cells = 0 ∧ (s.host g).budgetHit = false

/-- No budget is hit, and cells are charged only for the access in progress. -/
def SpentOnce (s : State) : Prop := ∀ g, (s.host g).budgetHit = false ∧ ((s.host g).cells = 0 ∨
  ((s.host g).cells ≤ 64 ∧ ∃ bank y x cs re, s.arbiter.access = some (.write true g bank y x cs re)))

theorem Unspent.start {s t : State} (unspent : Unspent s) (step : StartStep s t) : Unspent t := by
  cases step with
  | calm same => exact fun g => by rw [same.cells, same.budgetHit]; exact unspent g
  | hold | withdraw | begin | refuse => exact unspent
  | spend h v reached => simp [budgetAllows_unspent s h v (unspent h).1] at reached

/-- With the store free nothing has been charged. -/
theorem SpentOnce.unspent {s : State} (spent : SpentOnce s) (free : s.arbiter.access = none) : Unspent s := by
  intro g
  obtain ⟨hit, cells⟩ := spent g
  exact ⟨by simpa [free] using cells, hit⟩

theorem Unspent.spentOnce {s : State} (unspent : Unspent s) : SpentOnce s :=
  fun g => ⟨(unspent g).2, .inl (unspent g).1⟩

theorem SpentOnce.grant {s t : State} (spent : SpentOnce s) (step : GrantStep s t) : SpentOnce t := by
  cases step with
  | calm same => exact fun g => by rw [same.cells, same.budgetHit, same.access]; exact spent g
  | torn | tear | park => exact spent
  | grantSegment l free => exact Unspent.spentOnce (spent.unspent free)
  | grantRead h v back free => exact Unspent.spentOnce (spent.unspent free)
  | grantWrite h v restart free =>
    have short : v.accessLen ≤ 64 := Nat.min_le_left _ _
    intro g
    obtain ⟨cells, hit⟩ := spent.unspent free g
    by_cases own : h = g
    · subst own
      refine ⟨by simpa using hit, .inr ⟨?_, _, _, _, _, _, rfl⟩⟩
      simp [grantWrite, chargeBudget, cells]
      omega
    · refine ⟨by simpa using hit, .inl ?_⟩
      simpa [grantWrite, chargeBudget, own] using cells

theorem settle_spentOnce (s : State) (unspent : Unspent s) : SpentOnce (settle s) := by
  obtain ⟨u, started, granted⟩ := settle_steps s
  exact granted.keeps SpentOnce.grant (started.keeps Unspent.start unspent).spentOnce

/-! ## Offered accesses after a boundary -/

/-- No commit of the pane makes its writes wait, nor will a held one (R85). -/
def Pane.Unwaiting (q : Pane) : Prop :=
  q.isDouble = false ∨ (q.commit = none ∧ ∀ tag n, q.held ≠ some (.commit tag n))

/-- Host `g`'s access `v` is in service, and its pane has no writes wait. -/
structure Stands (g : HostNo) (v : Service) (s : State) : Prop where
  service : (s.lane g).service = some v
  unwaiting : (s.pane v.pane).Unwaiting

theorem Stands.of_same {g : HostNo} {v : Service} {s t : State} (stands : Stands g v s) (lane : t.lane g = s.lane g)
    (pane : t.pane v.pane = s.pane v.pane) : Stands g v t := ⟨by rw [lane]; exact stands.service, by
  rw [pane]; exact stands.unwaiting⟩

/-- A service start leaves an access in service whose pane has no writes wait. -/
theorem Stands.start {g : HostNo} {v : Service} {s t : State} (stands : Stands g v s) (step : StartStep s t) :
    Stands g v t := by
  cases step with
  | calm same => exact stands.of_same (same.lane g) (same.pane _)
  | hold p c d tag n held =>
    refine ⟨stands.service, ?_⟩
    by_cases same : p = v.pane
    · subst same
      rw [State.pane_setPane_same]
      exact stands.unwaiting.imp_right fun ⟨_, unheld⟩ => absurd held (unheld tag n)
    · simpa [same] using stands.unwaiting
  | withdraw h w service offered waits =>
    have other : h ≠ g := by
      rintro rfl
      obtain rfl : v = w := by simpa [stands.service] using service
      have := stands.unwaiting
      simp_all [Pane.Unwaiting, Pane.writesWait]
    exact stands.of_same (by simp [setAccess, other]) (by simp)
  | begin h op rest p area a idle =>
    have other : h ≠ g := by rintro rfl; simp [stands.service] at idle
    exact stands.of_same (by simp [other]) rfl
  | refuse h op rest idle =>
    have other : h ≠ g := by rintro rfl; simp [stands.service] at idle
    exact stands.of_same (by simp [other]) rfl
  | spend => exact stands.of_same (by simp) (by simp)

theorem StartStep.parked {s t : State} (step : StartStep s t) : t.parked = s.parked ∧ t.scan.latch = s.scan.latch := by
  cases step with
  | calm same => exact ⟨same.parked, same.latch⟩
  | hold | withdraw | begin | refuse => exact ⟨rfl, rfl⟩
  | spend => exact ⟨by simp, by simp⟩

/-- A grant decision leaves another host's lane, and of the served one all but its access state, which is not MADE. -/
theorem GrantStep.service {g : HostNo} {v : Service} {s t : State} (step : GrantStep s t)
    (ready : ∃ a, a ≠ AccessState.made ∧ (s.lane g).service = some { v with access := a }) :
    ∃ a, a ≠ AccessState.made ∧ (t.lane g).service = some { v with access := a } := by
  have served (h : HostNo) (w : Service) (a : AccessState) (service : (s.lane h).service = some w) (notMade : a ≠ .made) :
      ∃ b, b ≠ AccessState.made ∧ ((setAccess h a s).lane g).service = some { v with access := b } := by
    obtain ⟨b, kept, held⟩ := ready
    rw [setAccess_lane h g a s w service]
    split
    · next own =>
      subst own
      obtain rfl : { v with access := b } = w := by simpa [held] using service
      exact ⟨a, notMade, rfl⟩
    · exact ⟨b, kept, held⟩
  cases step with
  | calm same => rw [same.lane]; exact ready
  | torn | tear | grantSegment => exact ready
  | park h w l service => exact served h w .parked service (by simp)
  | grantRead h w _ _ service => exact served h w .inProgress service (by simp)
  | grantWrite h w _ _ service => exact served h w .inProgress service (by simp)

/-- An access that is not MADE, on a pane without waiting writes, is not MADE after what follows at once. -/
theorem settle_notMade (g : HostNo) (v : Service) (s : State) (stands : Stands g v s) (ready : v.access ≠ .made) :
    ∃ a, a ≠ AccessState.made ∧ ((settle s).lane g).service = some { v with access := a } := by
  obtain ⟨u, started, granted⟩ := settle_steps s
  exact granted.keeps (P := fun t => ∃ a, a ≠ AccessState.made ∧ (t.lane g).service = some { v with access := a })
    (fun ready step => step.service ready) ⟨v.access, ready, (started.keeps Stands.start stands).service⟩

/-- Host `g`'s write access `v` is offered, or granted plainly; its line is not that of the latch, and it is not parked. -/
structure Plain (g : HostNo) (v : Service) (s : State) : Prop where
  latch : ∀ l, s.scan.latch = some l → l.line ≠ v.line
  parked : ∀ x ∈ s.parked, x.host ≠ g
  access : (s.lane g).service = some { v with access := .offered } ∨
    ((s.lane g).service = some { v with access := .inProgress } ∧
      ∃ bank, s.arbiter.access = some (.write true g bank v.line v.col v.accessCells none))

theorem Plain.no_conflict {g : HostNo} {v : Service} {s : State} (plain : Plain g v s) (l : Latch)
    (conflict : conflictOf s { v with access := .offered } = some l) : False := by
  refine plain.latch l (conflictOf_latch s _ l conflict) ?_
  rw [conflictOf, conflictOf_latch s _ l conflict] at conflict
  have meets := (Option.ite_none_right_eq_some.1 conflict).1
  simp only [Bool.and_eq_true, decide_eq_true_eq] at meets
  exact meets.2

/-- The access that the rotation serves for the host is the one offered. -/
theorem Plain.offered {g : HostNo} {v w : Service} {s : State} (plain : Plain g v s) (service : (s.lane g).service = some w)
    (offered : w.access = .offered) : w = { v with access := .offered } := by
  rcases plain.access with held | ⟨held, -⟩
  · simpa [service] using held
  · obtain rfl : w = _ := Option.some.inj (service.symm.trans held)
    simp at offered

theorem Plain.free {g : HostNo} {v : Service} {s : State} (plain : Plain g v s) (free : s.arbiter.access = none) :
    (s.lane g).service = some { v with access := .offered } := by
  rcases plain.access with held | ⟨-, bank, access⟩
  · exact held
  · simp [free] at access

theorem Plain.grant {g : HostNo} {v : Service} {s t : State} (writes : v.op.writes = true) (plain : Plain g v s)
    (step : GrantStep s t) : Plain g v t := by
  have latch := plain.latch
  have parked := plain.parked
  cases step with
  | calm same => exact ⟨by rwa [same.latch], by rwa [same.parked], by rw [same.lane, same.access]; exact plain.access⟩
  | torn l inFlight => exact ⟨fun m is => by obtain rfl := Option.some.inj is; exact latch l inFlight, parked, plain.access⟩
  | tear => exact ⟨latch, parked, plain.access⟩
  | park h w l service offered conflict =>
    have other : h ≠ g := by
      rintro rfl
      obtain rfl := plain.offered service offered
      exact plain.no_conflict l conflict
    refine ⟨latch, fun x inList => ?_, by simpa [setAccess, other] using plain.access⟩
    rcases List.mem_append.1 inList with before | added
    · exact parked x before
    · obtain rfl := List.mem_singleton.1 added
      exact other
  | grantSegment l free => exact ⟨latch, parked, .inl (plain.free free)⟩
  | grantRead h w back free service offered reads =>
    have other : h ≠ g := by
      rintro rfl
      obtain rfl := plain.offered service offered
      simp [writes] at reads
    exact ⟨latch, parked, .inl (by rw [grantRead_lane h g w back s service, if_neg other]; exact plain.free free)⟩
  | grantWrite h w restart free service offered plainly =>
    refine ⟨latch, parked, ?_⟩
    rw [grantWrite_lane h g w restart s service]
    split
    · next own =>
      subst own
      obtain rfl := plain.offered service offered
      obtain rfl : restart = none := plainly.resolve_right fun ⟨l, conflict⟩ => plain.no_conflict l conflict
      exact .inr ⟨rfl, _, rfl⟩
    · exact .inl (plain.free free)

/-- An offered write on a pane without waiting writes, its line not the latch's, is offered still or granted plainly. -/
theorem settle_plain (g : HostNo) (v : Service) (s : State) (writes : v.op.writes = true)
    (stands : Stands g { v with access := .offered } s) (latch : ∀ l, s.scan.latch = some l → l.line ≠ v.line)
    (parked : ∀ x ∈ s.parked, x.host ≠ g) : Plain g v (settle s) := by
  obtain ⟨u, started, granted⟩ := settle_steps s
  have same := started.keeps (P := fun t => t.parked = s.parked ∧ t.scan.latch = s.scan.latch)
    (fun same step => ⟨step.parked.1.trans same.1, step.parked.2.trans same.2⟩) ⟨rfl, rfl⟩
  refine granted.keeps (Plain.grant writes) ⟨?_, ?_, .inl (started.keeps Stands.start stands).service⟩
  · rw [same.2]; exact latch
  · rw [same.1]; exact parked

/-! ## The boundary at a latch start (R55) -/

/-- State `b`, in the course of an event in `s`, at which a latch of line 0 starts: panes are as in `s`, operations too, but
for parked accesses that may have been released. -/
structure Ready (s b : State) : Prop where
  run : b.inRun = true
  cursor : b.scan.cursorLine = 0
  idle : b.scan.latch = none
  room : b.scan.queue.length < 4
  frame : b.scan.frame = s.scan.frame
  pane : ∀ p, b.pane p = s.pane p
  active : ∀ g, b.isActive g = s.isActive g
  queue : ∀ g, (s.queue g).Grows (b.queue g)
  bare : ∀ g, (b.lane g).service.map Service.bare = (s.lane g).service.map Service.bare
  kept : ∀ g v, (s.lane g).service = some v → v.access ≠ .parked → (b.lane g).service = some v

theorem Ready.setChoices {s b : State} (ready : Ready s b) (n : Nat) : Ready s (b.setChoices n) :=
  ⟨ready.run, ready.cursor, ready.idle, ready.room, ready.frame, ready.pane, ready.active, ready.queue, ready.bare,
    ready.kept⟩

theorem Ready.release {s b : State} (ready : Ready s b) : Ready s (releaseParked b) where
  run := by simpa [State.inRun] using ready.run
  cursor := by simpa using ready.cursor
  idle := by simpa using ready.idle
  room := by simpa using ready.room
  frame := by simpa using ready.frame
  pane := by simpa using ready.pane
  active := by simpa using ready.active
  queue g := (ready.queue g).trans (releaseParked_grows b g)
  bare g := (releaseParked_bare b g).trans (ready.bare g)
  kept g v service unparked := releaseParked_keeps b g v (ready.kept g v service unparked) unparked

/-- State `u` has just passed the frame boundary of an event in `s` (R43 to R47, R55, R83). -/
structure AtBoundary (s u : State) : Prop where
  frame : u.scan.frame = s.scan.frame + 1
  latch : u.scan.latch = some ⟨s.scan.frame + 1, 0, 0, [], false, 0⟩
  pane : ∀ p, u.pane p = boundaryRecord (s.pane p)
  told : ∀ p tk o, ((s.pane p).state = .pending ∨ (s.pane p).state = .live) → (s.pane p).commit = some tk →
    (s.pane p).owner = some o → (u.queue o).Told (s.queue o).lost (.commitDone p tk (s.scan.frame + 1))
  fresh : Fresh u
  bare : ∀ g, (u.lane g).service.map Service.bare = (s.lane g).service.map Service.bare
  kept : ∀ g v, (s.lane g).service = some v → v.access ≠ .parked →
    (u.lane g).service = some (if v.access = .made then { v with access := .offered } else v)

theorem AtBoundary.release {s u : State} (passed : AtBoundary s u) : AtBoundary s (releaseParked u) where
  frame := by simpa using passed.frame
  latch := by simpa using passed.latch
  pane := by simpa using passed.pane
  told p tk o owned commit owner := (passed.told p tk o owned commit owner).grow (releaseParked_grows u o)
  fresh := releaseParked_fresh u passed.fresh
  bare g := (releaseParked_bare u g).trans (passed.bare g)
  kept g v service unparked := releaseParked_keeps u g _ (passed.kept g v service unparked) (by split <;> simp [unparked])

theorem startLatch_line0 {s b : State} (ready : Ready s b) : startLatch b = (frameBoundary (s.scan.frame + 1) b).setScan
    { (frameBoundary (s.scan.frame + 1) b).scan with latch := some ⟨s.scan.frame + 1, 0, 0, [], false, 0⟩ } := by
  simp [startLatch, startLatchAs, ready.run, ready.cursor, ready.idle, ready.room, ready.frame, Config.queueLines,
    frameBoundary_scan]

theorem told_of_grows {n m : Nat} {e : Event} {q : EventQueue} (told : q.Told m e) (since : min n 255 ≤ m) : q.Told n e := by
  rcases told with posted | lost | full
  · exact .inl posted
  · unfold EventQueue.Told; omega
  · exact .inr (.inr full)

theorem frameBoundary_told {s b : State} (ready : Ready s b) (table : s.paneTableOk) (p : PaneNo) (tk : Half) (o : HostNo)
    (owned : (s.pane p).state = .pending ∨ (s.pane p).state = .live) (commit : (s.pane p).commit = some tk)
    (owner : (s.pane p).owner = some o) : ((frameBoundary (s.scan.frame + 1) b).queue o).Told (s.queue o).lost
      (.commitDone p tk (s.scan.frame + 1)) := by
  have active : s.isActive o = true := (table.1 p).2.1 o owner (by rcases owned with state | state <;> simp [state])
  have told := boundaryPanes_told (s.scan.frame + 1) b p tk o (by rwa [ready.pane]) (by rwa [ready.pane])
    (by rwa [ready.pane]) (by rwa [ready.active])
  exact told_of_grows (told.grow (refillBudgets_grows _ o)) (ready.queue o).lost

theorem Ready.boundary {s b : State} (ready : Ready s b) (table : s.paneTableOk) : AtBoundary s (startLatch b) := by
  obtain ⟨fresh, services⟩ := frameBoundary_spec (s.scan.frame + 1) b fun p => by rw [ready.pane]; exact (table.1 p).1
  have told := frameBoundary_told ready table
  have scan := frameBoundary_scan (s.scan.frame + 1) b
  have pane := frameBoundary_pane (s.scan.frame + 1) b
  have bare := frameBoundary_bare (s.scan.frame + 1) b
  rw [startLatch_line0 ready]
  generalize frameBoundary (s.scan.frame + 1) b = f at *
  exact ⟨by simp [scan], rfl, fun p => by simp [pane, ready.pane], told, fresh.of_same (fun _ => ⟨rfl, rfl⟩) fun _ => rfl,
    fun g => (bare g).trans (ready.bare g), fun g v service unparked => services g v (ready.kept g v service unparked)⟩

/-- A latch start of line 0 offers the accesses that wait, and leaves the others (R83). -/
theorem startLatch_services {s b : State} (ready : Ready s b) (table : s.paneTableOk) (g : HostNo) (v : Service)
    (service : (b.lane g).service = some v) : ((startLatch b).lane g).service =
      some (if v.access = .made then { v with access := .offered } else v) := by
  obtain ⟨-, services⟩ := frameBoundary_spec (s.scan.frame + 1) b fun p => by rw [ready.pane]; exact (table.1 p).1
  rw [startLatch_line0 ready, State.lane_setScan]
  exact services g v service

/-- The Parked List's release has left it empty and each of its accesses offered. -/
def Freed (s u : State) : Prop := u.parked = [] ∧ ∀ e ∈ s.parked, ∀ v, (s.lane e.host).service = some v →
  v.access = .parked → (u.lane e.host).service = some { v with access := .offered }

/-- The release and then the boundary. -/
theorem freed_release_first {s b : State} (ready : Ready s b) (table : s.paneTableOk) (parked : b.parked = s.parked)
    (lane : ∀ g, b.lane g = s.lane g) : Freed s (startLatch (releaseParked b)) := by
  refine ⟨by simpa using releaseParked_list b, fun e inList v service isParked => ?_⟩
  obtain ⟨a, tested, held⟩ := releaseParked_tests b e (by rwa [parked]) v (by rwa [lane]) isParked
  rw [startLatch_services ready.release table e.host _ held]
  rcases tested with rfl | rfl <;> rfl

/-- The boundary and then the release. -/
theorem freed_boundary_first {s b : State} (ready : Ready s b) (table : s.paneTableOk) (parked : b.parked = s.parked)
    (lane : ∀ g, b.lane g = s.lane g) : Freed s (releaseParked (startLatch b)) := by
  refine ⟨releaseParked_list _, fun e inList v service isParked => ?_⟩
  have held := startLatch_services ready table e.host v (by rwa [lane])
  rw [if_neg (by simp [isParked])] at held
  exact releaseParked_offers _ (ready.boundary table).fresh e (by simpa [parked] using inList) v held isParked

/-- Both orders of R97 make the boundary and free the Parked List. -/
theorem releaseAndStart_boundary {s b : State} (ready : Ready s b) (table : s.paneTableOk) (parked : b.parked = s.parked)
    (lane : ∀ g, b.lane g = s.lane g) : AtBoundary s (releaseAndStart b) ∧ Freed s (releaseAndStart b) := by
  have chosen := ready.setChoices (b.choices + 1)
  unfold releaseAndStart
  dsimp only
  split
  · split
    · exact ⟨chosen.release.boundary table, freed_release_first chosen table parked lane⟩
    · exact ⟨(chosen.boundary table).release, freed_boundary_first chosen table parked lane⟩
  · exact ⟨ready.release.boundary table, freed_release_first ready table parked lane⟩

/-! ## What the boundary leaves -/

theorem boundaryRecord_retiring {q : Pane} (retiring : q.state = .retiring) : boundaryRecord q = .free q.tears := if_pos retiring

theorem boundaryRecord_committed {q : Pane} (owned : q.state = .pending ∨ q.state = .live) (committed : q.commit.isSome) :
    boundaryRecord q = committedPane q := by
  rw [boundaryRecord, if_neg (by rcases owned with state | state <;> simp [state]), if_pos ⟨owned, committed⟩]

theorem boundaryRecord_other {q : Pane} (staying : q.state ≠ .retiring) (uncommitted : q.commit = none) :
    boundaryRecord q = q := by
  rw [boundaryRecord, if_neg staying, if_neg (by simp [uncommitted])]

/-- A boundary leaves what a pane holds, but where the pane is freed. -/
theorem boundaryRecord_held (q : Pane) : (boundaryRecord q).held = none ∨ (boundaryRecord q).held = q.held := by
  unfold boundaryRecord
  (repeat' split)
  · exact .inl rfl
  · exact .inr rfl
  · exact .inr rfl

/-- A DIRECT pane does not become DOUBLE. -/
theorem boundaryRecord_direct {q : Pane} (direct : ∀ m, q.modes = some m → m.buffering = .direct) :
    (boundaryRecord q).isDouble = false := by
  have single : q.isDouble = false := by
    cases modes : q.modes with
    | none => simp [Pane.isDouble, modes]
    | some m => simp [Pane.isDouble, modes, direct m modes]
  unfold boundaryRecord
  (repeat' split)
  · rfl
  · cases modes : q.modes with
    | none => simp [Pane.isDouble, committedPane, modes]
    | some m => simp [Pane.isDouble, committedPane, modes, committedModes, direct m modes]
  · exact single

theorem committedModes_eq : committedModes = fun m =>
    if m.buffering = .double then { m with front := if m.front = .a then .b else .a } else m := by
  funext m
  unfold committedModes
  split
  · cases front : m.front <;> rfl
  · rfl

/-- Nobody may work on a pane that a boundary has freed, so its tear count stands (R12, R44). -/
theorem AtBoundary.untouched {s u : State} (passed : AtBoundary s u) (work : s.workOk) (p : PaneNo)
    (retiring : (s.pane p).state = .retiring) : Untouched p (s.pane p).tears u := by
  have record := passed.pane p
  rw [boundaryRecord_retiring retiring] at record
  refine ⟨by rw [record]; rfl, by rw [record]; simp [Pane.free], fun h w service onPane => ?_⟩
  have same := passed.bare h
  rw [service] at same
  obtain ⟨v, held, bare⟩ := Option.map_eq_some_iff.1 same.symm
  obtain ⟨a, rfl⟩ := (Service.bare_eq_iff v w).1 bare.symm
  obtain ⟨-, stopping, rights⟩ := work h v held
  obtain rfl : v.pane = p := onPane
  have going : v.access = .inProgress := by
    refine stopping ?_
    cases stop : v.stop with
    | some _ => rfl
    | none => simpa [retiring] using rights stop
  have kept := passed.kept h v held (by simp [going])
  rw [service, if_neg (by simp [going])] at kept
  exact (congrArg Service.access (Option.some.inj kept)).trans going

/-- What follows at once leaves what the boundary made. -/
theorem AtBoundary.done {s u : State} (passed : AtBoundary s u) (table : s.paneTableOk) : s.boundaryDone (settle u) := by
  refine ⟨by simpa using passed.frame, ?_, fun p retiring => ?_, fun p tk owned commit => ?_, fun p staying uncommitted => ?_,
    settle_spentOnce u fun g => ⟨passed.fresh.cells g, passed.fresh.budgetHit g⟩, fun g v service made unheld => ?_⟩
  · obtain ⟨torn, latch⟩ := settle_latch_some u _ passed.latch
    exact ⟨_, latch, rfl, rfl, rfl, rfl, rfl⟩
  · have record := (passed.pane p).trans (boundaryRecord_retiring retiring)
    refine ⟨?_, fun work => (passed.untouched work p retiring).settle.tears⟩
    have settled := settle_pane_unheld u p (by simp [record, Pane.free])
    simpa [record, Pane.free] using settled
  · have unheld : (s.pane p).held = none := by
      have exclusive := (table.1 p).1.2.1
      cases held : (s.pane p).held with
      | none => rfl
      | some d => simp [exclusive (by simp [held])] at commit
    have record := (passed.pane p).trans (boundaryRecord_committed owned (by simp [commit]))
    have settled := settle_pane_unheld u p (by simp [record, committedPane, unheld])
    rw [record] at settled
    refine ⟨by rw [settled]; rfl, by rw [settled]; rfl, by rw [settled]; rfl, by rw [settled]; rfl, by rw [settled]; rfl, ?_,
      ?_, fun o owner => (passed.told p tk o owned commit owner).grow (settle_grows u o)⟩ <;> rw [settled]
    · cases staged : (s.pane p).staged <;> simp [committedPane, Pane.target, staged]
    · simp only [committedPane, committedModes_eq]
  · have record := (passed.pane p).trans (boundaryRecord_other staying uncommitted)
    simp [record]
  · have offered := passed.kept g v service (by simp [made])
    rw [if_pos made] at offered
    refine settle_notMade g { v with access := .offered } u ⟨offered, .inr ⟨passed.fresh.commit _, fun tag n held => ?_⟩⟩
      (by simp)
    rw [passed.pane] at held
    rcases boundaryRecord_held (s.pane v.pane) with none | same
    · simp [none] at held
    · exact unheld tag n (same ▸ held)

/-- What follows at once leaves the released accesses offered, or grants one. -/
theorem AtBoundary.released {s u : State} (passed : AtBoundary s u) (freed : Freed s u) :
    s.releasedInto (settle u) True 0 := by
  intro e inList v service isParked kind direct line
  have writes : v.op.writes = true := by
    unfold CellOp.kind at kind
    unfold CellOp.writes
    split <;> simp_all
  have stands : Stands e.host { v with access := .offered } u :=
    ⟨freed.2 e inList v service isParked, .inl (by rw [passed.pane]; exact boundaryRecord_direct direct)⟩
  have plain := settle_plain e.host v u writes stands
    (fun l latch => by obtain rfl := Option.some.inj (passed.latch.symm.trans latch); exact fun same => line same.symm)
    (by simp [freed.1])
  exact ⟨plain.parked, fun _ => plain.access, fun refused => absurd (.inl trivial) refused⟩

/-! ## The three events -/

theorem Ready.of_same {s b : State} (run : b.inRun = true) (cursor : b.scan.cursorLine = 0) (idle : b.scan.latch = none)
    (room : b.scan.queue.length < 4) (frame : b.scan.frame = s.scan.frame) (pane : ∀ p, b.pane p = s.pane p)
    (active : ∀ g, b.isActive g = s.isActive g) (queue : ∀ g, (s.queue g).Grows (b.queue g))
    (lane : ∀ g, b.lane g = s.lane g) : Ready s b :=
  ⟨run, cursor, idle, room, frame, pane, active, queue, fun g => by rw [lane], fun g v service _ => by rw [lane]; exact service⟩

section
variable (s : State) (table : s.paneTableOk) (run : s.inRun = true)
include table run

omit table run in
@[simp] theorem advanceMark_emission : (advanceMark s).scan.emission = nextEmission s := rfl

omit table run in
theorem abandonLatch_queue (g : HostNo) : (abandonLatch s).queue g = s.queue g := by simp

/-- The completion of the latch of the last line (R57). -/
theorem completeLatch_boundary (l : Latch) (cursor : s.scan.cursorLine + 1 = s.conf.settings.frameHeight)
    (room : s.scan.queue.length < 3) :
    AtBoundary s (completeLatch l (freeStore s)) ∧ Freed s (completeLatch l (freeStore s)) := by
  have part : s.conf.part = .run := by simpa [State.inRun] using run
  refine releaseAndStart_boundary (.of_same ?_ ?_ rfl ?_ ?_ ?_ ?_ (fun g => ?_) ?_) table ?_ ?_ <;>
    simp [State.inRun, part, cursorAfter, cursor, EventQueue.Grows.refl]
  omega

/-- A mark that takes the entry at the queue's head, the cursor at line 0 (R53, R59). -/
theorem visibleMark_boundary (first : Bool) (k : Nat) (e : LineEntry) (rest : List LineEntry)
    (head : s.scan.queue = e :: rest) (line : e.line = k) (frame : e.frame = nextEmission s) (room : rest.length < 4)
    (cursor : s.scan.cursorLine = 0) (idle : s.scan.latch = none) :
    AtBoundary s (visibleMark k (announceBlanking first k (advanceMark s))) ∧
      (visibleMark k (announceBlanking first k (advanceMark s))).scan.queue = rest := by
  have part : s.conf.part = .run := by simpa [State.inRun] using run
  have emission : (announceBlanking first k (advanceMark s)).scan.emission = nextEmission s := by simp
  have queue : (announceBlanking first k (advanceMark s)).scan.queue = e :: rest := by simp [head]
  unfold visibleMark
  simp only [queue, line, frame, emission, decide_true, Bool.and_self, if_true]
  refine ⟨Ready.boundary (.of_same ?_ ?_ ?_ ?_ ?_ ?_ ?_ (fun g => ?_) ?_) table, ?_⟩ <;>
    simp [State.inRun, part, cursor, idle, room, EventQueue.Grows.refl]

/-- An underrun of the last line (R62, R63). -/
theorem underrun_boundary (first : Bool) (k : Nat) (cursor : k + 1 = s.conf.settings.frameHeight)
    (room : s.scan.queue.length < 4) (latch : ∀ l, s.scan.latch = some l → l.line = k ∧ l.frame = nextEmission s) :
    AtBoundary s (underrun k (announceBlanking first k (advanceMark s))) ∧
      (s.scan.latch ≠ none → Freed s (underrun k (announceBlanking first k (advanceMark s)))) := by
  have part : s.conf.part = .run := by simpa [State.inRun] using run
  have grows (r : FaultRecord) (packets : List LaneWord) (g : HostNo) : (s.queue g).Grows
      ((reportFault r (emit packets (announceBlanking first k (advanceMark s)))).queue g) := by
    simpa using reportFault_grows r g (emit packets (announceBlanking first k (advanceMark s)))
  unfold underrun
  dsimp only
  cases inFlight : s.scan.latch with
  | none =>
    rw [if_neg (by simp [latchIsOf, inFlight])]
    refine ⟨Ready.boundary (.of_same ?_ ?_ ?_ ?_ ?_ ?_ ?_ (grows _ _) ?_) table, fun held => absurd rfl held⟩ <;>
      simp [State.inRun, part, cursorAfter, cursor, inFlight, room]
  | some l =>
    obtain ⟨line, frame⟩ := latch l inFlight
    rw [if_pos (by simp [latchIsOf, inFlight, line, frame])]
    refine And.imp_right (fun freed _ => freed)
      (releaseAndStart_boundary (.of_same ?_ ?_ ?_ ?_ ?_ ?_ ?_ (fun g => ?queue) ?_) table ?_ ?_)
    case queue =>
      rw [State.queue_setScan, abandonLatch_queue]
      exact grows _ _ g
    all_goals simp [State.inRun, part, cursorAfter, cursor, room, abandonLatch]

end

/-- At a visible mark of a frame, what the mark does is settled (R51, R52). -/
theorem lineMark_visible (s : State) (run : s.inRun = true) (k : Nat) (mark : nextMark s = k)
    (visible : k < s.conf.settings.frameHeight) : lineMark s =
      settle (visibleMark k (announceBlanking s.scan.mark.isNone k (advanceMark s))) := by
  simp [lineMark, run, markWork, mark, visible]

/-- Without the line due at the queue's head a visible mark is an underrun (R62). -/
theorem visibleMark_underrun (k : Nat) (s : State)
    (missing : ∀ e, s.scan.queue.head? = some e → e.line ≠ k ∨ e.frame ≠ s.scan.emission) :
    visibleMark k s = underrun k s := by
  unfold visibleMark
  split
  · next e rest head =>
    have away := missing e (by simp [head])
    rw [if_neg (by simpa [imp_iff_not_or] using away)]
  · rfl

theorem nextEmission_eq (s : State) : nextEmission s =
    if s.scan.mark ≠ none ∧ nextMark s = 0 then s.scan.emission + 1 else s.scan.emission := by
  simp [nextEmission, Option.isSome_iff_ne_none]

/-- Settles O32: each event starts a latch of line 0, after the Parked List's release or before it. -/
theorem boundaryAppliesCommits : Obligations.BoundaryAppliesCommits := by
  unfold Obligations.BoundaryAppliesCommits
  intro s table run H k E
  have mark : nextMark s = k := rfl
  have emission : nextEmission s = E := nextEmission_eq s
  clear_value E k
  refine ⟨fun line first cells l access inside latch last cursor room => ?_,
    fun e rest visible head line frame room cursor idle => ?_, fun lastLine missing room latch => ?_⟩
  · obtain ⟨passed, freed⟩ := completeLatch_boundary s table run
      { l with gathered := l.gathered ++ [cells], segment := l.segment + 1 } cursor room
    have completes : segmentReadComplete s =
        settle (completeLatch { l with gathered := l.gathered ++ [cells], segment := l.segment + 1 } (freeStore s)) := by
      simp [segmentReadComplete, access, gatherSegment, latch, last]
    have ran : exec .segmentReadComplete s = .next (segmentReadComplete s) :=
      exec_completion (.segment true line first cells) access ((runInStore_iff line first cells.length).1 inside)
    exact ⟨_, ran.trans (congrArg _ completes), passed.done table, passed.released freed⟩
  · have marked := lineMark_visible s run k mark visible
    obtain ⟨passed, queue⟩ := visibleMark_boundary s table run s.scan.mark.isNone k e rest head line
      (frame.trans emission.symm) room cursor idle
    exact ⟨_, congrArg Host.Outcome.next marked, passed.done table, by simpa using queue⟩
  · have marked := lineMark_visible s run k mark (by omega)
    obtain ⟨passed, freed⟩ := underrun_boundary s table run s.scan.mark.isNone k lastLine room fun l held =>
      ⟨(latch l held).1, (latch l held).2.trans emission.symm⟩
    rw [visibleMark_underrun k _ (by simpa [emission] using missing)] at marked
    exact ⟨_, congrArg Host.Outcome.next marked, passed.done table, fun held => passed.released (freed held)⟩

end Sys2Proof.Machine
end

section
/-! PANE_COMMIT and the writes a taken commit makes wait (R34 to R36, R39, R85): settles O29. -/
namespace Sys2Proof.Machine

/-! ## Withdrawn offers (R85) -/

theorem writes_eq_kind (op : CellOp) : op.writes = decide (op.kind ≠ .cellRead) := by
  obtain ⟨tag, pane, body⟩ := op
  cases body <;> rfl

/-- The operation in service once a commit on pane `p` is recorded: on a DOUBLE pane an offered write waits again (R85). -/
def Service.withdrawn (double : Bool) (p : PaneNo) (v : Service) : Service :=
  if double = true ∧ v.pane = p ∧ v.access = .offered ∧ v.op.kind ≠ .cellRead then { v with access := .made } else v

/-- A cell lane once a commit on pane `p` is recorded (R85). -/
def Lane.withdrawn (double : Bool) (p : PaneNo) (l : Lane) : Lane :=
  { l with service := l.service.map (Service.withdrawn double p) }

theorem withdrawn_stays {double : Bool} {p : PaneNo} {l : Lane}
    (stays : ∀ v, l.service = some v → v.withdrawn double p = v) : l.withdrawn double p = l := by
  obtain ⟨service, queued⟩ := l
  cases service with
  | none => rfl
  | some v => exact congrArg (Lane.mk · queued) (congrArg some (stays v rfl))

/-- On a DIRECT pane no offer is withdrawn. -/
theorem withdrawn_direct (p : PaneNo) (l : Lane) : l.withdrawn false p = l :=
  withdrawn_stays fun _ _ => if_neg (by simp)

theorem withdrawOffer_eq (p : PaneNo) (h : HostNo) (s : State) :
    withdrawOffer p h s = s.setLane h ((s.lane h).withdrawn true p) := by
  unfold withdrawOffer
  split
  · next v service =>
    have test : (v.pane = p && v.op.writes && v.access = .offered) = true ↔
        true = true ∧ v.pane = p ∧ v.access = .offered ∧ v.op.kind ≠ .cellRead := by
      simp only [writes_eq_kind, Bool.and_eq_true, decide_eq_true_eq]
      tauto
    split
    · next offered =>
      have waits : v.withdrawn true p = { v with access := .made } := if_pos (test.1 offered)
      simp [setAccess, Lane.withdrawn, service, waits]
    · next other =>
      have stays : v.withdrawn true p = v := if_neg (mt test.2 other)
      rw [withdrawn_stays fun w is => Option.some.inj (service.symm.trans is) ▸ stays, State.setLane_self]
  · next idle => rw [withdrawn_stays fun v is => by simp [idle] at is, State.setLane_self]

/-- The state once a commit on pane `p` has put the offered writes on it back (R85). -/
def State.offersWithdrawn (s : State) (double : Bool) (p : PaneNo) : State :=
  { s with lanes := s.lanes.map (Lane.withdrawn double p) }

theorem offersWithdrawn_direct (p : PaneNo) (s : State) : s.offersWithdrawn false p = s := by
  rw [State.offersWithdrawn, funext (withdrawn_direct p), Vector.map_id_fun']
  rfl

theorem withdrawOffers_eq (p : PaneNo) (s : State) : forEach allHosts (withdrawOffer p) s = s.offersWithdrawn true p := by
  have lane (g : HostNo) : (forEach allHosts (withdrawOffer p) s).lane g = (s.lane g).withdrawn true p := by
    rw [forEach_allHosts]
    fin_cases g <;> simp [withdrawOffer_eq]
  apply State.ext_records
  case lanes => exact fun g => (lane g).trans (Vector.getElem_map ..).symm
  case panes => exact fun q => forEach_pane _ _ _ q (by simp)
  case hosts => exact fun g => forEach_host _ _ _ g (by simp)
  case ports => exact fun g => forEach_port _ _ _ g (by simp)
  case events => exact fun g => forEach_queue _ _ _ g (by simp)
  all_goals simp [State.offersWithdrawn]

/-! ## A commit taken (R34, R39) -/

/-- The next ticket of host `h` is pane `p`'s pending commit (R34, R39). -/
def State.ticketTaken (s : State) (h : HostNo) (p : PaneNo) : State :=
  (s.setHost h { s.host h with tickets := (s.host h).tickets + 1 }).setPane p
    { s.pane p with commit := some (s.host h).tickets, held := none }

theorem recordCommit_eq (h : HostNo) (p : PaneNo) (s : State) :
    recordCommit h p s = (s.ticketTaken h p).offersWithdrawn (s.pane p).isDouble p := by
  have keepsMode : ((s.ticketTaken h p).pane p).isDouble = (s.pane p).isDouble := by simp [State.ticketTaken, Pane.isDouble]
  calc recordCommit h p s
    _ = if ((s.ticketTaken h p).pane p).isDouble = true then forEach allHosts (withdrawOffer p) (s.ticketTaken h p)
        else s.ticketTaken h p := rfl
    _ = (s.ticketTaken h p).offersWithdrawn (s.pane p).isDouble p := by
      rw [keepsMode]
      cases (s.pane p).isDouble with
      | true => exact withdrawOffers_eq ..
      | false => exact (offersWithdrawn_direct ..).symm

theorem heard_tickets (s : State) (h : HostNo) : ((s.heard h).host h).tickets = (s.host h).tickets := by
  simp [State.heard]

/-- A commit taken at once leaves of its request the record and the answer (R39, R127). -/
theorem takeCommit_received (h : HostNo) (p : PaneNo) (tag : Byte) (s : State) :
    takeCommit h p tag (s.received h) = (((s.heard h).ticketTaken h p).offersWithdrawn (s.pane p).isDouble p).answered h
      (responseTo .paneCommit tag .accepted (.ticket (s.host h).tickets)) := by
  rw [← heard_tickets, takeCommit, recordCommit_eq]
  exact reply_slotTaken h .paneCommit tag .accepted _ (((s.heard h).ticketTaken h p).offersWithdrawn _ p)

theorem unfinishedOn_received (h : HostNo) (p : PaneNo) (s : State) :
    unfinishedOn (s.received h) h p = unfinishedOn s h p := by simp [unfinishedOn]

/-! ## PANE_COMMIT (R35, R36, R39) -/

/-- Settles O29: the checks in their order, then the commit held or taken. -/
theorem paneCommit : Obligations.PaneCommit := by
  unfold Obligations.PaneCommit
  intro s h tag p ⟨speaks, run⟩
  dsimp only
  have commits : exec (.paneCommit h tag (byteOf p.val)) s =
      .next (takePaneCommit h tag (byteOf p.val) (s.received h)) :=
    congrArg _ (request_speaks h .paneCommit tag _ s speaks)
  rw [commits, takePaneCommit, withPane_received _ _ _ _ _ _ _ run]
  simp only [commitChecks, ownerChecks, List.cons_append, List.nil_append, firstFailing_cons_elim, firstFailing_nil_elim,
    received_frame, Bool.or_eq_true, decide_eq_true_eq, commitPane, unfinishedOn_received, takeCommit_received]
  refine ⟨fun unowned => by rw [if_pos unowned], fun free orphaned other => by simp [free, orphaned, other],
    fun owner retiring => by simp [owner, retiring], fun owner kept => ?_⟩
  have owned : ¬((s.pane p).state = .free ∨ (s.pane p).state = .orphaned) ∧ (s.pane p).state ≠ .retiring := by
    rcases kept with state | state <;> simp [state]
  rw [if_neg owned.1, if_neg (not_not.2 owner), if_neg owned.2]
  refine ⟨fun pending => ?_, fun settled held => ?_, fun settled free work => ?_, fun settled free idle => ?_⟩
  · rw [if_pos (Option.isSome_iff_ne_none.2 pending)]
  · simp [settled, Option.isSome_iff_ne_none.2 held]
  · have behind : unfinishedOn s h p ≠ 0 := work
    simp only [settled, free, Option.isSome_none, Bool.false_eq_true, if_false, if_neg behind]
    rfl
  · have behind : unfinishedOn s h p = 0 := idle
    simp only [settled, free, Option.isSome_none, Bool.false_eq_true, if_false, if_pos behind]
    refine ⟨_, rfl, ?_, ?_, rfl, fun g => Vector.getElem_map .., rfl, rfl, rfl, rfl, rfl, rfl, rfl, rfl⟩ <;>
    · rw [← heard_tickets]
      rfl

end Sys2Proof.Machine
end

section
/-! The line queue, the urgency and the Parked List after every step (R54, R58, R65, R95): settles O58. -/
namespace Sys2Proof.Machine

/-! ## What leaves the scan as it stands -/

/-- Line queue, urgency and settings stay, the latch in flight keeps its line, and parked accesses at most leave the list. -/
structure ScanStill (s t : State) : Prop where
  queue : t.scan.queue = s.scan.queue
  latch : t.scan.latch.map Latch.line = s.scan.latch.map Latch.line
  urgency : t.arbiter.urgency = s.arbiter.urgency
  settings : t.conf.settings = s.conf.settings
  parked : t.parked.Sublist s.parked

/-- The laws of the line queue, the urgency and the Parked List (R54, R58, R65, R95). -/
def ScanLaws (s : State) : Prop := s.lineQueueOk ∧ s.parkedOk

theorem ScanStill.refl (s : State) : ScanStill s s := ⟨rfl, rfl, rfl, rfl, List.Sublist.refl _⟩

theorem ScanStill.trans {s t u : State} (first : ScanStill s t) (second : ScanStill t u) : ScanStill s u :=
  ⟨second.queue.trans first.queue, second.latch.trans first.latch, second.urgency.trans first.urgency,
    second.settings.trans first.settings, second.parked.trans first.parked⟩

theorem lineQueueOk_of_same {s t : State} (ok : s.lineQueueOk) (queue : t.scan.queue = s.scan.queue)
    (latch : t.scan.latch.map Latch.line = s.scan.latch.map Latch.line) (urgency : t.arbiter.urgency = s.arbiter.urgency)
    (settings : t.conf.settings = s.conf.settings) : t.lineQueueOk := by
  have inFlight : t.scan.latch.isSome = s.scan.latch.isSome := by simpa using congrArg Option.isSome latch
  unfold State.lineQueueOk
  rw [queue, inFlight, urgency, settings]
  exact ok

/-- Entries of the Parked List are of the latch's line. -/
theorem parkedOk_of_same {s t : State} (ok : s.parkedOk)
    (latch : t.scan.latch.map Latch.line = s.scan.latch.map Latch.line) (parked : t.parked.Sublist s.parked) :
    t.parkedOk := by
  refine ⟨parked.length_le.trans ok.1, fun e listed => ?_⟩
  obtain ⟨l, inFlight, line⟩ := ok.2 e (parked.subset listed)
  rw [inFlight] at latch
  obtain ⟨m, now, same⟩ := Option.map_eq_some_iff.1 latch
  exact ⟨m, now, same.trans line⟩

theorem ScanLaws.still {s t : State} (laws : ScanLaws s) (still : ScanStill s t) : ScanLaws t :=
  ⟨lineQueueOk_of_same laws.1 still.queue still.latch still.urgency still.settings,
    parkedOk_of_same laws.2 still.latch still.parked⟩

theorem ScanStill.of_same {s t : State} (queue : t.scan.queue = s.scan.queue) (latch : t.scan.latch = s.scan.latch)
    (urgency : t.arbiter.urgency = s.arbiter.urgency) (settings : t.conf.settings = s.conf.settings)
    (parked : t.parked = s.parked) : ScanStill s t :=
  ⟨queue, by rw [latch], urgency, settings, by rw [parked]⟩

theorem forEach_still {α : Type} (f : α → State → State) (turn : ∀ a t, ScanStill t (f a t)) (l : List α) (s : State) :
    ScanStill s (forEach l f s) :=
  forEach_induct (ScanStill s) f (fun a t still => still.trans (turn a t)) l s (.refl s)

theorem reply_still (h : HostNo) (k : Kind) (tag : Byte) (st : Status) (pl : Payload) (s : State) :
    ScanStill s (reply h k tag st pl s) := by apply ScanStill.of_same <;> simp

theorem postTo_still (hs : List HostNo) (e : Event) (s : State) : ScanStill s (postTo hs e s) := by
  apply ScanStill.of_same <;> simp

/-! ## Stopped and dropped work, guests and departures (R86 to R88) -/

theorem stopOps_still (h : HostNo) (test : CellOp → Bool) (parked : Parked → Bool) (status : Status) (s : State) :
    ScanStill s (stopOps h test parked status s) := ⟨rfl, rfl, rfl, rfl, List.filter_sublist⟩

theorem dropOps_still (h : HostNo) (s : State) : ScanStill s (dropOps h s) :=
  ⟨rfl, rfl, rfl, rfl, List.filter_sublist⟩

theorem endWork_still (panes : List PaneNo) (status : Status) (h : HostNo) (s : State) :
    ScanStill s (endWork panes status h s) :=
  (stopOps_still h (·.onSome panes) (fun e => panes.contains e.pane) status s).trans
    (.of_same (by simp [endWork]) (by simp [endWork]) (by simp [endWork]) (by simp [endWork]) (by simp [endWork]))

theorem revokeGuest_still (p : PaneNo) (owner : HostNo) (reason : RevokeReason) (g : HostNo) (s : State) :
    ScanStill s (revokeGuest p owner reason g s) :=
  (endWork_still [p] .revoked g s).trans
    (.of_same (by simp [revokeGuest]) (by simp [revokeGuest]) (by simp [revokeGuest]) (by simp [revokeGuest])
      (by simp [revokeGuest]))

theorem changeGuest_still (h : HostNo) (p : PaneNo) (named : Option HostNo) (s : State) :
    ScanStill s (changeGuest h p named s) := by
  have changed : ScanStill s (s.setPane p { s.pane p with guest := named }) := by apply ScanStill.of_same <;> rfl
  exact (changed.trans (forEach_still _ (fun g t => revokeGuest_still p h _ g t) _ _)).trans (postTo_still ..)

theorem departGuest_still (h : HostNo) (kind : Departure) (g : HostNo) (panes : List PaneNo) (s : State) :
    ScanStill s (departGuest h kind g panes s) :=
  (endWork_still panes (guestEnd kind).1 g s).trans
    (forEach_still _ (fun p t => by apply ScanStill.of_same <;> simp) _ _)

theorem departPanes_still (h : HostNo) (kind : Departure) (s : State) : ScanStill s (departPanes h kind s) := by
  unfold departPanes
  dsimp only
  refine .trans (.trans (.trans (forEach_still _ ?_ _ _) (forEach_still _ ?_ _ _)) (forEach_still _ ?_ _ _))
    (forEach_still _ ?_ _ _)
  · exact fun p t => by apply ScanStill.of_same <;> simp
  · exact fun g t => departGuest_still h kind g _ t
  · exact fun p t => by apply ScanStill.of_same <;> simp
  · exact fun p t => by apply ScanStill.of_same <;> simp

theorem silentlyLeft_still (h : HostNo) (kind : Departure) (s : State) : ScanStill s (silentlyLeft h kind s) := by
  have port : ScanStill s (clearEvents h (portDeparture h (kind = .lapse) s)) := by apply ScanStill.of_same <;> simp
  have dropped := (port.trans (departPanes_still h kind _)).trans (dropOps_still h _)
  refine dropped.trans ?_
  unfold silentlyLeft
  apply ScanStill.of_same <;> simp

/-! ## What follows at once (R66, R94) -/

/-- A latch's line does not depend on its torn flag. -/
theorem line_of_bare {l m : Option Latch} (same : m.map Latch.bare = l.map Latch.bare) :
    m.map Latch.line = l.map Latch.line := by
  have line (n : Option Latch) : n.map Latch.line = (n.map Latch.bare).map Latch.line := by cases n <;> rfl
  rw [line, same, ← line]

theorem Granted.line {s t : State} (granted : Granted s t) : t.scan.latch.map Latch.line = s.scan.latch.map Latch.line :=
  line_of_bare granted.latch

/-- An access is parked only where a place is left, and its line is the latch's (R94, R95). -/
theorem parkOrPass_parkedOk (h : HostNo) (v : Service) (l : Latch) (s : State) (latch : s.scan.latch = some l)
    (line : l.line = v.line) (ok : s.parkedOk) : (parkOrPass h v l s).parkedOk := by
  have granted := parkOrPass_granted h v l s latch
  unfold parkOrPass at granted ⊢
  split
  · next room =>
    refine ⟨?_, fun e listed => ?_⟩
    · have room : s.parked.length < 8 := room
      simpa using room
    · rcases List.mem_append.1 (show e ∈ s.parked ++ [parkedEntry h v] by simpa using listed) with before | added
      · simpa using ok.2 e before
      · obtain rfl := List.mem_singleton.1 added
        exact ⟨l, by simpa using latch, line⟩
  · next full =>
    rw [if_neg full] at granted
    exact parkedOk_of_same ok granted.line (by simp)

theorem resolveConflict_parkedOk (h : HostNo) (v : Service) (l : Latch) (s : State) (latch : s.scan.latch = some l)
    (line : l.line = v.line) (ok : s.parkedOk) : (resolveConflict h v l s).parkedOk := by
  unfold resolveConflict
  split
  · exact parkedOk_of_same ok (passGrant_granted _ h v l s latch).line (by simp)
  · exact parkOrPass_parkedOk h v l s latch line ok
  · split
    · have told : (reportFault (conflictFault .relatchLimit h v l) s).parkedOk :=
        parkedOk_of_same ok (by simp) (by simp)
      exact parkOrPass_parkedOk h v l _ (by simpa using latch) line told
    · split
      · exact parkedOk_of_same ok (by simp) (by simp)
      · exact parkOrPass_parkedOk h v l s latch line ok

theorem conflictOf_line (s : State) (v : Service) (l : Latch) (conflict : conflictOf s v = some l) : l.line = v.line := by
  rw [conflictOf, conflictOf_latch s v l conflict] at conflict
  have meets := (Option.ite_none_right_eq_some.1 conflict).1
  simp only [Bool.and_eq_true, decide_eq_true_eq] at meets
  exact meets.2

theorem serveHost_parkedOk (h : HostNo) (s : State) (ok : s.parkedOk) : (serveHost h s).parkedOk := by
  unfold serveHost
  split
  · exact ok
  · next v _ =>
    split
    · exact parkedOk_of_same ok (by simp) (by simp)
    · split
      · next l conflict =>
        exact resolveConflict_parkedOk h v l s (conflictOf_latch s v l conflict) (conflictOf_line s v l conflict) ok
      · exact parkedOk_of_same ok (by simp) (by simp)

theorem arbitrate_parkedOk (n : Nat) (s : State) (ok : s.parkedOk) : (arbitrate n s).parkedOk := by
  induction n generalizing s with
  | zero => exact ok
  | succ n ih =>
    unfold arbitrate
    split
    · exact ok
    · split
      · exact ok
      · split
        · exact parkedOk_of_same ok (by simp) (by simp)
        · exact ok
      · split
        · exact ih _ (serveHost_parkedOk _ s ok)
        · exact ok

theorem settle_line (s : State) : (settle s).scan.latch.map Latch.line = s.scan.latch.map Latch.line :=
  line_of_bare (settle_latch s)

theorem ScanLaws.settle {s : State} (laws : ScanLaws s) : ScanLaws (settle s) := by
  refine ⟨lineQueueOk_of_same laws.1 (by simp) (settle_line s) (by simp) (by simp), ?_⟩
  unfold Machine.settle
  split
  · exact arbitrate_parkedOk 5 _ (parkedOk_of_same laws.2 (by simp) (by simp))
  · exact laws.2

/-! ## Latches (R53 to R58) -/

/-- A latch starts only where the queue has room (R54). -/
theorem startLatchAs_lineQueueOk (frame : Half) {s : State} (ok : s.lineQueueOk) : (startLatchAs frame s).lineQueueOk := by
  unfold startLatchAs
  dsimp only
  split
  · next starts =>
    have room : s.scan.queue.length < 4 := of_decide_eq_true (Bool.and_eq_true_iff.1 starts).2
    obtain ⟨most, -, urgency⟩ := ok
    split <;> exact ⟨by simpa using most, fun _ => by simpa using room, by simpa using urgency⟩
  · exact ok

/-- A latch starts only where none is in flight, so that nothing is parked (R54, R95). -/
theorem startLatchAs_parkedOk (frame : Half) {s : State} (ok : s.parkedOk) : (startLatchAs frame s).parkedOk := by
  unfold startLatchAs
  dsimp only
  split
  · next starts =>
    have idle : s.scan.latch = none := by simp_all
    have empty : s.parked = [] := List.eq_nil_iff_forall_not_mem.2 fun e listed => by
      obtain ⟨l, inFlight, -⟩ := ok.2 e listed
      simp [idle] at inFlight
    split <;> simp [State.parkedOk, empty]
  · exact ok

theorem ScanLaws.startLatch {s : State} (laws : ScanLaws s) : ScanLaws (startLatch s) :=
  ⟨startLatchAs_lineQueueOk _ laws.1, startLatchAs_parkedOk _ laws.2⟩

/-- With the Parked List released nothing has to be of the latch's line. -/
theorem releaseParked_laws {s : State} (ok : s.lineQueueOk) : ScanLaws (releaseParked s) :=
  ⟨lineQueueOk_of_same ok (by simp) (by simp) (by simp) (by simp), by simp [State.parkedOk, releaseParked_list]⟩

/-- Both orders of R97 leave the laws, whatever was parked. -/
theorem releaseAndStart_laws {s : State} (ok : s.lineQueueOk) : ScanLaws (releaseAndStart s) := by
  unfold releaseAndStart
  dsimp only
  split
  · split
    · exact (releaseParked_laws (s := s.setChoices (s.choices + 1)) ok).startLatch
    · exact releaseParked_laws (startLatchAs_lineQueueOk _ (s := s.setChoices (s.choices + 1)) ok)
  · exact (releaseParked_laws ok).startLatch

/-- A completed line finds a place, since its latch was in flight (R54, R57). -/
theorem completeLatch_laws (l : Latch) {s : State} (ok : s.lineQueueOk) (latch : s.scan.latch.isSome = true) :
    ScanLaws (completeLatch l s) :=
  releaseAndStart_laws ⟨by simpa using ok.2.1 latch, fun inFlight => by simp at inFlight, by simp [refreshUrgency]⟩

theorem ScanLaws.gatherSegment (cells : List Cell) {s : State} (laws : ScanLaws s) : ScanLaws (gatherSegment cells s) := by
  unfold Machine.gatherSegment
  split
  · exact laws
  · next l latch =>
    dsimp only
    split
    · exact laws.still ⟨rfl, by simp [latch], rfl, rfl, List.Sublist.refl _⟩
    · exact completeLatch_laws _ laws.1 (by simp [latch])

theorem restartLatch_still (restart : Option (Half × Nat)) (s : State) : ScanStill s (restartLatch restart s) := by
  unfold restartLatch
  split
  · next l latch =>
    split
    · exact ⟨rfl, by simp [latch], rfl, rfl, List.Sublist.refl _⟩
    · exact .refl s
  · exact .refl s

/-! ## Line marks (R51, R59, R62, R63) -/

theorem ScanLaws.underrun (k : Nat) {s : State} (laws : ScanLaws s) : ScanLaws (underrun k s) := by
  unfold Machine.underrun
  dsimp only
  generalize markPackets s.scan.emission k false true (backdropLine s) = packets
  generalize faultReport .underrun none none (some k) (emit packets s).scan.emission = r
  have told : ScanLaws (reportFault r (emit packets s)) := laws.still (by apply ScanStill.of_same <;> simp)
  split
  · exact releaseAndStart_laws ⟨by simpa using told.1.1, fun inFlight => by simp [abandonLatch] at inFlight,
      by simpa using told.1.2.2⟩
  · exact ScanLaws.startLatch (told.still (by apply ScanStill.of_same <;> simp))

theorem ScanLaws.visibleMark (k : Nat) {s : State} (laws : ScanLaws s) : ScanLaws (visibleMark k s) := by
  unfold Machine.visibleMark
  split
  · next e rest head =>
    split
    · dsimp only
      obtain ⟨⟨most, room, -⟩, parked⟩ := laws
      rw [head, List.length_cons] at most room
      have shorter : (refreshUrgency ((emit (markPackets s.scan.emission k e.torn false e.cells) s).setScan
          { (emit (markPackets s.scan.emission k e.torn false e.cells) s).scan with queue := rest })).lineQueueOk :=
        ⟨by simp; omega, fun inFlight => by simp; omega, by simp [refreshUrgency]⟩
      exact ScanLaws.startLatch ⟨shorter, parkedOk_of_same parked (by simp) (by simp)⟩
    · exact laws.underrun k
  · exact laws.underrun k

theorem ScanLaws.lineMark {s : State} (laws : ScanLaws s) : ScanLaws (lineMark s) := by
  unfold Machine.lineMark
  split
  · refine ScanLaws.settle ?_
    unfold markWork
    dsimp only
    generalize s.scan.mark.isNone = first
    generalize nextMark s = k
    have marked : ScanLaws (announceBlanking first k (advanceMark s)) :=
      laws.still (by apply ScanStill.of_same <;> simp)
    split
    · exact marked.visibleMark k
    · exact marked
  · exact laws

/-! ## Completions of store accesses -/

theorem ScanLaws.segmentReadComplete {s : State} (laws : ScanLaws s) : ScanLaws (segmentReadComplete s) := by
  have free : ScanLaws (freeStore s) := laws.still (by apply ScanStill.of_same <;> rfl)
  unfold Machine.segmentReadComplete
  split
  · split
    · exact (free.gatherSegment _).settle
    · exact free.settle
  · exact laws

theorem ScanLaws.writeAccessComplete {s : State} (laws : ScanLaws s) : ScanLaws (writeAccessComplete s) := by
  unfold Machine.writeAccessComplete
  split
  · next live h bank line first cells restart _ =>
    have stored : ScanLaws (restartLatch restart (storeCells bank line first cells (freeStore s))) :=
      (laws.still (by apply ScanStill.of_same <;> simp)).still (restartLatch_still restart _)
    split
    · exact (stored.still (by apply ScanStill.of_same <;> simp)).settle
    · exact stored.settle
  · exact laws

theorem ScanLaws.readAccessComplete {s : State} (laws : ScanLaws s) : ScanLaws (readAccessComplete s) := by
  have free : ScanLaws (freeStore s) := laws.still (by apply ScanStill.of_same <;> rfl)
  unfold Machine.readAccessComplete
  split
  · split
    · exact (free.still (by apply ScanStill.of_same <;> simp)).settle
    · exact free.settle
  · exact laws

/-! ## Departures and resets -/

theorem ScanLaws.partReset (cause : Cause) (s : State) : ScanLaws (partReset cause s) := by
  constructor
  · simp [State.lineQueueOk, Machine.partReset, Scan.reset, Arbiter.reset, ConfigBlock.reset, Settings.reset, urgencyOf]
  · simp [State.parkedOk, Machine.partReset]

theorem ScanLaws.judgeVote {s : State} (laws : ScanLaws s) : ScanLaws (judgeVote s) := by
  rcases judgeVote_cases s with same | closed | reset
  · rwa [same]
  · rw [closed]; exact laws.still (by apply ScanStill.of_same <;> simp)
  · rw [reset]; exact .partReset .vote s

theorem ScanLaws.departSilently (h : HostNo) (kind : Departure) {s : State} (laws : ScanLaws s) :
    ScanLaws (departSilently h kind s) := by
  rw [departSilently_eq]
  exact (laws.still (silentlyLeft_still h kind s)).judgeVote.settle

theorem ScanLaws.detachHost (h : HostNo) (tag : Byte) (mode : DetachMode) {s : State} (laws : ScanLaws s) :
    ScanLaws (detachHost h tag mode s) := by
  have left : ScanStill s (leaveActive h .absent s) := by apply ScanStill.of_same <;> simp
  have stopped : ScanLaws (detachStopped h mode s) :=
    laws.still ((left.trans (departPanes_still h _ _)).trans (stopOps_still h _ _ _ _))
  unfold Machine.detachHost
  refine ((stopped.still ?_).judgeVote).settle
  apply ScanStill.of_same <;> simp [detachStopped]

/-! ## Requests -/

theorem ScanLaws.reply {s : State} (laws : ScanLaws s) (h : HostNo) (k : Kind) (tag : Byte) (st : Status) (pl : Payload) :
    ScanLaws (reply h k tag st pl s) := laws.still (reply_still ..)

theorem ScanLaws.hostCheck (h : HostNo) (k : Kind) (tag : Byte) (take : State → State) {s : State} (laws : ScanLaws s)
    (taken : ∀ u, ScanLaws u → ScanLaws (take u)) : ScanLaws (hostCheck h k tag take s) := by
  rcases hostCheck_cases h k tag take s with ⟨-, taking⟩ | ⟨status, answered⟩
  · rw [taking]; exact taken _ (laws.still (by apply ScanStill.of_same <;> simp))
  · rw [answered]; exact laws.reply ..

theorem ScanLaws.withPane (h : HostNo) (k : Kind) (tag sel : Byte) (checks : PaneNo → List (Bool × Status))
    (take : PaneNo → State → State) {s : State} (laws : ScanLaws s) (taken : ∀ p, ScanLaws (take p s)) :
    ScanLaws (withPane h k tag sel checks take s) := by
  rcases withPane_cases h k tag sel checks take s with ⟨status, answered⟩ | ⟨p, -, -, taking⟩
  · rw [answered]; exact laws.reply ..
  · rw [taking]; exact taken p

/-- The urgency follows a changed level at once (R65). -/
theorem ScanLaws.takeConfigSet (h : HostNo) (tag field : Byte) (value : Half) (cell : Option RawCell) {s : State}
    (laws : ScanLaws s) : ScanLaws (takeConfigSet h tag field value cell s) := by
  unfold Machine.takeConfigSet
  split
  · exact laws.reply ..
  · split
    · exact laws.reply ..
    · next f _ =>
      split
      · exact laws.reply ..
      · next v _ =>
        have set : ScanLaws (refreshUrgency (s.setConf { s.conf with
            settings := setField s.conf.settings f v, writers := s.conf.writers.set f (some h) })) :=
          ⟨⟨laws.1.1, laws.1.2.1, rfl⟩, laws.2⟩
        exact set.reply ..

theorem ScanLaws.enterRun {s : State} (laws : ScanLaws s) : ScanLaws (enterRun s) := by
  unfold Machine.enterRun
  dsimp only
  have running : ScanStill s (forEach allHosts loadIfActive (forEach allHosts copyHostFields
      (s.setConf { s.conf with part := .run, vote := .idle, window := 0 }))) := by apply ScanStill.of_same <;> simp
  generalize forEach allHosts loadIfActive (forEach allHosts copyHostFields
    (s.setConf { s.conf with part := .run, vote := .idle, window := 0 })) = u at running
  have entered := laws.still running
  exact ⟨startLatchAs_lineQueueOk 0 ⟨entered.1.1, entered.1.2.1, rfl⟩, startLatchAs_parkedOk 0 entered.2⟩

theorem ScanLaws.takeStart (h : HostNo) (tag : Byte) {s : State} (laws : ScanLaws s) : ScanLaws (takeStart h tag s) := by
  unfold Machine.takeStart
  split
  · exact laws.reply ..
  · split
    · exact laws.reply ..
    · exact (laws.enterRun.reply ..).settle

theorem ScanLaws.takeResetVote (h : HostNo) (tag : Byte) {s : State} (laws : ScanLaws s) :
    ScanLaws (takeResetVote h tag s) := by
  unfold Machine.takeResetVote
  split
  · have opened : ScanStill s (if s.conf.vote = .idle then openVote h s else s) := by
      split
      · apply ScanStill.of_same <;> simp
      · exact .refl s
    dsimp only
    generalize (if s.conf.vote = .idle then openVote h s else s) = u at opened
    have counted : ScanLaws (u.setHost h { u.host h with vote := true }) :=
      (laws.still opened).still (by apply ScanStill.of_same <;> rfl)
    exact (counted.reply ..).judgeVote
  · exact laws.reply ..

theorem ScanLaws.takeDetach (h : HostNo) (tag mode : Byte) {s : State} (laws : ScanLaws s) :
    ScanLaws (takeDetach h tag mode s) := by
  unfold Machine.takeDetach
  split
  · exact laws.reply ..
  · exact laws.detachHost ..

theorem ScanLaws.takePaneGuest (h : HostNo) (tag sel : Byte) (arg : Half) {s : State} (laws : ScanLaws s) :
    ScanLaws (takePaneGuest h tag sel arg s) := by
  refine laws.withPane _ _ _ _ _ _ fun p => ?_
  unfold guestPane
  split
  · exact laws.reply ..
  · exact ((laws.still (changeGuest_still h p _ s)).reply ..).settle

theorem ScanLaws.takePaneRelease (h : HostNo) (tag sel : Byte) {s : State} (laws : ScanLaws s) :
    ScanLaws (takePaneRelease h tag sel s) := by
  refine laws.withPane _ _ _ _ _ _ fun p => ?_
  have answered : ScanStill s (answerAll h ((s.pane p).held.toList.map cancelledHeld)
      (s.setPane p (releasedPane (s.pane p)))) := by apply ScanStill.of_same <;> simp
  have ended := (answered.trans (endWork_still [p] .cancelled h _)).trans
    (forEach_still (endWork [p] .cancelled) (endWork_still [p] .cancelled) (s.pane p).guest.toList _)
  exact ((laws.still (ended.trans (postTo_still ..))).reply ..).settle

theorem ScanLaws.joinLane (h : HostNo) (op : CellOp) {s : State} (laws : ScanLaws s) : ScanLaws (joinLane h op s) := by
  unfold Machine.joinLane
  split
  · exact ScanLaws.settle laws
  · exact laws.reply ..

theorem ScanLaws.takeRequest (i : Instr) {s : State} (laws : ScanLaws s) : ScanLaws (takeRequest i s) := by
  cases i
  case attach =>
    exact laws.still (by apply ScanStill.of_same <;> simp [Machine.takeRequest, attachTaken, takeAttach])
  case status =>
    exact laws.still (by apply ScanStill.of_same <;> simp [Machine.takeRequest, statusTaken, takeStatus])
  case detach => exact laws.hostCheck _ _ _ _ fun u stands => stands.takeDetach ..
  case configSet => exact laws.hostCheck _ _ _ _ fun u stands => stands.takeConfigSet ..
  case start => exact laws.hostCheck _ _ _ _ fun u stands => stands.takeStart ..
  case resetVote => exact laws.hostCheck _ _ _ _ fun u stands => stands.takeResetVote ..
  case paneGuest => exact laws.hostCheck _ _ _ _ fun u stands => stands.takePaneGuest ..
  case paneRelease => exact laws.hostCheck _ _ _ _ fun u stands => stands.takePaneRelease ..
  case cellWrite | cellFill | cellRead => exact laws.hostCheck _ _ _ _ fun u stands => stands.joinLane ..
  case paneClaim =>
    exact laws.hostCheck _ _ _ _ fun u stands =>
      stands.still (by unfold takePaneClaim; (repeat' split) <;> apply ScanStill.of_same <;> simp)
  case paneStage | paneCommit | paneAdopt | paneQuery =>
    exact laws.hostCheck _ _ _ _ fun u stands => stands.withPane _ _ _ _ _ _ fun p =>
      stands.still (by apply ScanStill.of_same <;> simp)
  case configGet =>
    exact laws.hostCheck _ _ _ _ fun u stands =>
      stands.still (by unfold takeConfigGet; split <;> apply ScanStill.of_same <;> simp)
  case faultRead =>
    exact laws.hostCheck _ _ _ _ fun u stands =>
      stands.still (by unfold takeFaultRead; (repeat' split) <;> apply ScanStill.of_same <;> simp)
  case faultClear =>
    exact laws.hostCheck _ _ _ _ fun u stands => stands.still
      (by unfold takeFaultClear takeFaultClearOverflow clearSlot; (repeat' split) <;> apply ScanStill.of_same <;> simp)
  case faultClearOverflow =>
    exact laws.hostCheck _ _ _ _ fun u stands => stands.still (by apply ScanStill.of_same <;> simp [takeFaultClearOverflow])
  case eventFetch =>
    exact laws.hostCheck _ _ _ _ fun u stands => stands.still (by apply ScanStill.of_same <;> simp [takeEventFetch])
  case panelSend => exact laws.hostCheck _ _ _ _ fun u stands => stands.still (by apply ScanStill.of_same <;> simp)
  all_goals exact laws

theorem ScanLaws.served {h : HostNo} {s t : State} (laws : ScanLaws s) (served : Served h s t) : ScanLaws t := by
  cases served with
  | unserved => exact laws
  | dropped => exact laws.still (by apply ScanStill.of_same <;> simp)
  | answered r => exact laws.still (by apply ScanStill.of_same <;> simp)
  | taken i tag source counts =>
    exact ScanLaws.takeRequest i (laws.still (t := takeSlot h s) (by apply ScanStill.of_same <;> simp))

/-! ## Every step -/

theorem ScanLaws.exchangeEnd (h : HostNo) (bytes : List Byte) {s : State} (laws : ScanLaws s) :
    ScanLaws (exchangeEnd h bytes s) := by
  unfold Machine.exchangeEnd
  split
  · exact laws
  · next x _ =>
    exact (laws.still (t := removeSent h x bytes.length s) (by apply ScanStill.of_same <;> simp)).served
      (handleFrame_served _ _ _)

theorem ScanLaws.presentDeasserted (h : HostNo) {s : State} (laws : ScanLaws s) : ScanLaws (presentDeasserted h s) := by
  unfold Machine.presentDeasserted
  split
  · have down : ScanLaws (dropLine h s) := laws.still (by apply ScanStill.of_same <;> simp)
    dsimp only
    split
    · exact ScanLaws.departSilently _ _ (down.still (by apply ScanStill.of_same <;> simp))
    · exact down.still (by apply ScanStill.of_same <;> rfl)
    · exact down
  · exact laws

theorem ScanLaws.leaseExpiry (h : HostNo) {s : State} (laws : ScanLaws s) : ScanLaws (leaseExpiry h s) := by
  unfold Machine.leaseExpiry
  split
  · exact ScanLaws.departSilently _ _ (laws.still (by apply ScanStill.of_same <;> simp))
  · exact laws

theorem completion_next {f : State → State} {s t : State} (run : completion f s = .next t) : f s = t := by
  unfold completion at run
  split at run
  · exact Host.Outcome.next.inj run
  · cases run

theorem ScanLaws.exec (c : Instr) {s t : State} (laws : ScanLaws s) (run : exec c s = .next t) : ScanLaws t := by
  cases source : requestSource c with
  | some origin =>
    obtain ⟨u, leaves, taken⟩ := exec_served c origin.1 origin.2 s source
    obtain rfl : u = t := Host.Outcome.next.inj (leaves.symm.trans run)
    exact laws.served taken
  | none =>
    cases c <;> simp only [requestSource, reduceCtorEq] at source
    case segmentReadComplete => exact completion_next run ▸ laws.segmentReadComplete
    case writeAccessComplete => exact completion_next run ▸ laws.writeAccessComplete
    case readAccessComplete => exact completion_next run ▸ laws.readAccessComplete
    all_goals obtain rfl := Host.Outcome.next.inj run
    case powerOn | resetPin => exact .partReset _ _
    case exchangeEnd => exact laws.exchangeEnd _ _
    case hostPresentDeasserted => exact laws.presentDeasserted _
    case leaseExpiry => exact laws.leaseExpiry _
    case lineMark => exact laws.lineMark
    all_goals exact laws.still (by apply ScanStill.of_same <;> simp [presentAsserted])

/-- Settles O58: what an event does to the scan, what follows at once, and every step as a run of events. -/
theorem lineQueueAndParkedListLaws : Obligations.LineQueueAndParkedListLaws := by
  unfold Obligations.LineQueueAndParkedListLaws
  intro s t queue parked run
  have laws : ScanLaws s := ⟨queue, parked⟩
  exact step_induct ScanLaws s t run (fun _ => laws) (laws.still (by apply ScanStill.of_same <;> simp))
    fun c _ _ stands => stands.exec c

end Sys2Proof.Machine
end

section
/-! The scan link (R61, R147, R150): settles O37. -/
namespace Sys2Proof.Machine

/-- With the link DOWN no transfer starts (R147). -/
theorem startTransfer_down (s : State) (down : s.scan.link = .down) : startTransfer s = s := by
  unfold startTransfer
  split
  · rw [if_neg (by simp [down])]
  · rfl

/-- The end of the transfer in flight with LINK_DOWN: answered unless it is to be discarded, and no other starts (R150,
R151). -/
theorem endTransfer_linkDown (s : State) (down : s.scan.link = .down) (f : InFlight) (flying : s.panel.inFlight = some f) :
    endTransfer .linkDown s =
      if f.discard then s.setPanel { s.panel with inFlight := none, timer := none }
      else reply f.transfer.host .panelSend f.transfer.tag .linkDown (.panel f.transfer.address f.attempts)
        (s.setPanel { s.panel with inFlight := none, timer := none }) := by
  unfold endTransfer
  simp only [flying, reduceCtorEq, if_false]
  split <;> exact startTransfer_down _ (by simpa using down)

/-- Settles O37: each change of PRDY by the level the link has. -/
theorem linkChanges : Obligations.LinkChanges := by
  unfold Obligations.LinkChanges
  intro s
  have up (isDown : s.scan.link = .down) : linkUp s = startTransfer (s.setScan { s.scan with
      link := .up, emitter := if s.resetPin then s.scan.emitter else .resuming }) := if_neg (by simp [isDown])
  refine ⟨fun isUp => congrArg _ (if_pos isUp), fun isDown released => ?_, fun isDown held => ?_,
    fun isDown => congrArg _ (if_pos isDown), fun isUp => ?_⟩
  · refine congrArg Host.Outcome.next ((up isDown).trans ?_)
    rw [startTransfer_eq, released]
    rfl
  · refine congrArg Host.Outcome.next ((up isDown).trans ?_)
    rw [startTransfer_eq, held]
    rfl
  · have down : linkDown s = endTransfer .linkDown
        (s.setScan { s.scan with link := .down, emitter := .silent, lane := [] }) := if_neg (by simp [isUp])
    refine ⟨fun idle => congrArg _ (down.trans ?_), fun f flying => ?_⟩
    · simp [endTransfer, idle]
    · have ended := down.trans (endTransfer_linkDown _ rfl f flying)
      refine ⟨fun discarded => congrArg _ (ended.trans (if_pos discarded)), fun kept => congrArg _ (ended.trans ?_)⟩
      rw [if_neg (by simp [kept]), reply, answer_eq]
      rfl

end Sys2Proof.Machine
end

section
/-! One tick of the clock (R51, R111 to R113, R148, R158): settles O3. -/
namespace Sys2Proof.Machine

/-! ## Counting -/

/-- The state once every timer has counted one tick (R51, R60, R111, R148, R158). -/
def State.counted (s : State) : State :=
  { s with
    hosts := .ofFn fun h =>
      if s.isActive h = true ∧ s.inRun = true then { s.host h with lease := (s.host h).lease - 1 } else s.host h
    scan := if s.inRun = true then { s.scan with timer := s.scan.timer - 1, lane := s.scan.lane.tail } else s.scan
    panel := { s.panel with timer := s.panel.timer.map (· - 1) }
    conf := { s.conf with window := if s.conf.vote = .opened ∧ s.inRun = true then s.conf.window - 1
      else s.conf.window } }

/-- The blocks in which nothing counts. -/
@[simp] theorem State.counted_frame (s : State) : s.counted.pending = s.pending ∧ s.counted.choices = s.choices ∧
    s.counted.resetPin = s.resetPin ∧ s.counted.store = s.store ∧ s.counted.arbiter = s.arbiter ∧
    s.counted.parked = s.parked ∧ s.counted.faults = s.faults ∧ (∀ p, s.counted.pane p = s.pane p) ∧
    (∀ h, s.counted.lane h = s.lane h) ∧ (∀ h, s.counted.port h = s.port h) ∧ ∀ h, s.counted.queue h = s.queue h :=
  ⟨rfl, rfl, rfl, rfl, rfl, rfl, rfl, fun _ => rfl, fun _ => rfl, fun _ => rfl, fun _ => rfl⟩

theorem countWindow_eq (s : State) : countWindow s = s.setConf { s.conf with
    window := if s.conf.vote = .opened ∧ s.inRun = true then s.conf.window - 1 else s.conf.window } := by
  unfold countWindow
  by_cases running : s.conf.vote = .opened ∧ s.inRun = true
  · rw [if_pos running, if_pos (by simpa using running)]
  · rw [if_neg running, if_neg (by simpa using running)]
    rfl

theorem countLine_eq (s : State) : countLine s = s.setScan
    (if s.inRun = true then { s.scan with timer := s.scan.timer - 1, lane := s.scan.lane.tail } else s.scan) := by
  unfold countLine
  split <;> rfl

theorem countLease_host (h g : HostNo) (s : State) : (countLease h s).host g =
    if h = g ∧ s.isActive g = true ∧ s.inRun = true then { s.host g with lease := (s.host g).lease - 1 }
    else s.host g := by
  unfold countLease
  by_cases same : h = g
  · subst same
    by_cases running : s.isActive h = true ∧ s.inRun = true <;> simp [running]
  · split <;> simp [same]

theorem countLeases_host (g : HostNo) (s : State) : (forEach allHosts countLease s).host g =
    if s.isActive g = true ∧ s.inRun = true then { s.host g with lease := (s.host g).lease - 1 } else s.host g := by
  rw [forEach_allHosts]
  fin_cases g <;> simp [countLease_host, State.inRun]

theorem counted_host (g : HostNo) (s : State) : s.counted.host g =
    if s.isActive g = true ∧ s.inRun = true then { s.host g with lease := (s.host g).lease - 1 } else s.host g := by
  simp [State.counted, State.host]

theorem countTick_host (g : HostNo) (s : State) : (countTick s).host g = s.counted.host g := by
  have after : (countTick s).host g = (forEach allHosts countLease s).host g := by simp [countTick]
  rw [after, countLeases_host, counted_host]

theorem countTick_scan (s : State) : (countTick s).scan = s.counted.scan := by
  simp [countTick, countLine_eq, State.counted, State.inRun]

theorem countTick_eq (s : State) : countTick s = s.counted := by
  apply State.ext_records
  case hosts => exact fun g => countTick_host g s
  case scan => exact countTick_scan s
  case panel => simp [countTick, countReply, State.counted]
  case conf => simp [countTick, countWindow_eq, State.counted, State.inRun]
  all_goals simp

/-! ## Running out -/

theorem windowDue_eq (x : State) : windowDue x = if x.conf.window = 0 ∧ x.inRun = true then windowExpiry x else x := by
  unfold windowDue
  by_cases opened : x.conf.vote = .opened
  · simp [opened, and_comm]
  · simp [windowExpiry, opened]

/-- Outside its time neither an expiry nor a warning of a lease does anything (R112, R113). -/
theorem leaseDue_eq (h : HostNo) (x : State) : leaseDue h x =
    if (x.host h).lease = 0 then leaseExpiry h x
    else if (x.host h).lease ≤ x.conf.settings.leasePeriod * 100000 then leaseWarn h x else x := by
  have quarter : quarterLease x = x.conf.settings.leasePeriod * 100000 := by
    simp only [quarterLease, fullLease, Config.leaseUnit]
    omega
  unfold leaseDue
  rw [quarter]
  split
  · rfl
  · next idle => simp [leaseExpiry, leaseWarn, idle]

theorem lineDue_eq (x : State) : lineDue x = if x.scan.timer = 0 then lineMark x else x := by
  unfold lineDue
  cases run : x.inRun <;> simp [lineMark, run]

/-! ## Nothing due -/

section
variable {s : State}

theorem replyDue_idle (reply : ∀ n, s.panel.timer = some n → 2 ≤ n) : replyDue s.counted = s.counted := by
  refine if_neg fun out => ?_
  obtain ⟨n, running, last⟩ := Option.map_eq_some_iff.1 (show s.panel.timer.map (· - 1) = some 0 from out)
  have := reply n running
  omega

theorem windowDue_idle (window : s.conf.vote = .opened → s.inRun = true → 2 ≤ s.conf.window) :
    windowDue s.counted = s.counted := by
  refine if_neg fun out => ?_
  simp only [Bool.and_eq_true, decide_eq_true_eq] at out
  obtain ⟨⟨opened, run⟩, zero⟩ := out
  have running : s.conf.vote = .opened ∧ s.inRun = true := ⟨opened, run⟩
  have := window opened run
  rw [State.counted, if_pos running] at zero
  dsimp only at zero
  omega

theorem leaseDue_idle (h : HostNo) (lease : s.inRun = true → s.isActive h = true → 2 ≤ (s.host h).lease ∧
    ((s.host h).warned = true ∨ s.conf.settings.leasePeriod * 100000 < (s.host h).lease - 1)) :
    leaseDue h s.counted = s.counted := by
  by_cases running : s.isActive h = true ∧ s.inRun = true
  · obtain ⟨more, told⟩ := lease running.2 running.1
    have record : s.counted.host h = { s.host h with lease := (s.host h).lease - 1 } := by
      rw [counted_host, if_pos running]
    have settings : s.counted.conf.settings = s.conf.settings := rfl
    rw [leaseDue_eq, record, settings, if_neg (by dsimp only; omega)]
    refine ite_eq_right_iff.2 fun quarter => if_neg ?_
    have warned : (s.host h).warned = true := told.resolve_right (Nat.not_lt.2 quarter)
    simp [record, warned]
  · refine if_neg ?_
    rw [← countTick_eq]
    simpa [State.inRun] using running

theorem lineDue_idle (line : s.inRun = true → 2 ≤ s.scan.timer) : lineDue s.counted = s.counted := by
  refine if_neg fun out => ?_
  simp only [Bool.and_eq_true, decide_eq_true_eq] at out
  obtain ⟨run, zero⟩ := out
  have running : s.inRun = true := run
  have := line running
  rw [State.counted, if_pos running] at zero
  dsimp only at zero
  omega

end

theorem tick_eq (s : State) : tick s =
    lineDue (leaseDue 3 (leaseDue 2 (leaseDue 1 (leaseDue 0 (windowDue (replyDue (countTick s))))))) := by
  rw [tick, forEach_allHosts]

/-- Settles O3: a tick counts, and then each timer that is due acts as its command. -/
theorem emptyQueueTicks : Obligations.EmptyQueueTicks := by
  unfold Obligations.EmptyQueueTicks
  intro s idle u act reply window lease line
  have ticks : step s = .next (tick s) := by simp [step, idle]
  have counted : countTick s = u := countTick_eq s
  have replies (x : State) : replyDue x = reply x := by simp only [replyDue, reply, act, exec, execReplyTimerExpiry]
  have windows (x : State) : windowDue x = window x := by
    rw [windowDue_eq]
    simp only [window, act, exec, execWindowExpiry]
  have leases (h : HostNo) (x : State) : leaseDue h x = lease h x := by
    rw [leaseDue_eq]
    simp only [lease, act, exec, execLeaseExpiry, execLeaseWarn]
  have lines (x : State) : lineDue x = line x := by
    rw [lineDue_eq]
    simp only [line, act, exec, execLineMark]
  rw [ticks, tick_eq, counted]
  refine ⟨by simp only [lines, leases, windows, replies], fun window reply run => ?_⟩
  have still (h : HostNo) : leaseDue h u = u := leaseDue_idle h fun running => (run running).2 h
  have windowStill : windowDue u = u := windowDue_idle window
  have replyStill : replyDue u = u := replyDue_idle reply
  have lineStill : lineDue u = u := lineDue_idle fun running => (run running).1
  simp only [replyStill, windowStill, still, lineStill]

end Sys2Proof.Machine
end

section
/-! The grant decision and the rotation (R66 to R69, R81, R91): settles O38. -/
namespace Sys2Proof.Machine

/-! ## The rotation (R69, R76) -/

/-- Host `g` has an access ready (R76). -/
theorem offers_iff (s : State) (g : HostNo) :
    offers s g = true ↔ ∃ v, (s.lane g).service = some v ∧ v.access = .offered := by
  simp [offers, Option.any_eq_true]

theorem nextReady_none (s : State) (idle : ∀ g, offers s g = false) : nextReady s = none := by
  simp [nextReady, idle]

/-- The first host after the pointer's that has an access ready, the pointer's own the last (R69). -/
theorem nextReady_first (s : State) (k : Fin 4) (ready : offers s (s.arbiter.rotation + 1 + k) = true)
    (first : ∀ j, j < k → offers s (s.arbiter.rotation + 1 + j) = false) :
    nextReady s = some (s.arbiter.rotation + 1 + k) := by
  have order (r : HostNo) : [r + 1, r + 2, r + 3, r] = [r + 1 + 0, r + 1 + 1, r + 1 + 2, r + 1 + 3] := by
    revert r; decide
  unfold nextReady
  dsimp only
  rw [order]
  generalize s.arbiter.rotation + 1 = r at ready first
  match k, ready, first with
  | 0, ready, _ => rw [List.find?_cons_of_pos ready]
  | 1, ready, first =>
    rw [List.find?_cons_of_neg (by simp only [first 0 (by decide)]; decide), List.find?_cons_of_pos ready]
  | 2, ready, first =>
    rw [List.find?_cons_of_neg (by simp only [first 0 (by decide)]; decide),
      List.find?_cons_of_neg (by simp only [first 1 (by decide)]; decide), List.find?_cons_of_pos ready]
  | 3, ready, first =>
    rw [List.find?_cons_of_neg (by simp only [first 0 (by decide)]; decide),
      List.find?_cons_of_neg (by simp only [first 1 (by decide)]; decide),
      List.find?_cons_of_neg (by simp only [first 2 (by decide)]; decide), List.find?_cons_of_pos ready]

/-! ## The decision (R67) -/

theorem decision_latch (s : State) (latch : s.scan.latch.isSome = true)
    (turn : nextReady s = none ∨ s.arbiter.urgency ≠ .normal ∨ s.arbiter.lastGrant = .write) :
    decision s = some .latch := by
  unfold decision
  rw [latch]
  cases ready : nextReady s with
  | none => rfl
  | some g =>
    refine if_neg ?_
    rcases turn with none | urgent | write
    · simp [ready] at none
    · simp [urgent]
    · simp [write]

theorem decision_write (s : State) (g : HostNo) (ready : nextReady s = some g)
    (turn : (s.scan.latch = none ∧ s.arbiter.urgency ≠ .panic) ∨
      (s.arbiter.urgency = .normal ∧ s.arbiter.lastGrant = .latch)) : decision s = some .write := by
  unfold decision
  rw [ready]
  rcases turn with ⟨idle, calm⟩ | ⟨normal, latch⟩
  · simp [idle, calm]
  · cases s.scan.latch <;> simp [normal, latch]

theorem decision_none (s : State) (idle : s.scan.latch = none) (turn : nextReady s = none ∨ s.arbiter.urgency = .panic) :
    decision s = none := by
  unfold decision
  rw [idle]
  cases ready : nextReady s with
  | none => rfl
  | some g => exact if_pos (turn.resolve_left (by simp [ready]))

/-! ## An access served (R5, R68, R81, R91) -/

theorem bankFor_front (q : Pane) : q.bankFor false = (q.modes.map fun m => m.front).getD .a := by
  simp [Pane.bankFor, Pane.front]

theorem bankFor_back (q : Pane) : q.bankFor true =
    if q.modes.any (fun m => m.buffering = .double) = true then
      (if (q.modes.map fun m => m.front).getD .a = .a then Bank.b else .a)
    else (q.modes.map fun m => m.front).getD .a := by
  have other (bank : Bank) : bank.other = if bank = .a then .b else .a := by cases bank <;> rfl
  simp [Pane.bankFor, Pane.front, Pane.isDouble, other]

theorem backSelected_getD (sel : Byte) : (backSelected sel).getD false = decide (sel = 0x01#8) := by
  unfold backSelected
  by_cases front : sel = 0x00#8
  · simp [front]
  · by_cases back : sel = 0x01#8 <;> simp [front, back]

theorem setAccess_eq {s : State} {h : HostNo} {v : Service} (a : AccessState) (service : (s.lane h).service = some v) :
    setAccess h a s = s.setLane h { s.lane h with service := some { v with access := a } } := by
  rw [setAccess, service]
  rfl

theorem serveHost_read {s : State} {g : HostNo} {v : Service} (service : (s.lane g).service = some v)
    {px py n : Nat} {sel : Byte} (body : v.op.body = .read px py n sel) :
    serveHost g s = grantRead g v ((backSelected sel).getD false) s := by
  simp [serveHost, service, body]

theorem serveHost_plain {s : State} {g : HostNo} {v : Service} (service : (s.lane g).service = some v)
    (writes : ∀ px py n sel, v.op.body ≠ .read px py n sel) (apart : conflictOf s v = none) :
    serveHost g s = grantWrite g v none s := by
  cases body : v.op.body with
  | read px py n sel => exact absurd body (writes px py n sel)
  | write | fill => simp only [serveHost, service, body, apart]

theorem serveHost_conflict {s : State} {g : HostNo} {v : Service} {l : Latch} (service : (s.lane g).service = some v)
    (writes : ∀ px py n sel, v.op.body ≠ .read px py n sel) (conflict : conflictOf s v = some l) :
    serveHost g s = resolveConflict g v l s := by
  cases body : v.op.body with
  | read px py n sel => exact absurd body (writes px py n sel)
  | write | fill => simp only [serveHost, service, body, conflict]

theorem conflictOf_apart {s : State} {v : Service} (apart : (s.pane v.pane).bankFor true ≠ (s.pane v.pane).front ∨
    ∀ l, s.scan.latch = some l → l.line ≠ v.line) : conflictOf s v = none := by
  unfold conflictOf
  split
  · next l latch =>
    refine if_neg ?_
    rcases apart with bank | line
    · simp [bank]
    · simp [line l latch]
  · rfl

/-- A write of a DIRECT pane on the line in flight conflicts with its latch (R91). -/
theorem conflictOf_direct {s : State} {v : Service} {l : Latch} {m : PaneModes} (latch : s.scan.latch = some l)
    (line : l.line = v.line) (modes : (s.pane v.pane).modes = some m) (direct : m.buffering = .direct) :
    conflictOf s v = some l := by
  have front : (s.pane v.pane).bankFor true = (s.pane v.pane).front := by
    simp [Pane.bankFor, Pane.isDouble, modes, direct]
  simp [conflictOf, latch, line, front]

/-- A report does not look at the store's state. -/
theorem reportFault_freeStore (r : FaultRecord) (s : State) : reportFault r (freeStore s) = freeStore (reportFault r s) := by
  have post (h : HostNo) (e : Event) (u : State) : postEvent h e (freeStore u) = freeStore (postEvent h e u) := by
    have active : (freeStore u).isActive h = u.isActive h := rfl
    have queue : (freeStore u).queue h = u.queue h := rfl
    unfold postEvent
    rw [active, queue]
    (repeat' split) <;> rfl
  have posts (hs : List HostNo) (e : Event) (u : State) : postTo hs e (freeStore u) = freeStore (postTo hs e u) := by
    unfold postTo
    induction hs generalizing u with
    | nil => rfl
    | cons h hs ih => rw [forEach_cons, forEach_cons, post, ih]
  have faults : (freeStore s).faults = s.faults := rfl
  unfold reportFault takeReport countOverflow
  rw [faults]
  split
  · rfl
  · split
    · next i _ => exact posts _ _ (s.setFaults { s.faults with slots := s.faults.slots.set i (some r) })
    · split <;> rfl

/-- A write on the front bank of the line in flight is not granted: the pane's policy has it parked, and there is room. -/
theorem resolveConflict_parks {h : HostNo} {v : Service} {l : Latch} {s : State} {m : PaneModes}
    (modes : (s.pane v.pane).modes = some m) (policy : m.policy ≠ .pass)
    (limit : m.policy = .relatch → s.conf.settings.relatchLimit ≤ l.restarts) :
    resolveConflict h v l s = parkOrPass h v l
      (if m.policy = .relatch then reportFault (conflictFault .relatchLimit h v l) s else s) := by
  unfold resolveConflict
  rw [modes]
  cases is : m.policy with
  | pass => exact absurd is policy
  | defer => simp [is]
  | relatch => simp [is, limit is]

/-- With a place left the access is parked and the rotation moves on (R94). -/
theorem parkOrPass_room {h : HostNo} {v : Service} {l : Latch} {s : State} (room : s.parked.length < 8) :
    parkOrPass h v l s = (setAccess h .parked (s.setParked (s.parked ++ [parkedEntry h v]))).setArbiter
      { s.arbiter with rotation := h } := if_pos room

/-- With the Parked List full the access is granted as PASS (R96). -/
theorem parkOrPass_full {h : HostNo} {v : Service} {l : Latch} {s : State} (full : 8 ≤ s.parked.length) :
    parkOrPass h v l s = passGrant .parkOverflow h v l s := if_neg (Nat.not_lt.2 full)

/-- Parking does not look at the store's state. -/
theorem parkOrPass_freeStore {h : HostNo} {v : Service} {l : Latch} {s : State} (room : s.parked.length < 8) :
    freeStore (parkOrPass h v l s) = parkOrPass h v l (freeStore s) := by
  rw [parkOrPass_room room, parkOrPass_room (s := freeStore s) room]
  rfl

theorem parkOrPass_access {h : HostNo} {v : Service} {l : Latch} {s : State} (room : s.parked.length < 8) :
    (parkOrPass h v l s).arbiter.access = s.arbiter.access := by
  rw [parkOrPass_room room]
  rfl

/-- In NORMAL a conflict grants the access where its policy or a full Parked List says so (R93, R96, R99). -/
theorem resolveConflict_grants_access {h : HostNo} {v : Service} {l : Latch} {s : State} {m : PaneModes}
    (modes : (s.pane v.pane).modes = some m) (normal : s.arbiter.urgency = .normal)
    (grants : m.policy = .pass ∨ 8 ≤ s.parked.length ∨
      (m.policy = .relatch ∧ l.restarts < s.conf.settings.relatchLimit)) :
    (resolveConflict h v l s).arbiter.access.isSome = true := by
  have full (t : State) (many : 8 ≤ t.parked.length) : (parkOrPass h v l t).arbiter.access.isSome = true := by
    rw [parkOrPass_full many]
    rfl
  unfold resolveConflict
  rw [modes]
  cases is : m.policy with
  | pass => simp [is, passGrant, grantWrite]
  | defer =>
    simp only [Option.map_some, Option.getD_some, is]
    exact full s (by simpa [is] using grants)
  | relatch =>
    simp only [Option.map_some, Option.getD_some, is]
    split
    · next limit => exact full _ (by simpa [is, Nat.not_lt.2 limit] using grants)
    · simp [normal, grantWrite]

/-- A write that its conflict parks: with the store freed before or after, and the access in progress as it was. -/
theorem serveHost_parks {g : HostNo} {v : Service} {l : Latch} {s : State} {m : PaneModes}
    (service : (s.lane g).service = some v) (writes : ∀ px py n sel, v.op.body ≠ .read px py n sel)
    (latch : s.scan.latch = some l) (line : l.line = v.line) (modes : (s.pane v.pane).modes = some m)
    (direct : m.buffering = .direct) (policy : m.policy ≠ .pass) (room : s.parked.length < 8)
    (limit : m.policy = .relatch → s.conf.settings.relatchLimit ≤ l.restarts) :
    freeStore (serveHost g s) = serveHost g (freeStore s) ∧ (serveHost g s).arbiter.access = s.arbiter.access := by
  have parks (t : State) (held : (t.lane g).service = some v) (flying : t.scan.latch = some l)
      (record : (t.pane v.pane).modes = some m) (settings : t.conf.settings = s.conf.settings) :
      serveHost g t = parkOrPass g v l
        (if m.policy = .relatch then reportFault (conflictFault .relatchLimit g v l) t else t) := by
    rw [serveHost_conflict held writes (conflictOf_direct flying line record direct)]
    exact resolveConflict_parks record policy (by rwa [settings])
  rw [parks s service latch modes rfl, parks (freeStore s) service latch modes rfl]
  split
  · rw [parkOrPass_freeStore (by simpa using room), ← reportFault_freeStore, parkOrPass_access (by simpa using room)]
    exact ⟨rfl, by simp⟩
  · exact ⟨parkOrPass_freeStore room, parkOrPass_access room⟩

/-! ## Decisions come to an end (R66, R68) -/

/-- The hosts that have an access ready. -/
def readyHosts (s : State) : Finset HostNo := Finset.univ.filter fun g => offers s g = true

theorem mem_readyHosts (s : State) (g : HostNo) : g ∈ readyHosts s ↔ offers s g = true := by simp [readyHosts]

/-- A parked access is not ready. -/
theorem parkOrPass_progress (h : HostNo) (v : Service) (l : Latch) (s : State) :
    (parkOrPass h v l s).arbiter.access.isSome = true ∨ readyHosts (parkOrPass h v l s) ⊆ (readyHosts s).erase h := by
  unfold parkOrPass
  split
  · refine .inr fun g ready => ?_
    rw [mem_readyHosts] at ready
    rw [Finset.mem_erase, mem_readyHosts]
    by_cases own : g = h
    · subst own
      cases service : (s.lane g).service <;> simp [offers, setAccess, service] at ready
    · exact ⟨own, by simpa [offers, setAccess, Ne.symm own] using ready⟩
  · exact .inl rfl

/-- An access that is served is granted, or its host has none ready any more. -/
theorem serveHost_progress (h : HostNo) (s : State) (ready : offers s h = true) :
    (serveHost h s).arbiter.access.isSome = true ∨ readyHosts (serveHost h s) ⊆ (readyHosts s).erase h := by
  obtain ⟨v, service, -⟩ := (offers_iff s h).1 ready
  have reported (r : FaultRecord) : readyHosts (reportFault r s) = readyHosts s :=
    Finset.ext fun g => by simp [mem_readyHosts, offers]
  unfold serveHost
  simp only [service]
  split
  · exact .inl rfl
  · split
    · next l _ =>
      unfold resolveConflict
      split
      · exact .inl rfl
      · exact parkOrPass_progress h v l s
      · split
        · rw [← reported]; exact parkOrPass_progress h v l _
        · split
          · exact .inl rfl
          · exact parkOrPass_progress h v l s
    · exact .inl rfl

/-- Where fewer hosts have an access ready than there are decisions left, one more changes nothing. -/
theorem arbitrate_enough (n : Nat) (s : State) (few : (readyHosts s).card < n) : arbitrate (n + 1) s = arbitrate n s := by
  induction n generalizing s with
  | zero => omega
  | succ n ih =>
    by_cases free : s.arbiter.access = none
    · rw [arbitrate_free (n + 1) s free, arbitrate_free n s free]
      split
      · rfl
      · rfl
      · cases next : nextReady s with
        | none => rfl
        | some h =>
          have ready := nextReady_offers s h next
          show arbitrate (n + 1) (serveHost h s) = arbitrate n (serveHost h s)
          rcases serveHost_progress h s ready with busy | fewer
          · rw [arbitrate_busy _ _ busy, arbitrate_busy _ _ busy]
          · have counted := Finset.card_le_card fewer
            have removed := Finset.card_erase_lt_of_mem ((mem_readyHosts s h).2 ready)
            exact ih _ (by omega)
    · have busy := Option.isSome_iff_ne_none.2 free
      rw [arbitrate_busy _ _ busy, arbitrate_busy _ _ busy]

/-! ## The end of a read whose operation is gone -/

/-- With no operation queued the end of an abandoned read is a grant decision alone (R66, R73). -/
theorem readAccessComplete_decides {s : State} {h : HostNo} {bank : Bank} {line first : Nat} {cells : List Cell}
    (run : s.inRun = true) (idle : ∀ g, (s.lane g).queued = [])
    (access : s.arbiter.access = some (.read false h bank line first cells))
    (inside : runInStore line first cells.length = true) :
    exec .readAccessComplete s = .next (arbitrate 5 (freeStore s)) := by
  have next : exec .readAccessComplete s = .next (readAccessComplete s) :=
    exec_completion _ access ((runInStore_iff line first cells.length).1 inside)
  rw [next, readAccessComplete_eq access, if_neg (by simp), settle_run (freeStore s) run, startServices_idle (freeStore s) idle]

theorem arbitrate_latch {s : State} (n : Nat) (l : Latch) (free : s.arbiter.access = none) (latch : s.scan.latch = some l)
    (decided : decision s = some .latch) : arbitrate (n + 1) s = grantSegment l s := by
  rw [arbitrate_free n s free]
  simp only [decided, latch]

theorem arbitrate_serve {s : State} (n : Nat) (g : HostNo) (free : s.arbiter.access = none) (next : nextReady s = some g)
    (decided : decision s = some .write) : arbitrate (n + 1) s = arbitrate n (serveHost g s) := by
  rw [arbitrate_free n s free]
  simp only [decided, next]

theorem arbitrate_idle {s : State} (n : Nat) (free : s.arbiter.access = none) (decided : decision s = none) :
    arbitrate (n + 1) s = s := by
  rw [arbitrate_free n s free]
  simp only [decided]

/-- Settles O38: the decision by its case, and a parked access followed by the next decision. -/
theorem grantDecision : Obligations.GrantDecision := by
  unfold Obligations.GrantDecision
  intro s h bank line first cells run idle access inside free ready served
  have decides := readAccessComplete_decides run idle access inside
  have isFree : free.arbiter.access = none := rfl
  have readyIff (g : HostNo) : offers free g = true ↔ ready g := offers_iff free g
  have unready (g : HostNo) (is : ¬ready g) : offers free g = false := Bool.eq_false_iff.2 (mt (readyIff g).1 is)
  have noneReady (empty : ∀ g, ¬ready g) : nextReady free = none := nextReady_none free fun g => unready g (empty g)
  have chosen (g : HostNo) (is : served g) : nextReady free = some g := by
    obtain ⟨isReady, k, rfl, before⟩ := is
    exact nextReady_first free k ((readyIff _).2 isReady) fun j less => unready _ (before j less)
  refine ⟨fun l latch turn => ?_, fun latch turn => ?_, fun g v isServed service turn => ?_⟩
  · have decided := decision_latch free (by simp [free, latch]) (turn.imp_left noneReady)
    exact decides.trans (congrArg _ (arbitrate_latch 4 l isFree latch decided))
  · have decided := decision_none free latch (turn.imp_left noneReady)
    exact decides.trans (congrArg _ (arbitrate_idle 4 isFree decided))
  · have decided := decision_write free g (chosen g isServed) turn
    have serving : exec .readAccessComplete s = .next (arbitrate 4 (serveHost g free)) :=
      decides.trans (congrArg _ (arbitrate_serve 4 g isFree (chosen g isServed) decided))
    intro q front back granted
    have busy {t : State} (granted : t.arbiter.access.isSome = true) (serves : serveHost g free = t) :
        exec .readAccessComplete s = .next t := by rw [serving, serves, arbitrate_busy 4 t granted]
    refine ⟨fun px py n sel body => ?_, fun writes apart => ?_, fun l m writes latch line modes direct =>
      ⟨fun grants => ?_, fun parks => ?_⟩⟩
    · refine busy rfl ?_
      have bank : (s.pane v.pane).bankFor ((backSelected sel).getD false) = if sel = 0x01#8 then back else front := by
        rw [backSelected_getD]
        by_cases selected : sel = 0x01#8
        · rw [decide_eq_true selected, if_pos selected, bankFor_back]
        · rw [decide_eq_false selected, if_neg selected, bankFor_front]
      rw [← bank, serveHost_read (s := free) service body, grantRead, setAccess_eq .inProgress (s := free) service]
      rfl
    · refine busy rfl ?_
      have bank : (s.pane v.pane).bankFor true = back := bankFor_back q
      have conflict : conflictOf free v = none := conflictOf_apart (s := free)
        (apart.imp_left fun other => show (s.pane v.pane).bankFor true ≠ front by rwa [bank])
      rw [← bank, serveHost_plain (s := free) service writes conflict, grantWrite, setAccess_eq .inProgress (s := free) service]
      rfl
    · have normal : s.arbiter.urgency = .normal := (turn.resolve_left fun idle => by simp [latch] at idle).1
      refine busy ?_ rfl
      rw [serveHost_conflict (s := free) service writes (conflictOf_direct (s := free) latch line modes direct)]
      exact resolveConflict_grants_access (s := free) modes normal grants
    · obtain ⟨policy, few, limit⟩ : m.policy ≠ .pass ∧ s.parked.length < 8 ∧
          (m.policy = .relatch → s.conf.settings.relatchLimit ≤ l.restarts) := by
        refine ⟨fun is => parks (.inl is), ?_, fun is => ?_⟩ <;> by_contra other
        · exact parks (.inr (.inl (Nat.not_lt.1 other)))
        · exact parks (.inr (.inr ⟨is, Nat.not_le.1 other⟩))
      obtain ⟨commutes, kept⟩ := serveHost_parks service writes latch line modes direct policy few limit
      have again := readAccessComplete_decides (s := serveHost g s) (by simpa [State.inRun] using run) (by simpa using idle)
        (kept.trans access) inside
      have ready : offers free g = true := (readyIff g).2 isServed.1
      have parked := (serveHost_progress g free ready).resolve_left (by rw [show serveHost g free = _ from commutes.symm]; simp [freeStore])
      rw [serving, again, commutes]
      refine congrArg Host.Outcome.next (arbitrate_enough 4 _ ?_).symm
      have fewer := Finset.card_le_card parked
      have removed := Finset.card_erase_lt_of_mem ((mem_readyHosts free g).2 ready)
      have most := (readyHosts free).card_le_univ
      simp only [Fintype.card_fin] at most
      omega

end Sys2Proof.Machine
end

section
/-! Line marks (R51, R52, R59 to R61, R147, R161): settles O35. -/
namespace Sys2Proof.Machine

/-! ## Packets (R161) -/

/-- The flags word as the sum of its bits (Table 4-5). -/
theorem lineFlags_eq (start torn underrun : Bool) : lineFlags start torn underrun =
    BitVec.ofNat 18 ((if start = true then 1 else 0) + (if torn = true then 2 else 0) + if underrun = true then 4 else 0) := by
  revert start torn underrun
  decide

theorem markPackets_eq (frame : Half) (k : Nat) (torn underrun : Bool) (cells : List Cell) :
    markPackets frame k torn underrun cells =
      (if k = 0 then [0x3F001#18, frame.setWidth 18] else []) ++
      [0x3F002#18, BitVec.ofNat 18 k, BitVec.ofNat 18
        ((if k = 0 then 1 else 0) + (if torn = true then 2 else 0) + if underrun = true then 4 else 0)] ++
      cells.map fun c => c.r ++ c.g ++ c.b := by
  simp only [markPackets, framePacket, linePacket, lineFlags_eq, decide_eq_true_eq, List.append_assoc]
  rfl

theorem emit_lane (packets : List LaneWord) (s : State) :
    (emit packets s).scan.lane = if s.scan.emitter = .sending then packets else s.scan.lane := by
  unfold emit
  split <;> rfl

/-! ## Latch starts (R54, R55) -/

/-- In RUN, with none in flight and room in the queue, a latch of the cursor's line starts (R54). -/
theorem startLatch_latch {s : State} (run : s.inRun = true) (idle : s.scan.latch = none) (room : s.scan.queue.length < 4) :
    ∃ frame, (startLatch s).scan.latch = some ⟨frame, s.scan.cursorLine, 0, [], false, 0⟩ := by
  unfold startLatch startLatchAs
  simp only [run, idle, Config.queueLines, room, decide_true, Option.isNone_none, Bool.and_self, if_true]
  split <;> simp

/-- Otherwise none starts. -/
theorem startLatch_not {s : State} (stays : s.inRun = false ∨ s.scan.latch ≠ none ∨ 4 ≤ s.scan.queue.length) :
    startLatch s = s := by
  refine if_neg fun starts => ?_
  obtain ⟨runIdle, room⟩ := Bool.and_eq_true_iff.1 starts
  obtain ⟨run, idle⟩ := Bool.and_eq_true_iff.1 runIdle
  have room : s.scan.queue.length < 4 := of_decide_eq_true room
  rcases stays with setup | flying | full
  · simp [run] at setup
  · exact flying (Option.isNone_iff_eq_none.1 idle)
  · omega

/-! ## Every mark -/

/-- In RUN a mark moves the position, then does its work, and what follows at once follows (R51). -/
theorem lineMark_eq {s : State} (run : s.inRun = true) : lineMark s =
    settle (markWork s.scan.mark.isNone (nextMark s) (advanceMark s)) := if_pos run

theorem markWork_panel (first : Bool) (k : Nat) (s : State) :
    (markWork first k s).panel = (announceBlanking first k s).panel := by
  unfold markWork
  dsimp only
  split <;> simp

/-- Mark H starts blanking, mark 0 after the first ends it (R52, R147). -/
theorem announceBlanking_panel (first : Bool) (k : Nat) (s : State) : (announceBlanking first k s).panel =
    if k = s.conf.settings.frameHeight then s.panelStarted { s.panel with blanking := true }
    else if k = 0 ∧ first = false then { s.panel with blanking := false } else s.panel := by
  unfold announceBlanking
  split
  · rw [startTransfer_eq]; rfl
  · by_cases ends : k = 0 ∧ first = false
    · simp [ends]
    · rw [if_neg ends, if_neg (by simpa using ends)]

/-- In blanking a mark sends nothing (R60). -/
theorem lineMark_blank {s : State} (run : s.inRun = true) (blank : s.conf.settings.frameHeight ≤ nextMark s) :
    lineMark s = settle (announceBlanking s.scan.mark.isNone (nextMark s) (advanceMark s)) := by
  rw [lineMark_eq run]
  simp [markWork, Nat.not_lt.2 blank]

/-! ## A mark whose line is at the queue's head (R59) -/

/-- The line at the queue's head has left it and is on the lane, and the urgency follows (R59, R65). -/
def headSent (k : Nat) (e : LineEntry) (rest : List LineEntry) (s : State) : State :=
  let sent := emit (markPackets s.scan.emission k e.torn false e.cells) s
  refreshUrgency (sent.setScan { sent.scan with queue := rest })

theorem headSent_frame (k : Nat) (e : LineEntry) (rest : List LineEntry) (s : State) :
    (headSent k e rest s).scan.queue = rest ∧ (headSent k e rest s).scan.latch = s.scan.latch ∧
    (headSent k e rest s).scan.cursorLine = s.scan.cursorLine ∧ (headSent k e rest s).inRun = s.inRun ∧
    (headSent k e rest s).arbiter.urgency =
      urgencyOf rest.length s.conf.settings.panicLevel s.conf.settings.urgentLevel ∧
    (headSent k e rest s).scan.lane = if s.scan.emitter = .sending
      then markPackets s.scan.emission k e.torn false e.cells else s.scan.lane := by
  simp [headSent, refreshUrgency, emit_lane, State.inRun]

theorem visibleMark_due {s : State} {k : Nat} {e : LineEntry} {rest : List LineEntry} (head : s.scan.queue = e :: rest)
    (line : e.line = k) (frame : e.frame = s.scan.emission) : visibleMark k s = startLatch (headSent k e rest s) := by
  unfold visibleMark headSent
  simp [head, line, frame]

/-- A state at mark `k` of the frame `emission`, the packets of the mark before gone from the lane (R51, R60, R61). -/
structure AtMark (s : State) (k : Nat) (emission : Half) (mode : EmitterMode) (u : State) : Prop where
  scan : u.scan = { s.scan with
    mark := some k, emission := emission, timer := s.conf.settings.linePeriod, emitter := mode, lane := [] }
  conf : u.conf = s.conf
  arbiter : u.arbiter = s.arbiter
  parked : u.parked = s.parked
  faults : u.faults = s.faults
  pane : ∀ p, u.pane p = s.pane p
  host : ∀ g, u.host g = s.host g
  lane : ∀ g, u.lane g = s.lane g
  queue : ∀ g, u.queue g = s.queue g

theorem announceBlanking_atMark (s : State) (first : Bool) {k : Nat} (mark : nextMark s = k) :
    AtMark s k (nextEmission s) (emitterAt k s.scan.emitter) (announceBlanking first k (advanceMark s)) := by
  constructor <;> simp [advanceMark, mark]

/-- Settles O35: the mark's position, then blanking, then the line due. -/
theorem lineMarkSendsTheLineDue : Obligations.LineMarkSendsTheLineDue := by
  unfold Obligations.LineMarkSendsTheLineDue
  intro s run height H k E mode
  have mark : nextMark s = k := rfl
  have emission : nextEmission s = E := nextEmission_eq s
  have emitter : emitterAt k s.scan.emitter = mode := by simp [emitterAt, mode]
  clear_value k E mode
  have marked := lineMark_eq run
  refine ⟨_, rfl, ?_, ?_, ?_, ?_, ?_, ?_, fun blank => ?_, fun e rest visible head line frame => ?_⟩
  · simp [marked, advanceMark, mark]
  · simp [marked, advanceMark, emission]
  · simp [marked, advanceMark]
  · simp [marked, advanceMark, mark, emitter]
  · simp
  · have again : s.scan.mark.isNone = false ↔ s.scan.mark ≠ none := by
      rw [Option.isNone_eq_false_iff, Option.isSome_iff_ne_none]
    have panel : (lineMark s).panel = (announceBlanking s.scan.mark.isNone k (advanceMark s)).panel := by
      rw [marked, ← mark, ← markWork_panel]
      simp
    rw [panel, announceBlanking_panel]
    simp only [again]
    rfl
  · rw [lineMark_blank run (mark ▸ blank)]
    refine ⟨?_, ?_, ?_⟩ <;> simp [advanceMark]
  · have at_ := announceBlanking_atMark s s.scan.mark.isNone mark
    rw [emission, emitter] at at_
    rw [lineMark_visible s run k mark visible]
    generalize announceBlanking s.scan.mark.isNone k (advanceMark s) = u at at_
    rw [visibleMark_due (s := u) (by simpa [at_.scan] using head) line (by simp [frame, at_.scan])]
    obtain ⟨queue, latch, cursor, running, urgency, lane⟩ := headSent_frame k e rest u
    generalize headSent k e rest u = w at *
    refine ⟨by simp [queue], by simp [urgency, at_.conf], fun idle room => ?_, ?_⟩
    · obtain ⟨f, started⟩ := startLatch_latch (s := w) (running.trans (by simpa [State.inRun, at_.conf] using run))
        (by simpa [latch, at_.scan] using idle) (by rwa [queue])
      obtain ⟨torn, settled⟩ := settle_latch_some _ _ started
      exact ⟨_, settled, by simp [cursor, at_.scan]⟩
    · have sent : (settle (startLatch w)).scan.lane = w.scan.lane := by simp
      rw [sent, lane, markPackets_eq]
      simp [at_.scan]

end Sys2Proof.Machine
end

section
/-! The release of the Parked List with the next latch start, on a DIRECT pane (R81, R82, R97, R98, R102). -/
namespace Sys2Proof.Machine

/-! ## Tests of accesses on a pane that is not DOUBLE (R81, R82) -/

theorem isDouble_of_direct {q : Pane} (direct : ∀ m, q.modes = some m → m.buffering = .direct) : q.isDouble = false := by
  cases modes : q.modes with
  | none => simp [Pane.isDouble, modes]
  | some m => simp [Pane.isDouble, modes, direct m modes]

/-- An access that the budget allows is OFFERED (R81). -/
theorem testAccess_allowed {h : HostNo} {s : State} {v : Service} (service : (s.lane h).service = some v)
    (single : (s.pane v.pane).isDouble = false) (allowed : budgetAllows s h v.accessLen = true) :
    testAccess h s = setAccess h .offered s := by
  simp [testAccess, service, allowed, Pane.writesWait, single]

/-- A write that the budget does not allow is MADE, and the host may be told (R82). -/
theorem testAccess_reached {h : HostNo} {s : State} {v : Service} (service : (s.lane h).service = some v)
    (writes : v.op.writes = true) (reached : budgetAllows s h v.accessLen = false) :
    testAccess h s = noteBudget h v.pane (setAccess h .made s) := by
  simp [testAccess, service, writes, reached]

theorem budgetAllows_iff (s : State) (h : HostNo) (n : Nat) : budgetAllows s h n = true ↔
    (s.host h).budget = 0 ∨ (s.host h).cells + n ≤ 64 * (s.host h).budget := by
  unfold budgetAllows
  rw [Bool.or_eq_true, decide_eq_true_iff, decide_eq_true_iff]
  rfl

theorem budgetAllows_congr {s t : State} {h : HostNo} (budget : (t.host h).budget = (s.host h).budget)
    (cells : (t.host h).cells = (s.host h).cells) (n : Nat) : budgetAllows t h n = budgetAllows s h n := by
  simp [budgetAllows, budget, cells]

theorem noteBudget_hit (h : HostNo) (p : PaneNo) (s : State) : ((noteBudget h p s).host h).budgetHit = true := by
  unfold noteBudget
  split
  · next hit => exact hit
  · simp

/-- A budget once hit stays hit whatever is noted. -/
theorem noteBudget_keepsHit (h g : HostNo) (p : PaneNo) (s : State) (hit : (s.host g).budgetHit = true) :
    ((noteBudget h p s).host g).budgetHit = true := by
  by_cases own : h = g
  · subst own; exact noteBudget_hit ..
  · unfold noteBudget
    split <;> simp [hit, own]

/-- The host is told once in a frame that its budget is reached (R82). -/
theorem noteBudget_told {h : HostNo} (p : PaneNo) {s : State} (first : (s.host h).budgetHit = false)
    (active : s.isActive h = true) (room : (s.queue h).events.length < 8) :
    Event.budgetReached p s.scan.frame ∈ ((noteBudget h p s).queue h).events := by
  simp [noteBudget, first, postEvent_queue, active, room]

/-- A test of another host's access leaves a host's events and budget flag. -/
theorem testAccess_elsewhere {h g : HostNo} (s : State) (other : h ≠ g) :
    ((testAccess h s).host g).budgetHit = (s.host g).budgetHit ∧ (testAccess h s).queue g = s.queue g := by
  unfold testAccess noteBudget
  (repeat' split) <;> simp [setAccess, postEvent_queue, other]

theorem testAccess_keepsHit (h g : HostNo) (s : State) (hit : (s.host g).budgetHit = true) :
    ((testAccess h s).host g).budgetHit = true := by
  unfold testAccess
  (repeat' split)
  · exact hit
  · simpa using hit
  · simpa using hit
  · simpa using hit
  · exact noteBudget_keepsHit _ _ _ _ (by simpa using hit)

/-! ## The release -/

theorem releaseEntry_elsewhere {e : Parked} {g : HostNo} (s : State) (other : e.host ≠ g) :
    ((releaseEntry e s).host g).budgetHit = (s.host g).budgetHit ∧ (releaseEntry e s).queue g = s.queue g := by
  rcases releaseEntry_cases e s with same | ⟨-, -, -, tested⟩
  · rw [same]; exact ⟨rfl, rfl⟩
  · rw [tested]; exact testAccess_elsewhere s other

theorem releaseEntry_keepsHit (e : Parked) (g : HostNo) (s : State) (hit : (s.host g).budgetHit = true) :
    ((releaseEntry e s).host g).budgetHit = true := by
  rcases releaseEntry_cases e s with same | ⟨-, -, -, tested⟩
  · rwa [same]
  · rw [tested]; exact testAccess_keepsHit _ _ _ hit

section
variable {b : State} {e : Parked} {v : Service} (inList : e ∈ b.parked)
  (service : (b.lane e.host).service = some v) (parked : v.access = .parked)
include inList service parked

/-- A released access that the budget allows is OFFERED, unless a commit on its pane waits (R102). -/
theorem releaseParked_allowed (single : (b.pane v.pane).isDouble = false)
    (allowed : budgetAllows b e.host v.accessLen = true) :
    ((releaseParked b).lane e.host).service = some { v with access := .offered } := by
  refine forEach_reaches
    (P := fun t => (t.lane e.host).service = some v ∧ t.pane v.pane = b.pane v.pane ∧
      budgetAllows t e.host v.accessLen = true)
    (Q := fun t => (t.lane e.host).service = some { v with access := .offered }) (hit := fun x : Parked => x.host = e.host)
    (fun x t ⟨held, pane, passes⟩ other => ⟨releaseEntry_keeps x t _ v held (.inr other), by simpa using pane,
      (budgetAllows_congr (by simp) (by simp) _).trans passes⟩)
    (fun x t ⟨held, pane, passes⟩ own => ?_) (fun x t held => releaseEntry_keeps x t _ _ held (.inl (by simp))) _ _
    ⟨service, rfl, allowed⟩ ⟨e, inList, rfl⟩
  rw [← own] at held passes ⊢
  rw [releaseEntry_parked x t v held parked, testAccess_allowed held (pane ▸ single) passes,
    setAccess_lane _ _ _ t v held, if_pos rfl]

/-- A released write that the budget does not allow is MADE, and its host told once in the frame (R82, R102). -/
theorem releaseParked_reached (writes : v.op.writes = true) (reached : budgetAllows b e.host v.accessLen = false) :
    ((releaseParked b).lane e.host).service = some { v with access := .made } ∧
    ((releaseParked b).host e.host).budgetHit = true ∧
    ((b.host e.host).budgetHit = false → b.isActive e.host = true → (b.queue e.host).events.length < 8 →
      Event.budgetReached v.pane b.scan.frame ∈ ((releaseParked b).queue e.host).events) := by
  refine forEach_reaches
    (P := fun t => ((t.lane e.host).service = some v ∧ budgetAllows t e.host v.accessLen = false) ∧
      (t.host e.host).budgetHit = (b.host e.host).budgetHit ∧ t.queue e.host = b.queue e.host ∧
      t.isActive e.host = b.isActive e.host ∧ t.scan.frame = b.scan.frame)
    (Q := fun t => (t.lane e.host).service = some { v with access := .made } ∧ (t.host e.host).budgetHit = true ∧
      ((b.host e.host).budgetHit = false → b.isActive e.host = true → (b.queue e.host).events.length < 8 →
        Event.budgetReached v.pane b.scan.frame ∈ (t.queue e.host).events))
    (hit := fun x : Parked => x.host = e.host)
    (fun x t ⟨⟨held, fails⟩, hit, queue, active, frame⟩ other => ?before)
    (fun x t ⟨⟨held, fails⟩, hit, queue, active, frame⟩ own => ?hits)
    (fun x t ⟨held, hit, told⟩ => ⟨releaseEntry_keeps x t _ _ held (.inl (by simp)), releaseEntry_keepsHit x _ t hit,
      fun first active room => (releaseEntry_grows x _ t).events.subset (told first active room)⟩)
    _ _ ⟨⟨service, reached⟩, rfl, rfl, rfl, rfl⟩ ⟨e, inList, rfl⟩
  case before =>
    obtain ⟨sameHit, sameQueue⟩ := releaseEntry_elsewhere t other
    exact ⟨⟨releaseEntry_keeps x t _ v held (.inr other), (budgetAllows_congr (by simp) (by simp) _).trans fails⟩,
      sameHit.trans hit, sameQueue.trans queue, by simpa using active, by simpa using frame⟩
  case hits =>
    rw [← own] at held fails hit queue active ⊢
    rw [releaseEntry_parked x t v held parked, testAccess_reached held writes fails]
    refine ⟨?_, noteBudget_hit .., fun first acts room => ?_⟩
    · rw [noteBudget_lane, setAccess_lane _ _ _ t v held, if_pos rfl]
    · rw [← frame]
      have told := noteBudget_told v.pane (h := x.host) (s := setAccess x.host .made t) (by simpa [hit] using first)
        (by simpa [active] using acts) (by simpa [queue] using room)
      simpa using told

end

/-! ## The boundary (R83) -/

theorem retestWaiting_offers {g : HostNo} {t : State} {v : Service} (held : (t.lane g).service = some v)
    (made : v.access = .made) (single : (t.pane v.pane).isDouble = false) (unspent : (t.host g).cells = 0) :
    ((retestWaiting g t).lane g).service = some { v with access := .offered } := by
  have retested : retestWaiting g t = testAccess g t := by simp [retestWaiting, held, made]
  rw [retested, testAccess_allowed held single (budgetAllows_unspent t g v unspent), setAccess_lane _ _ _ t v held, if_pos rfl]

/-- On a pane that is not DOUBLE the boundary's refill leaves no access waiting. -/
theorem refillBudgets_single {s : State} {g : HostNo} {v : Service} (service : (s.lane g).service = some v)
    (single : (s.pane v.pane).isDouble = false) : ((refillBudgets s).lane g).service =
      some (if v.access = .made then { v with access := .offered } else v) := by
  have held : ((forEach allHosts refillBudget s).lane g).service = some v := by simpa using service
  split
  · next made =>
    refine forEach_reaches
      (P := fun t => (t.lane g).service = some v ∧ (t.pane v.pane).isDouble = false ∧ (t.host g).cells = 0)
      (Q := fun t => (t.lane g).service = some { v with access := .offered }) (hit := (· = g))
      (fun h t ⟨held, single, unspent⟩ other => ⟨retestWaiting_keeps h t g v held (.inr other), by simpa using single,
        by simpa using unspent⟩)
      (fun h t ⟨held, single, unspent⟩ own => ?_) (fun h t held => retestWaiting_keeps h t g _ held (.inl (by simp))) _ _
      ⟨held, by simpa using single, (refill_host s g).1⟩ ⟨g, mem_allHosts g, rfl⟩
    subst own
    exact retestWaiting_offers held made single unspent
  · next ready =>
    exact forEach_induct (fun t => (t.lane g).service = some v) _
      (fun h t held => retestWaiting_keeps h t g v held (.inl ready)) _ _ held

theorem refillBudgets_cells (s : State) (g : HostNo) : ((refillBudgets s).host g).cells = 0 :=
  forEach_induct (fun t => (t.host g).cells = 0) _ (fun h t unspent => by simpa using unspent) _ _ (refill_host s g).1

/-! ## The next latch start (R54, R55) -/

/-- Where no boundary is made a latch start changes the latch alone. -/
theorem startLatch_inside {s : State} (inside : ¬(s.scan.cursorLine = 0 ∧ s.scan.queue.length < 4)) :
    startLatch s = s.setScan { s.scan with latch := (startLatch s).scan.latch } := by
  by_cases first : s.scan.cursorLine = 0
  · rw [startLatch_not (.inr (.inr (Nat.le_of_not_lt fun room => inside ⟨first, room⟩)))]
    rfl
  · unfold startLatch startLatchAs
    simp only [first, if_false]
    split <;> rfl

/-- A latch start of line 0, seen from the state in which it happens. -/
theorem Ready.self {s b : State} (ready : Ready s b) : Ready b b :=
  .of_same ready.run ready.cursor ready.idle ready.room rfl (fun _ => rfl) (fun _ => rfl) (fun _ => .refl _) fun _ => rfl

theorem startLatch_unspent {b : State} (ready : Ready b b) (g : HostNo) : ((startLatch b).host g).cells = 0 := by
  rw [startLatch_line0 ready, State.host_setScan, frameBoundary_eq]
  exact refillBudgets_cells ..

/-- On a DIRECT pane a latch start of line 0 leaves no access waiting (R83). -/
theorem startLatch_direct {b : State} (ready : Ready b b) {g : HostNo} {v : Service} (service : (b.lane g).service = some v)
    (direct : ∀ m, (b.pane v.pane).modes = some m → m.buffering = .direct) : ((startLatch b).lane g).service =
      some (if v.access = .made then { v with access := .offered } else v) := by
  have single := boundaryRecord_direct direct
  rw [← boundaryPanes_pane (b.scan.frame + 1)] at single
  rw [startLatch_line0 ready, State.lane_setScan, frameBoundary_eq]
  exact refillBudgets_single (by simpa [boundaryPanes] using service) single

/-- A DIRECT pane is not DOUBLE after a latch start. -/
theorem startLatch_single {s : State} {p : PaneNo} (direct : ∀ m, (s.pane p).modes = some m → m.buffering = .direct) :
    ((startLatch s).pane p).isDouble = false := by
  unfold startLatch startLatchAs
  dsimp only
  (repeat' split)
  · rw [State.pane_setScan, frameBoundary_pane]; exact boundaryRecord_direct direct
  · exact isDouble_of_direct direct
  · exact isDouble_of_direct direct

/-! ## Release and latch start together (R57, R97, R98) -/

theorem startLatch_bare (s : State) (g : HostNo) :
    ((startLatch s).lane g).service.map Service.bare = (s.lane g).service.map Service.bare := by
  unfold startLatch startLatchAs
  dsimp only
  (repeat' split) <;> simp [frameBoundary_bare]

theorem releaseAndStart_bare (s : State) (g : HostNo) :
    ((releaseAndStart s).lane g).service.map Service.bare = (s.lane g).service.map Service.bare := by
  unfold releaseAndStart
  dsimp only
  (repeat' split) <;> simp [startLatch_bare, releaseParked_bare]

theorem releaseAndStart_parked (s : State) : (releaseAndStart s).parked = [] := by
  unfold releaseAndStart
  dsimp only
  (repeat' split) <;> simp [releaseParked_list]

theorem releaseAndStart_latch {s : State} (run : s.inRun = true) (idle : s.scan.latch = none)
    (room : s.scan.queue.length < 4) :
    ∃ frame, (releaseAndStart s).scan.latch = some ⟨frame, s.scan.cursorLine, 0, [], false, 0⟩ := by
  have running : s.conf.part = .run := by simpa [State.inRun] using run
  have starts (t : State) (conf : t.conf = s.conf) (scan : t.scan = s.scan) :
      ∃ frame, (startLatch t).scan.latch = some ⟨frame, s.scan.cursorLine, 0, [], false, 0⟩ := by
    obtain ⟨frame, started⟩ := startLatch_latch (s := t) (by simpa [State.inRun, conf] using running) (by rwa [scan])
      (by rwa [scan])
    exact ⟨frame, by rw [started, scan]⟩
  unfold releaseAndStart
  dsimp only
  (repeat' split)
  · exact starts _ (by simp) (by simp)
  · simpa using starts (s.setChoices (s.choices + 1)) rfl rfl
  · exact starts _ (by simp) (by simp)

theorem releaseAndStart_idle {s : State} (idle : s.scan.latch = none)
    (stays : s.inRun = false ∨ 4 ≤ s.scan.queue.length) : (releaseAndStart s).scan.latch = none := by
  have waits (t : State) (conf : t.conf = s.conf) (scan : t.scan = s.scan) : (startLatch t).scan.latch = none := by
    rw [startLatch_not, scan, idle]
    rcases stays with setup | full
    · exact .inl (by simpa [State.inRun, conf] using setup)
    · exact .inr (.inr (by rwa [scan]))
  unfold releaseAndStart
  dsimp only
  (repeat' split)
  · exact waits _ (by simp) (by simp)
  · simpa using waits (s.setChoices (s.choices + 1)) rfl rfl
  · exact waits _ (by simp) (by simp)

/-- Whatever latch is in flight after it is of the cursor's line. -/
theorem releaseAndStart_line {s : State} (idle : s.scan.latch = none) (l : Latch)
    (started : (releaseAndStart s).scan.latch = some l) : l.line = s.scan.cursorLine := by
  by_cases stays : s.inRun = false ∨ 4 ≤ s.scan.queue.length
  · simp [releaseAndStart_idle idle stays] at started
  · rw [not_or, Bool.not_eq_false, Nat.not_le] at stays
    obtain ⟨frame, latch⟩ := releaseAndStart_latch stays.1 idle stays.2
    obtain rfl := Option.some.inj (latch.symm.trans started)
    rfl

theorem releaseAndStart_inside {s : State} (inside : ¬(s.scan.cursorLine = 0 ∧ s.scan.queue.length < 4)) :
    releaseAndStart s = startLatch (releaseParked s) := by
  refine if_neg fun boundary => inside ?_
  simp only [Bool.and_eq_true, decide_eq_true_eq] at boundary
  exact ⟨boundary.1.2, boundary.2⟩

/-- With a boundary, in either order, a parked access on a DIRECT pane is OFFERED (R83, R97). -/
theorem releaseAndStart_offers {b : State} (ready : Ready b b) {e : Parked} {v : Service} (inList : e ∈ b.parked)
    (service : (b.lane e.host).service = some v) (parked : v.access = .parked)
    (direct : ∀ m, (b.pane v.pane).modes = some m → m.buffering = .direct) :
    ((releaseAndStart b).lane e.host).service = some { v with access := .offered } := by
  have releaseFirst {c : State} (ready : Ready c c) (inList : e ∈ c.parked) (service : (c.lane e.host).service = some v)
      (direct : ∀ m, (c.pane v.pane).modes = some m → m.buffering = .direct) :
      ((startLatch (releaseParked c)).lane e.host).service = some { v with access := .offered } := by
    obtain ⟨a, tested, held⟩ := releaseParked_tests c e inList v service parked
    rw [startLatch_direct ready.release.self held (by simpa using direct)]
    rcases tested with rfl | rfl <;> rfl
  have startFirst {c : State} (ready : Ready c c) (inList : e ∈ c.parked) (service : (c.lane e.host).service = some v)
      (direct : ∀ m, (c.pane v.pane).modes = some m → m.buffering = .direct) :
      ((releaseParked (startLatch c)).lane e.host).service = some { v with access := .offered } := by
    have held := startLatch_direct ready service direct
    rw [if_neg (by simp [parked])] at held
    exact releaseParked_allowed (by simpa using inList) held parked (startLatch_single direct)
      (budgetAllows_unspent _ _ v (startLatch_unspent ready _))
  have chosen := (ready.setChoices (b.choices + 1)).self
  unfold releaseAndStart
  dsimp only
  (repeat' split)
  · exact releaseFirst chosen inList service direct
  · exact startFirst chosen inList service direct
  · exact releaseFirst ready inList service direct

theorem releaseAndStart_single {s : State} {p : PaneNo} (direct : ∀ m, (s.pane p).modes = some m → m.buffering = .direct) :
    ((releaseAndStart s).pane p).isDouble = false := by
  unfold releaseAndStart
  dsimp only
  (repeat' split)
  · exact startLatch_single (by simpa using direct)
  · have kept (u : State) : (releaseParked u).pane p = u.pane p := by simp
    rw [kept]
    exact startLatch_single (by simpa using direct)
  · exact startLatch_single (by simpa using direct)

/-! ## What follows at once -/

/-- Host `g`'s access `v` waits for budget, and is not parked. -/
structure Denied (g : HostNo) (v : Service) (s : State) : Prop where
  service : (s.lane g).service = some { v with access := .made }
  hit : (s.host g).budgetHit = true
  parked : ∀ x ∈ s.parked, x.host ≠ g

theorem Denied.start {g : HostNo} {v : Service} {s t : State} (denied : Denied g v s) (step : StartStep s t) :
    Denied g v t := by
  obtain ⟨service, hit, parked⟩ := denied
  cases step with
  | calm same => exact ⟨by rwa [same.lane], by rwa [same.budgetHit], by rwa [same.parked]⟩
  | hold => exact ⟨service, hit, parked⟩
  | withdraw h w held offered =>
    have other : h ≠ g := by rintro rfl; simp [← Option.some.inj (service.symm.trans held)] at offered
    exact ⟨by simpa [setAccess, other] using service, hit, parked⟩
  | begin h op rest p area a idle =>
    have other : h ≠ g := by rintro rfl; simp [service] at idle
    exact ⟨by simpa [other] using service, hit, parked⟩
  | refuse h op rest idle =>
    have other : h ≠ g := by rintro rfl; simp [service] at idle
    exact ⟨by simpa [other] using service, hit, parked⟩
  | spend h w => exact ⟨by simpa using service, noteBudget_keepsHit _ _ _ _ hit, by simpa using parked⟩

/-- Only an access that is OFFERED is served. -/
theorem Denied.not_served {g h : HostNo} {v w : Service} {s : State} (denied : Denied g v s)
    (held : (s.lane h).service = some w) (offered : w.access = .offered) : h ≠ g := by
  rintro rfl
  simp [← Option.some.inj (denied.service.symm.trans held)] at offered

theorem Denied.grant {g : HostNo} {v : Service} {s t : State} (denied : Denied g v s) (step : GrantStep s t) :
    Denied g v t := by
  have notServed {h : HostNo} {w : Service} := denied.not_served (h := h) (w := w)
  obtain ⟨service, hit, parked⟩ := denied
  cases step with
  | calm same => exact ⟨by rwa [same.lane], by rwa [same.budgetHit], by rwa [same.parked]⟩
  | torn | tear | grantSegment => exact ⟨service, hit, parked⟩
  | park h w l held offered =>
    have other := notServed held offered
    refine ⟨by simpa [setAccess, other] using service, hit, fun x inList => ?_⟩
    rcases List.mem_append.1 inList with before | added
    · exact parked x before
    · obtain rfl := List.mem_singleton.1 added
      exact other
  | grantRead h w back free held offered =>
    refine ⟨?_, hit, parked⟩
    rwa [grantRead_lane h g w back s held, if_neg (notServed held offered)]
  | grantWrite h w restart free held offered =>
    have other := notServed held offered
    refine ⟨?_, by simpa [grantWrite, chargeBudget, other] using hit, parked⟩
    rwa [grantWrite_lane h g w restart s held, if_neg other]

theorem settle_denied (g : HostNo) (v : Service) (s : State) (denied : Denied g v s) : Denied g v (settle s) :=
  settle_keeps Denied.start Denied.grant s denied

/-- Nothing is parked or queued, and no operation in service is at the line of the latch. -/
structure Unparked (s : State) : Prop where
  parked : s.parked = []
  queued : ∀ g, (s.lane g).queued = []
  line : ∀ g l, s.scan.latch = some l → (s.lane g).service.map Service.line ≠ some l.line

theorem setAccess_line (h g : HostNo) (a : AccessState) (s : State) :
    ((setAccess h a s).lane g).service.map Service.line = (s.lane g).service.map Service.line := by
  simpa [Function.comp_def, Service.bare] using congrArg (Option.map Service.line) (setAccess_bare h g a s)

theorem Unparked.start {s t : State} (unparked : Unparked s) (step : StartStep s t) : Unparked t := by
  obtain ⟨parked, queued, line⟩ := unparked
  cases step with
  | calm same =>
    exact ⟨same.parked.trans parked, fun g => by rw [same.lane]; exact queued g, fun g l latch => by
      rw [same.lane]; exact line g l (same.latch ▸ latch)⟩
  | hold => exact ⟨parked, queued, line⟩
  | withdraw h => exact ⟨parked, by simpa using queued, fun g l latch => by rw [setAccess_line]; exact line g l latch⟩
  | begin h op rest p area a idle head => simp [queued] at head
  | refuse h op rest idle head => simp [queued] at head
  | spend => exact ⟨by simpa using parked, by simpa using queued, by simpa using line⟩

theorem Unparked.grant {s t : State} (unparked : Unparked s) (step : GrantStep s t) : Unparked t := by
  obtain ⟨parked, queued, line⟩ := unparked
  have granted (h : HostNo) (g : HostNo) (l : Latch) (latch : s.scan.latch = some l) :
      ((setAccess h .inProgress s).lane g).service.map Service.line ≠ some l.line := by
    rw [setAccess_line]; exact line g l latch
  have idle (h : HostNo) (g : HostNo) : ((setAccess h .inProgress s).lane g).queued = [] := by simp [queued]
  cases step with
  | calm same =>
    exact ⟨same.parked.trans parked, fun g => by rw [same.lane]; exact queued g, fun g l latch => by
      rw [same.lane]; exact line g l (same.latch ▸ latch)⟩
  | torn l latch => exact ⟨parked, queued, fun g m is => by obtain rfl := Option.some.inj is; exact line g l latch⟩
  | tear | grantSegment => exact ⟨parked, queued, line⟩
  | park h v l service offered conflict =>
    refine absurd ?_ (line h l (conflictOf_latch s v l conflict))
    rw [conflictOf, conflictOf_latch s v l conflict] at conflict
    have meets := (Option.ite_none_right_eq_some.1 conflict).1
    simp only [Bool.and_eq_true, decide_eq_true_eq] at meets
    rw [service, Option.map_some, meets.2]
  | grantRead h => exact ⟨parked, idle h, granted h⟩
  | grantWrite h => exact ⟨parked, idle h, granted h⟩

/-! ## The release as a whole (R102) -/

/-- State `b`, in the course of an event in `s`, at which the Parked List is released and the next latch may start. -/
structure AtRelease (s b : State) : Prop where
  run : b.inRun = true
  idle : b.scan.latch = none
  frame : b.scan.frame = s.scan.frame
  parked : b.parked = s.parked
  pane : ∀ p, b.pane p = s.pane p
  lane : ∀ g, b.lane g = s.lane g
  cells : ∀ g, (b.host g).cells = (s.host g).cells
  budget : ∀ g, (b.host g).budget = (s.host g).budget
  hit : ∀ g, (b.host g).budgetHit = (s.host g).budgetHit
  active : ∀ g, b.isActive g = s.isActive g
  queue : ∀ g, (b.queue g).events.length ≤ (s.queue g).events.length + 1

section
variable {s b : State} (releases : AtRelease s b) {e : Parked} {v : Service} (inList : e ∈ s.parked)
  (service : (s.lane e.host).service = some v) (parked : v.access = .parked)
include releases inList service parked

/-- A released access is OFFERED, where the budget test allows it or the boundary refills the budget. -/
theorem AtRelease.offers (direct : ∀ m, (s.pane v.pane).modes = some m → m.buffering = .direct)
    (allowed : (b.scan.cursorLine = 0 ∧ b.scan.queue.length < 4) ∨ budgetAllows s e.host v.accessLen = true) :
    ((releaseAndStart b).lane e.host).service = some { v with access := .offered } := by
  have inList : e ∈ b.parked := releases.parked ▸ inList
  have service : (b.lane e.host).service = some v := by rwa [releases.lane]
  have direct : ∀ m, (b.pane v.pane).modes = some m → m.buffering = .direct := by rwa [releases.pane]
  by_cases boundary : b.scan.cursorLine = 0 ∧ b.scan.queue.length < 4
  · exact releaseAndStart_offers (.of_same releases.run boundary.1 releases.idle boundary.2 rfl (fun _ => rfl)
      (fun _ => rfl) (fun _ => .refl _) fun _ => rfl) inList service parked direct
  · have passes : budgetAllows b e.host v.accessLen = true :=
      (budgetAllows_congr (releases.budget _) (releases.cells _) _).trans (allowed.resolve_left boundary)
    rw [releaseAndStart_inside boundary, startLatch_inside (by simpa using boundary), State.lane_setScan]
    exact releaseParked_allowed inList service parked (isDouble_of_direct direct) passes

/-- Otherwise it is MADE, and its host is told once in the frame. -/
theorem AtRelease.denies (writes : v.op.writes = true) (inside : ¬(b.scan.cursorLine = 0 ∧ b.scan.queue.length < 4))
    (reached : budgetAllows s e.host v.accessLen = false) : Denied e.host v (releaseAndStart b) ∧
      ((s.host e.host).budgetHit = false → s.isActive e.host = true → (s.queue e.host).events.length < 7 →
        Event.budgetReached v.pane s.scan.frame ∈ ((releaseAndStart b).queue e.host).events) := by
  have fails : budgetAllows b e.host v.accessLen = false :=
    (budgetAllows_congr (releases.budget _) (releases.cells _) _).trans reached
  obtain ⟨made, hit, told⟩ := releaseParked_reached (releases.parked ▸ inList) (by rwa [releases.lane]) parked writes fails
  have same := (releaseAndStart_inside inside).trans (startLatch_inside (by simpa using inside))
  refine ⟨⟨?_, ?_, by simp [releaseAndStart_parked]⟩, fun first active room => ?_⟩
  · rw [same]; exact made
  · rw [same]; exact hit
  · rw [same, ← releases.frame]
    exact told ((releases.hit _).trans first) ((releases.active _).trans active) (by
      have := releases.queue e.host
      omega)

end

/-- What the release and what follows at once leave of the parked writes on DIRECT panes. -/
theorem AtRelease.releasedInto {s b : State} (releases : AtRelease s b) : s.releasedInto (settle (releaseAndStart b))
    (b.scan.cursorLine = 0 ∧ b.scan.queue.length < 4) b.scan.cursorLine := by
  intro e inList v service isParked kind direct line k allowed
  have writes : v.op.writes = true := by simpa [writes_eq_kind] using kind
  have test : budgetAllows s e.host v.accessLen = true ↔
      k.budget = 0 ∨ k.cells + min 64 (v.area.x + v.area.w - v.col) ≤ 64 * k.budget := budgetAllows_iff ..
  by_cases passes : allowed
  · have offered := releases.offers inList service isParked direct (passes.imp_right test.2)
    have plain := settle_plain e.host v _ writes
      ⟨offered, .inl (releaseAndStart_single (by rwa [releases.pane]))⟩
      (fun l started => by rw [releaseAndStart_line releases.idle l started]; exact Ne.symm line)
      (by simp [releaseAndStart_parked])
    exact ⟨plain.parked, fun _ => plain.access, fun denied => absurd passes denied⟩
  · obtain ⟨inside, fails⟩ := not_or.1 passes
    obtain ⟨denied, told⟩ := releases.denies inList service isParked writes inside
      (Bool.eq_false_iff.2 fun allows => fails (test.1 allows))
    have settled := settle_denied e.host v _ denied
    exact ⟨settled.parked, fun passed => absurd passed passes, fun _ => ⟨settled.service, settled.hit,
      fun first active room => (settle_grows _ _).events.subset (told first active room)⟩⟩

/-- With no operation at the next line in service and none queued nothing is parked again. -/
theorem AtRelease.empties {s b : State} (releases : AtRelease s b) (queued : ∀ g, (s.lane g).queued = [])
    (line : ∀ g v, (s.lane g).service = some v → v.line ≠ b.scan.cursorLine) :
    (settle (releaseAndStart b)).parked = [] := by
  have unparked : Unparked (releaseAndStart b) := by
    refine ⟨releaseAndStart_parked b, fun g => by simpa [releases.lane] using queued g, fun g l started at_ => ?_⟩
    have bare := congrArg (Option.map Service.line) (releaseAndStart_bare b g)
    rw [releases.lane] at bare
    simp only [Option.map_map, Function.comp_def, Service.bare] at bare
    obtain ⟨v, held, same⟩ := Option.map_eq_some_iff.1 (bare.symm.trans at_)
    exact line g v held (same.trans (releaseAndStart_line releases.idle l started))
  exact (settle_keeps Unparked.start Unparked.grant _ unparked).parked

end Sys2Proof.Machine
end

section
/-! The completion of a segment read (R56, R57, R63): settles O34. -/
namespace Sys2Proof.Machine

/-- The cursor's line after the one it stands at (R53). -/
def State.nextLine (s : State) : Nat :=
  if s.scan.cursorLine + 1 < s.conf.settings.frameHeight then s.scan.cursorLine + 1 else 0

theorem cursorAfter_line (height : Nat) (frame : Half) (line : Nat) :
    (cursorAfter height frame line).2 = if line + 1 < height then line + 1 else 0 := by
  unfold cursorAfter
  split <;> rfl

/-- The line of a complete latch has joined the queue, the cursor is past it, and the urgency follows (R57, R65). -/
def lineQueued (l : Latch) (s : State) : State :=
  let c := cursorAfter s.conf.settings.frameHeight s.scan.cursorFrame s.scan.cursorLine
  refreshUrgency (s.setScan { s.scan with
    latch := none, cursorFrame := c.1, cursorLine := c.2,
    queue := s.scan.queue ++ [⟨l.frame, l.line, l.torn, l.gathered.flatten⟩] })

theorem completeLatch_eq (l : Latch) (s : State) : completeLatch l s = releaseAndStart (lineQueued l s) := rfl

section
variable (l : Latch) (s : State)

theorem lineQueued_queue :
    (lineQueued l s).scan.queue = s.scan.queue ++ [⟨l.frame, l.line, l.torn, l.gathered.flatten⟩] := rfl

theorem lineQueued_length : (lineQueued l s).scan.queue.length = s.scan.queue.length + 1 := by
  simp [lineQueued_queue]

theorem lineQueued_cursor : (lineQueued l s).scan.cursorLine = s.nextLine := cursorAfter_line ..

theorem lineQueued_urgency : (lineQueued l s).arbiter.urgency =
    urgencyOf (s.scan.queue.length + 1) s.conf.settings.panicLevel s.conf.settings.urgentLevel := by
  rw [← lineQueued_length l s]
  rfl

theorem lineQueued_atRelease (run : s.inRun = true) : AtRelease s (lineQueued l (freeStore s)) :=
  ⟨run, rfl, rfl, rfl, fun _ => rfl, fun _ => rfl, fun _ => rfl, fun _ => rfl, fun _ => rfl, fun _ => rfl,
    fun _ => Nat.le_succ _⟩

/-- A latch starts in RUN where the queue has room after the completed line, of the next line (R54, R57). -/
theorem completeLatch_latch (run : s.inRun = true) (room : s.scan.queue.length < 3) :
    ∃ m, (settle (completeLatch l s)).scan.latch = some m ∧ m.gathered = [] ∧ m.segment = 0 ∧ m.restarts = 0 ∧
      m.line = s.nextLine := by
  have space : (lineQueued l s).scan.queue.length < 4 := by rw [lineQueued_length]; omega
  obtain ⟨frame, started⟩ := releaseAndStart_latch (s := lineQueued l s) run rfl space
  obtain ⟨torn, settled⟩ := settle_latch_some _ _ started
  exact ⟨_, settled, rfl, rfl, rfl, lineQueued_cursor l s⟩

theorem completeLatch_idle (stays : s.inRun = false ∨ 3 ≤ s.scan.queue.length) :
    (settle (completeLatch l s)).scan.latch = none := by
  refine settle_latch_none _ (releaseAndStart_idle (s := lineQueued l s) rfl ?_)
  rw [lineQueued_length]
  exact stays.imp_right Nat.succ_le_succ

end

/-- A latch whose current segment's cells are gathered (R56). -/
def Latch.gather (l : Latch) (cells : List Cell) : Latch :=
  { l with gathered := l.gathered ++ [cells], segment := l.segment + 1 }

/-- What follows at once from a change of the latch in a state whose store is now free. -/
theorem gathered_settledFrom {s t : State} {latch : Option Latch}
    (settled : ((freeStore s).setScan { s.scan with latch := latch }).settledFrom t) :
    (s.setScan { s.scan with latch := t.scan.latch }).settledFrom t := by
  obtain ⟨pending, choices, pin, store, conf, panel, scan, -, -, urgency, hostless, host, port, pane⟩ := settled
  exact ⟨pending, choices, pin, store, conf, panel, scan, fun l is => ⟨l.torn, is⟩, fun none => none, urgency, hostless,
    host, port, pane⟩

/-- Settles O34: the read's cells are gathered, complete the latch, or go to no one. -/
theorem segmentReadGathers : Obligations.SegmentReadGathers := by
  unfold Obligations.SegmentReadGathers
  intro s live line first cells l access inside latch
  have ran : exec .segmentReadComplete s = .next (segmentReadComplete s) :=
    exec_completion (.segment live line first cells) access ((runInStore_iff line first cells.length).1 inside)
  refine ⟨_, ran, fun isLive more => ?_, fun isLive last => ?_, fun dead => ?_⟩
  · subst isLive
    have gathers : segmentReadComplete s =
        settle ((freeStore s).setScan { s.scan with latch := some (l.gather cells) }) := by
      simp [segmentReadComplete, access, gatherSegment, latch, more, Latch.gather]
    obtain ⟨torn, gathered⟩ :=
      settle_latch_some ((freeStore s).setScan { s.scan with latch := some (l.gather cells) }) (l.gather cells) rfl
    rw [gathers]
    exact ⟨gathered_settledFrom (settle_settledFrom _), _, gathered, rfl, rfl, rfl, rfl, rfl⟩
  · subst isLive
    have completes : segmentReadComplete s =
        settle (completeLatch (l.gather cells) (freeStore s)) := by
      simp [segmentReadComplete, access, gatherSegment, latch, Nat.not_lt.2 last, Latch.gather]
    rw [completes]
    have queue : (settle (completeLatch (l.gather cells) (freeStore s))).scan.queue = (lineQueued (l.gather cells) (freeStore s)).scan.queue := by
      simp [completeLatch_eq]
    have urgency : (settle (completeLatch (l.gather cells) (freeStore s))).arbiter.urgency =
        (lineQueued (l.gather cells) (freeStore s)).arbiter.urgency := by simp [completeLatch_eq]
    have length := lineQueued_length (l.gather cells) (freeStore s)
    have next := lineQueued_cursor (l.gather cells) (freeStore s)
    refine ⟨by rw [queue, lineQueued_queue]; rfl, urgency.trans (lineQueued_urgency (l.gather cells) (freeStore s)),
      completeLatch_latch (l.gather cells) (freeStore s), completeLatch_idle (l.gather cells) (freeStore s), fun run => ?_, fun run queued stand => ?_⟩
    · have released := (lineQueued_atRelease (l.gather cells) s run).releasedInto
      rw [next, length, Nat.succ_lt_succ_iff] at released
      exact released
    · exact (lineQueued_atRelease (l.gather cells) s run).empties queued fun g v service => next ▸ (stand g v service).2
  · subst dead
    have frees : segmentReadComplete s = settle (freeStore s) := by simp [segmentReadComplete, access]
    rw [frees]
    exact settledFrom_trans (settledFrom_of_scan (by simp) (by simp) (by simp) (by simp) (by simp) (by simp) (by simp)
      (by simp) (by simp) (by simp) (by simp) (by simp)) (settle_settledFrom _)

end Sys2Proof.Machine
end

section
/-! Fault records that name no host, and the UNDERRUN report (R62, R136 to R139). -/
namespace Sys2Proof.Machine

/-! ## What follows at once leaves the records that name no host -/

/-- Each fault record that names no host stands. -/
structure HostlessStand (s t : State) : Prop where
  slot : ∀ (i : Fin 16) r, s.faults.slots[i] = some r → r.host = none → t.faults.slots[i] = some r

theorem HostlessStand.of_faults {s t : State} (same : t.faults = s.faults) : HostlessStand s t :=
  ⟨fun i r held _ => by rw [same]; exact held⟩

theorem HostlessStand.trans {s t u : State} (first : HostlessStand s t) (second : HostlessStand t u) : HostlessStand s u :=
  ⟨fun i r held hostless => second.slot i r (first.slot i r held hostless) hostless⟩

theorem postTo_faults (hs : List HostNo) (e : Event) (s : State) : (postTo hs e s).faults = s.faults := by simp

theorem sameFault_iff (r q : FaultRecord) : sameFault r q = true ↔ r.kind = q.kind ∧ r.host = q.host ∧ r.pane = q.pane := by
  simp [sameFault, and_assoc]

/-- A report that names a host leaves them. -/
theorem reportFault_hostlessStand (r : FaultRecord) (s : State) (named : r.host.isSome) : HostlessStand s (reportFault r s) := by
  refine ⟨fun j q held hostless => ?_⟩
  rw [reportFault_eq]
  rcases takeReport_cases (noteHosts r) r s with ⟨i, p, merges, same, merged⟩ | ⟨-, i, free, -, recorded⟩ | ⟨-, counted⟩
  · have other : i ≠ j := by
      rintro rfl
      obtain rfl := Option.some.inj (merges.symm.trans held)
      simp [((sameFault_iff r p).1 same).2.1, hostless] at named
    rw [merged]
    exact (Vector.getElem_set_ne i.isLt j.isLt (Fin.val_ne_of_ne other)).trans held
  · have other : i ≠ j := by rintro rfl; simp [free] at held
    rw [recorded, postTo_faults]
    exact (Vector.getElem_set_ne i.isLt j.isLt (Fin.val_ne_of_ne other)).trans held
  · rw [counted, countOverflow_eq]
    cases host : r.host with
    | none => simp [host] at named
    | some h => exact held

theorem passGrant_hostlessStand (kind : FaultKind) (h : HostNo) (v : Service) (l : Latch) (s : State) :
    HostlessStand s (passGrant kind h v l s) := by
  have reported := reportFault_hostlessStand (conflictFault kind h v l)
    ((s.setScan { s.scan with latch := some { l with torn := true } }).setPane v.pane
      { s.pane v.pane with tears := satSucc (s.pane v.pane).tears }) rfl
  exact ⟨reported.slot⟩

theorem parkOrPass_hostlessStand (h : HostNo) (v : Service) (l : Latch) (s : State) :
    HostlessStand s (parkOrPass h v l s) := by
  unfold parkOrPass
  split
  · exact .of_faults rfl
  · exact passGrant_hostlessStand ..

theorem resolveConflict_hostlessStand (h : HostNo) (v : Service) (l : Latch) (s : State) :
    HostlessStand s (resolveConflict h v l s) := by
  unfold resolveConflict
  split
  · exact passGrant_hostlessStand ..
  · exact parkOrPass_hostlessStand ..
  · split
    · exact (reportFault_hostlessStand (conflictFault .relatchLimit h v l) s rfl).trans (parkOrPass_hostlessStand ..)
    · split
      · exact .of_faults rfl
      · exact parkOrPass_hostlessStand ..

theorem serveHost_hostlessStand (h : HostNo) (s : State) : HostlessStand s (serveHost h s) := by
  unfold serveHost
  split
  · exact .of_faults rfl
  · split
    · exact .of_faults rfl
    · split
      · exact resolveConflict_hostlessStand ..
      · exact .of_faults rfl

theorem arbitrate_hostlessStand (n : Nat) (s : State) : HostlessStand s (arbitrate n s) := by
  induction n generalizing s with
  | zero => exact .of_faults rfl
  | succ n ih =>
    unfold arbitrate
    split
    · exact .of_faults rfl
    · split
      · exact .of_faults rfl
      · split <;> exact .of_faults rfl
      · split
        · exact (serveHost_hostlessStand _ s).trans (ih _)
        · exact .of_faults rfl

theorem settle_hostlessStand (s : State) : HostlessStand s (settle s) := by
  unfold settle
  split
  · exact (HostlessStand.of_faults (by simp)).trans (arbitrate_hostlessStand 5 _)
  · exact .of_faults rfl

/-- With the store busy what follows at once is service starts alone. -/
theorem settle_busy {s : State} (busy : s.arbiter.access.isSome = true) :
    (settle s).parked = s.parked ∧ (settle s).arbiter = s.arbiter := by
  unfold settle
  split
  · rw [arbitrate_busy _ _ (by simpa using busy)]
    simp
  · exact ⟨rfl, rfl⟩

/-! ## The UNDERRUN report (R62) -/

/-- A record of an UNDERRUN. -/
def FaultRecord.Underrun (r : FaultRecord) : Prop := r.kind = .underrun ∧ r.host = none ∧ r.pane = none

theorem FaultRecord.Underrun.hostless {r : FaultRecord} (isUnderrun : r.Underrun) : r.host = none := by
  obtain ⟨-, host, -⟩ := isUnderrun
  exact host

theorem sameFault_underrun (line : Option Nat) (frame : Half) (q : FaultRecord) :
    sameFault (faultReport .underrun none none line frame) q = true ↔ q.Underrun := by
  rw [sameFault_iff]
  exact ⟨fun ⟨kind, host, pane⟩ => ⟨kind.symm, host.symm, pane.symm⟩, fun ⟨kind, host, pane⟩ => ⟨kind.symm, host.symm, pane.symm⟩⟩

section
variable (line : Option Nat) (frame : Half) (s : State)

/-- Where a slot is free or holds an UNDERRUN the report is recorded or merged. -/
theorem underrun_recorded (allowed : ∃ i : Fin 16, s.faults.slots[i] = none ∨ ∃ r, s.faults.slots[i] = some r ∧ r.Underrun) :
    ∃ (i : Fin 16) (r : FaultRecord), (reportFault (faultReport .underrun none none line frame) s).faults.slots[i] = some r ∧
      r.Underrun ∧ r.lastFrame = frame := by
  rw [reportFault_eq]
  rcases takeReport_cases (noteHosts (faultReport .underrun none none line frame)) (faultReport .underrun none none line frame) s
    with ⟨i, q, -, same, merged⟩ | ⟨-, i, -, -, recorded⟩ | ⟨full, -⟩
  · rw [merged]
    exact ⟨i, _, Vector.getElem_set_self i.isLt, (sameFault_underrun line frame q).1 same, rfl⟩
  · rw [recorded, postTo_faults]
    exact ⟨i, _, Vector.getElem_set_self i.isLt, ⟨rfl, rfl, rfl⟩, rfl⟩
  · obtain ⟨i, free | ⟨r, held, isUnderrun⟩⟩ := allowed <;> obtain ⟨q, other, differs⟩ := full i
    · simp [free] at other
    · obtain rfl := Option.some.inj (held.symm.trans other)
      rw [(sameFault_underrun line frame r).2 isUnderrun] at differs
      cases differs

/-- Otherwise it is counted. -/
theorem underrun_counted (full : ∀ i : Fin 16, ∃ r, s.faults.slots[i] = some r ∧ ¬r.Underrun) :
    (reportFault (faultReport .underrun none none line frame) s).faults.hostless = min (s.faults.hostless + 1) 255 := by
  rw [reportFault_eq]
  rcases takeReport_cases (noteHosts (faultReport .underrun none none line frame)) (faultReport .underrun none none line frame) s
    with ⟨i, q, held, same, -⟩ | ⟨-, i, free, -⟩ | ⟨-, counted⟩
  · obtain ⟨r, other, differs⟩ := full i
    obtain rfl := Option.some.inj (held.symm.trans other)
    exact absurd ((sameFault_underrun line frame q).1 same) differs
  · obtain ⟨r, held, -⟩ := full i
    simp [free] at held
  · rw [counted]
    rfl

end

/-! ## At most one note joins each event queue -/

theorem postEvent_length (h g : HostNo) (e : Event) (s : State) : ((postEvent h e s).queue g).events.length ≤
    (s.queue g).events.length + if h = g then 1 else 0 := by
  rw [postEvent_queue]
  by_cases own : h = g <;> simp only [own, true_and, false_and, if_true, if_false] <;> (repeat' split) <;> simp

theorem postTo_allHosts_length (g : HostNo) (e : Event) (s : State) :
    ((postTo allHosts e s).queue g).events.length ≤ (s.queue g).events.length + 1 := by
  rw [postTo, forEach_allHosts]
  have first := postEvent_length 0 g e s
  have second := postEvent_length 1 g e (postEvent 0 e s)
  have third := postEvent_length 2 g e (postEvent 1 e (postEvent 0 e s))
  have fourth := postEvent_length 3 g e (postEvent 2 e (postEvent 1 e (postEvent 0 e s)))
  fin_cases g <;> simp at first second third fourth ⊢ <;> omega

theorem underrun_noted (line : Option Nat) (frame : Half) (s : State) (g : HostNo) :
    ((reportFault (faultReport .underrun none none line frame) s).queue g).events.length ≤
      (s.queue g).events.length + 1 := by
  rw [reportFault_eq]
  rcases takeReport_cases (noteHosts (faultReport .underrun none none line frame)) (faultReport .underrun none none line frame) s
    with ⟨i, q, -, -, merged⟩ | ⟨-, i, -, -, recorded⟩ | ⟨-, counted⟩
  · rw [merged]
    exact Nat.le_succ _
  · rw [recorded]
    exact postTo_allHosts_length g _ (s.setFaults _)
  · rw [counted, countOverflow_eq]
    exact Nat.le_succ _

end Sys2Proof.Machine
end

section
/-! An underrun at a visible mark (R62, R63, R98): settles O36. -/
namespace Sys2Proof.Machine

/-! ## The skipped line (R62, R53) -/

/-- A line of BACKDROP is sent and the UNDERRUN reported (R62). -/
def underrunTold (k : Nat) (s : State) : State :=
  let sent := emit (markPackets s.scan.emission k false true (backdropLine s)) s
  reportFault (faultReport .underrun none none (some k) sent.scan.emission) sent

/-- The cursor goes past the line as well (R62). -/
def lineSkipped (k : Nat) (s : State) : State :=
  let told := underrunTold k s
  let c := cursorAfter told.conf.settings.frameHeight told.scan.emission k
  told.setScan { told.scan with cursorFrame := c.1, cursorLine := c.2 }

section
variable (k : Nat) (s : State)

/-- The state in which the UNDERRUN is reported. -/
abbrev backdropSent : State := emit (markPackets s.scan.emission k false true (backdropLine s)) s

theorem underrunTold_eq :
    underrunTold k s = reportFault (faultReport .underrun none none (some k) s.scan.emission) (backdropSent k s) := by
  simp [underrunTold]

@[simp] theorem lineSkipped_frame : (lineSkipped k s).scan.queue = s.scan.queue ∧
    (lineSkipped k s).scan.latch = s.scan.latch ∧ (lineSkipped k s).scan.frame = s.scan.frame ∧
    (lineSkipped k s).arbiter = s.arbiter ∧ (lineSkipped k s).parked = s.parked ∧ (lineSkipped k s).conf = s.conf ∧
    (∀ p, (lineSkipped k s).pane p = s.pane p) ∧ (∀ g, (lineSkipped k s).lane g = s.lane g) ∧
    (∀ g, ((lineSkipped k s).host g).cells = (s.host g).cells) ∧
    (∀ g, ((lineSkipped k s).host g).budget = (s.host g).budget) ∧
    (∀ g, ((lineSkipped k s).host g).budgetHit = (s.host g).budgetHit) ∧
    (∀ g, (lineSkipped k s).isActive g = s.isActive g) := by
  simp [lineSkipped, underrunTold]

theorem lineSkipped_lane : (lineSkipped k s).scan.lane = if s.scan.emitter = .sending
    then markPackets s.scan.emission k false true (backdropLine s) else s.scan.lane := by
  simp [lineSkipped, underrunTold, emit_lane]

theorem lineSkipped_cursorLine : (lineSkipped k s).scan.cursorLine =
    if k + 1 < s.conf.settings.frameHeight then k + 1 else 0 := by
  simp [lineSkipped, underrunTold, cursorAfter_line]

theorem lineSkipped_cursorFrame (more : k + 1 < s.conf.settings.frameHeight) :
    (lineSkipped k s).scan.cursorFrame = s.scan.emission := by
  simp [lineSkipped, underrunTold, cursorAfter, more]

theorem lineSkipped_faults : (lineSkipped k s).faults =
    (reportFault (faultReport .underrun none none (some k) s.scan.emission) (backdropSent k s)).faults := by
  rw [← underrunTold_eq]
  rfl

theorem lineSkipped_noted (g : HostNo) : ((lineSkipped k s).queue g).events.length ≤ (s.queue g).events.length + 1 := by
  simpa [lineSkipped, underrunTold] using underrun_noted (some k) s.scan.emission (backdropSent k s) g

/-! ## The latch (R63, R98) -/

/-- An underrun skips the line, and abandons a latch of it (R62, R63, R98). -/
theorem underrun_eq : underrun k s = if latchIsOf s k = true then releaseAndStart (abandonLatch (lineSkipped k s))
    else startLatch (lineSkipped k s) := by
  have same : latchIsOf (underrunTold k s) k = latchIsOf s k := by simp [latchIsOf, underrunTold]
  rw [← same]
  rfl

theorem underrun_keeps : (underrun k s).scan.lane = (lineSkipped k s).scan.lane ∧
    (underrun k s).scan.cursorLine = (lineSkipped k s).scan.cursorLine ∧ (underrun k s).faults = (lineSkipped k s).faults := by
  rw [underrun_eq]
  split <;> simp

/-- Within a frame the cursor's frame is that of the mark. -/
theorem underrun_cursorFrame (more : k + 1 < s.conf.settings.frameHeight) :
    (underrun k s).scan.cursorFrame = s.scan.emission := by
  have cursor := lineSkipped_cursorLine k s
  rw [if_pos more] at cursor
  rw [underrun_eq, ← lineSkipped_cursorFrame k s more]
  split
  · rw [releaseAndStart_inside (by simp [cursor]), startLatch_inside (by simp [cursor])]
    simp
  · rw [startLatch_inside (by simp [cursor])]
    rfl

end

/-- A latch in flight after what follows at once is the one that was, perhaps torn. -/
theorem settle_latch_line {s : State} {l : Latch} (latch : (settle s).scan.latch = some l) :
    ∃ m, s.scan.latch = some m ∧ l.line = m.line := by
  have same := settle_latch s
  rw [latch] at same
  obtain ⟨m, held, bare⟩ := Option.map_eq_some_iff.1 same.symm
  obtain ⟨torn, rfl⟩ := (Latch.bare_eq_iff m l).1 bare.symm
  exact ⟨m, held, rfl⟩

/-- The Parked List is released where the latch of the skipped line is abandoned. -/
theorem underrun_atRelease {s u : State} {k : Nat} {emission : Half} {mode : EmitterMode} (run : s.inRun = true)
    (at_ : AtMark s k emission mode u) : AtRelease s (abandonLatch (lineSkipped k u)) where
  run := by simpa [State.inRun, at_.conf] using run
  idle := rfl
  frame := by simp [at_.scan]
  parked := by simp [at_.parked]
  pane p := by simp [at_.pane]
  lane g := by simp [at_.lane]
  cells g := by simp [at_.host]
  budget g := by simp [at_.host]
  hit g := by simp [at_.host]
  active g := by
    have same : u.isActive g = s.isActive g := by simp [State.isActive, at_.host]
    simp [same]
  queue g := by simpa [at_.queue] using lineSkipped_noted k u g

/-- Settles O36: the line of BACKDROP, the fault, the cursor, and what the abandoned latch leaves. -/
theorem lineMarkUnderrun : Obligations.LineMarkUnderrun := by
  unfold Obligations.LineMarkUnderrun
  intro s run frameOk H k E mode underrunRecord visible missing
  have mark : nextMark s = k := rfl
  have emission : nextEmission s = E := nextEmission_eq s
  have emitter : emitterAt k s.scan.emitter = mode := by simp [emitterAt, mode]
  clear_value k E mode
  have at_ := announceBlanking_atMark s s.scan.mark.isNone mark
  rw [emission, emitter] at at_
  have marked := lineMark_visible s run k mark visible
  obtain ⟨-, -, tall, -⟩ : _ ∧ _ ∧ 32 ≤ H ∧ _ := frameOk
  generalize announceBlanking s.scan.mark.isNone k (advanceMark s) = u at at_ marked
  have atEmission : u.scan.emission = E := by rw [at_.scan]
  have height : u.conf.settings.frameHeight = H := by rw [at_.conf]
  rw [visibleMark_underrun k u (by rw [at_.scan]; exact missing)] at marked
  obtain ⟨lane, cursor, faults⟩ := underrun_keeps k u
  have slots : (backdropSent k u).faults = s.faults := by simp [at_.faults]
  refine ⟨_, congrArg Host.Outcome.next marked, ?_, ?_, ?_, fun more => ?_, fun allowed => ?_, fun full => ?_,
    fun l inFlight line frame => ?_⟩
  · simp [at_.scan]
  · have sent : (settle (underrun k u)).scan.lane = (underrun k u).scan.lane := by simp
    rw [sent, lane, lineSkipped_lane, markPackets_eq, backdropLine, List.map_replicate, at_.conf, at_.scan]
    simp
  · have kept : (settle (underrun k u)).scan.cursorLine = (underrun k u).scan.cursorLine := by simp
    rw [kept, cursor, lineSkipped_cursorLine, height]
  · have kept : (settle (underrun k u)).scan.cursorFrame = (underrun k u).scan.cursorFrame := by simp
    rw [kept, underrun_cursorFrame k u (height ▸ more), atEmission]
  · obtain ⟨i, r, held, isUnderrun, last⟩ :=
      underrun_recorded (some k) u.scan.emission (backdropSent k u) (by rw [slots]; exact allowed)
    rw [← lineSkipped_faults, ← faults] at held
    exact ⟨i, r, (settle_hostlessStand _).slot i r held isUnderrun.hostless, isUnderrun, last.trans atEmission⟩
  · rw [settle_hostless, faults, lineSkipped_faults,
      underrun_counted (some k) u.scan.emission (backdropSent k u) (by rw [slots]; exact full), slots]
  · have abandons : underrun k u = releaseAndStart (abandonLatch (lineSkipped k u)) := by
      rw [underrun_eq, if_pos (by simp [latchIsOf, at_.scan, inFlight, line, frame])]
    have releases := underrun_atRelease run at_
    have next : (abandonLatch (lineSkipped k u)).scan.cursorLine = if k + 1 < H then k + 1 else 0 := by
      rw [← height]; exact lineSkipped_cursorLine k u
    have busy (access : s.arbiter.access.isSome = true) := settle_busy (s := underrun k u)
      (by rw [abandons]; simpa [abandonLatch, at_.arbiter] using access)
    refine ⟨fun m started => ?_, ?_, fun access => ?_, fun live line first cells access => ?_⟩
    · rw [abandons] at started
      obtain ⟨l', started, sameLine⟩ := settle_latch_line started
      rw [sameLine, releaseAndStart_line releases.idle l' started, next]
      split <;> omega
    · have boundary : ((abandonLatch (lineSkipped k u)).scan.cursorLine = 0 ∧
          (abandonLatch (lineSkipped k u)).scan.queue.length < 4) = (k + 1 = H ∧ s.scan.queue.length < 4) := by
        have room : (abandonLatch (lineSkipped k u)).scan.queue = s.scan.queue := by simp [at_.scan]
        rw [next, room]
        refine propext (and_congr_left fun _ => ?_)
        split <;> omega
      rw [abandons, ← next, ← boundary]
      exact releases.releasedInto
    · rw [(busy access).1, abandons, releaseAndStart_parked]
    · rw [(busy (by simp [access])).2, abandons]
      simp [abandonLatch, at_.arbiter, access, abandonAccess]

end Sys2Proof.Machine
end

section
/-! Frame budgets after every step (R81, R82, R90): settles O60. -/
namespace Sys2Proof.Machine

/-! ## What asks no more of a budget -/

/-- The part state and every budget stay, no host is charged, and an operation in service was in service before, its access
offered only where one of as many cells was. -/
structure Spares (s t : State) : Prop where
  part : t.conf.part = s.conf.part
  budget : ∀ g, (t.host g).budget = (s.host g).budget
  cells : ∀ g, (t.host g).cells ≤ (s.host g).cells
  service : ∀ g v, (t.lane g).service = some v → ∃ w, (s.lane g).service = some w ∧
    (v.access = .offered → w.access = .offered ∧ w.op.writes = v.op.writes ∧ w.accessLen = v.accessLen)

namespace Spares
variable {s t u : State}

theorem of_same (part : t.conf.part = s.conf.part) (budget : ∀ g, (t.host g).budget = (s.host g).budget)
    (cells : ∀ g, (t.host g).cells = (s.host g).cells) (lane : ∀ g, t.lane g = s.lane g) : Spares s t :=
  ⟨part, budget, fun g => (cells g).le, fun g v service => ⟨v, by rwa [← lane], fun offered => ⟨offered, rfl, rfl⟩⟩⟩

theorem refl (s : State) : Spares s s := of_same rfl (fun _ => rfl) (fun _ => rfl) fun _ => rfl

theorem trans (first : Spares s t) (second : Spares t u) : Spares s u where
  part := second.part.trans first.part
  budget g := (second.budget g).trans (first.budget g)
  cells g := (second.cells g).trans (first.cells g)
  service g v held := by
    obtain ⟨w, before, same⟩ := second.service g v held
    obtain ⟨x, first, same'⟩ := first.service g w before
    refine ⟨x, first, fun offered => ?_⟩
    obtain ⟨offered, writes, len⟩ := same offered
    obtain ⟨offered, writes', len'⟩ := same' offered
    exact ⟨offered, writes'.trans writes, len'.trans len⟩

theorem setLane (h : HostNo) (l : Lane) (service : ∀ v, l.service = some v → ∃ w, (s.lane h).service = some w ∧
    (v.access = .offered → w.access = .offered ∧ w.op.writes = v.op.writes ∧ w.accessLen = v.accessLen)) :
    Spares s (s.setLane h l) := by
  refine ⟨rfl, fun _ => rfl, fun _ => le_rfl, fun g v held => ?_⟩
  by_cases own : h = g
  · subst own
    exact service v (by simpa using held)
  · exact ⟨v, by simpa [own] using held, fun offered => ⟨offered, rfl, rfl⟩⟩

theorem idleLane (s : State) (h : HostNo) (queued : List CellOp) : Spares s (s.setLane h ⟨none, queued⟩) :=
  setLane h _ fun v held => by cases held

theorem forEach {α : Type} (f : α → State → State) (turn : ∀ a t, Spares t (f a t)) (l : List α) (s : State) :
    Spares s (forEach l f s) :=
  forEach_induct (Spares s) f (fun a t spares => spares.trans (turn a t)) l s (refl s)

end Spares

theorem answer_spares (h : HostNo) (r : Response) (s : State) : Spares s (answer h r s) := by
  apply Spares.of_same <;> simp

theorem answerAll_spares (h : HostNo) (rs : List Response) (s : State) : Spares s (answerAll h rs s) := by
  apply Spares.of_same <;> simp

theorem reply_spares (h : HostNo) (k : Kind) (tag : Byte) (st : Status) (pl : Payload) (s : State) :
    Spares s (reply h k tag st pl s) := answer_spares ..

theorem postTo_spares (hs : List HostNo) (e : Event) (s : State) : Spares s (postTo hs e s) := by
  apply Spares.of_same <;> simp

theorem setAccess_spares (h : HostNo) (a : AccessState) (s : State) (withdrawn : a ≠ .offered) :
    Spares s (setAccess h a s) := by
  refine Spares.setLane h _ fun v held => ?_
  obtain ⟨w, service, rfl⟩ := Option.map_eq_some_iff.1 held
  exact ⟨w, service, fun offered => absurd offered withdrawn⟩

/-! ## The end of an operation (R18, R37, R84, R85) -/

theorem withdrawOffer_spares (p : PaneNo) (h : HostNo) (s : State) : Spares s (withdrawOffer p h s) := by
  unfold withdrawOffer
  split
  · split
    · exact setAccess_spares h .made s (by simp)
    · exact .refl s
  · exact .refl s

theorem recordCommit_spares (h : HostNo) (p : PaneNo) (s : State) : Spares s (recordCommit h p s) := by
  unfold recordCommit
  dsimp only
  have recorded (q : Pane) : Spares s ((s.setHost h { s.host h with tickets := (s.host h).tickets + 1 }).setPane p q) := by
    apply Spares.of_same <;> simp
  split
  · exact (recorded _).trans (Spares.forEach _ (withdrawOffer_spares p) _ _)
  · exact recorded _

theorem takeCommit_spares (h : HostNo) (p : PaneNo) (tag : Byte) (s : State) : Spares s (takeCommit h p tag s) :=
  (recordCommit_spares h p s).trans (reply_spares ..)

theorem countForCommit_spares (h : HostNo) (p : PaneNo) (s : State) : Spares s (countForCommit h p s) := by
  rcases countForCommit_cases h p s with ⟨same, -⟩ | ⟨tag, n, -, -, ⟨-, taken⟩ | ⟨-, counted⟩⟩
  · rw [same]; exact .refl s
  · rw [taken]; exact takeCommit_spares h p tag s
  · rw [counted]; apply Spares.of_same <;> simp

theorem takeStageIfIdle_spares (p : PaneNo) (s : State) : Spares s (takeStageIfIdle p s) := by
  apply Spares.of_same <;> simp

theorem reportEnd_spares (h : HostNo) (sel : Byte) (s : State) : Spares s (reportEnd h sel s) := by
  unfold reportEnd
  split
  · exact (countForCommit_spares h _ s).trans (takeStageIfIdle_spares _ _)
  · exact .refl s

theorem finishOp_spares (h : HostNo) (v : Service) (r : Response) (s : State) : Spares s (finishOp h v r s) :=
  ((Spares.idleLane s h _).trans (answerAll_spares ..)).trans (reportEnd_spares ..)

theorem readDone_spares (h : HostNo) (cells : List Cell) (s : State) : Spares s (readDone h cells s) := by
  unfold readDone
  split
  · exact .refl s
  · split <;> exact finishOp_spares ..

/-! ## Stopped and dropped work, guests and departures (R86 to R88, R117) -/

theorem stopOps_spares (h : HostNo) (test : CellOp → Bool) (parked : Parked → Bool) (status : Status) (s : State) :
    Spares s (stopOps h test parked status s) := by
  refine .trans (t := s.setLane h _) (Spares.setLane h _ fun v held => ?_) (by apply Spares.of_same <;> intros <;> rfl)
  obtain ⟨w, service, stopped⟩ := Option.bind_eq_some_iff.1 held
  refine ⟨w, service, fun offered => ?_⟩
  unfold stoppedService at stopped
  (repeat' split at stopped) <;> cases stopped <;> exact ⟨offered, rfl, rfl⟩

theorem dropOps_spares (h : HostNo) (s : State) : Spares s (dropOps h s) :=
  (Spares.idleLane s h []).trans (by apply Spares.of_same <;> simp [dropOps])

theorem placeDetach_spares (h : HostNo) (r : Response) (s : State) : Spares s (placeDetach h r s) := by
  unfold placeDetach
  split
  · next v service =>
    refine Spares.setLane h _ fun w held => ⟨v, service, fun offered => ?_⟩
    obtain rfl := Option.some.inj held
    exact ⟨offered, rfl, rfl⟩
  · exact answer_spares ..

theorem endWork_spares (panes : List PaneNo) (status : Status) (h : HostNo) (s : State) :
    Spares s (endWork panes status h s) :=
  ((stopOps_spares h _ _ status s).trans (answerAll_spares ..)).trans (Spares.forEach _ takeStageIfIdle_spares _ _)

theorem changeGuest_spares (h : HostNo) (p : PaneNo) (named : Option HostNo) (s : State) :
    Spares s (changeGuest h p named s) := by
  have changed : Spares s (s.setPane p { s.pane p with guest := named }) := by apply Spares.of_same <;> simp
  have revoked (reason : RevokeReason) (g : HostNo) (t : State) : Spares t (revokeGuest p h reason g t) :=
    (endWork_spares [p] .revoked g t).trans (by apply Spares.of_same <;> simp [revokeGuest])
  exact (changed.trans (Spares.forEach _ (revoked _) _ _)).trans (postTo_spares ..)

theorem releaseEnded_spares (h : HostNo) (p : PaneNo) (s : State) : Spares s (releaseEnded h p s) := by
  have released : Spares s (answerAll h ((s.pane p).held.toList.map cancelledHeld)
      (s.setPane p (releasedPane (s.pane p)))) := by apply Spares.of_same <;> simp
  exact (released.trans (endWork_spares [p] .cancelled h _)).trans
    (Spares.forEach _ (endWork_spares [p] .cancelled) _ _)

theorem departPanes_spares (h : HostNo) (kind : Departure) (s : State) : Spares s (departPanes h kind s) := by
  have guest (g : HostNo) (panes : List PaneNo) (t : State) : Spares t (departGuest h kind g panes t) :=
    (endWork_spares panes (guestEnd kind).1 g t).trans
      (Spares.forEach _ (fun p u => by apply Spares.of_same <;> simp) _ _)
  unfold departPanes
  dsimp only
  refine .trans (.trans (.trans (Spares.forEach _ ?_ _ _) (Spares.forEach _ (fun g => guest g _) _ _))
    (Spares.forEach _ ?_ _ _)) (Spares.forEach _ ?_ _ _) <;>
    exact fun _ _ => by apply Spares.of_same <;> simp

theorem silentlyLeft_spares (h : HostNo) (kind : Departure) (s : State) : Spares s (silentlyLeft h kind s) := by
  have port : Spares s (clearEvents h (portDeparture h (kind = .lapse) s)) := by apply Spares.of_same <;> simp
  refine ((port.trans (departPanes_spares h kind _)).trans (dropOps_spares h _)).trans ?_
  unfold silentlyLeft
  apply Spares.of_same <;> simp

theorem detachStopped_spares (h : HostNo) (mode : DetachMode) (s : State) : Spares s (detachStopped h mode s) := by
  have left : Spares s (leaveActive h .absent s) := by apply Spares.of_same <;> simp
  exact (left.trans (departPanes_spares h _ _)).trans (stopOps_spares ..)

/-! ## Budgets kept -/

/-- With nothing granted and nothing in service every budget is kept (R90). -/
theorem budgetsOk_of_unused {s : State} (unused : ∀ h, (s.host h).cells = 0 ∧ (s.lane h).service = none) : s.budgetsOk :=
  fun h => ⟨fun _ => by simp [(unused h).1], fun v held => by simp [(unused h).2] at held, fun _ => unused h⟩

theorem partReset_budgetsOk (cause : Cause) (s : State) : (partReset cause s).budgetsOk :=
  budgetsOk_of_unused fun h => by simp [HostRecord.reset]

namespace State.budgetsOk
variable {s t : State}

theorem spares (ok : s.budgetsOk) (spares : Spares s t) : t.budgetsOk := by
  intro h
  obtain ⟨within, offers, setup⟩ := ok h
  have cells := spares.cells h
  rw [spares.budget h]
  refine ⟨fun limited => cells.trans (within limited), fun v held writes offered limited => ?_, fun idle => ?_⟩
  · obtain ⟨w, before, same⟩ := spares.service h v held
    obtain ⟨offered, writes', len⟩ := same offered
    have room := offers w before (writes'.trans writes) offered limited
    omega
  · obtain ⟨unspent, none⟩ := setup (by simpa [State.inRun, spares.part] using idle)
    refine ⟨by omega, Option.eq_none_iff_forall_ne_some.2 fun v held => ?_⟩
    obtain ⟨w, before, -⟩ := spares.service h v held
    simp [none] at before

theorem run_of_service (ok : s.budgetsOk) {h : HostNo} {v : Service} (service : (s.lane h).service = some v) :
    s.inRun = true := by
  by_contra setup
  simp [((ok h).2.2 (by simpa using setup)).2] at service

/-- A lane may change so that the access it offers is one the budget has room for. -/
theorem setLane (ok : s.budgetsOk) (run : s.inRun = true) (h : HostNo) (l : Lane)
    (room : ∀ v, l.service = some v → v.op.writes = true → v.access = .offered → (s.host h).budget ≠ 0 →
      (s.host h).cells + v.accessLen ≤ 64 * (s.host h).budget) : (s.setLane h l).budgetsOk := by
  intro g
  obtain ⟨within, offers, -⟩ := ok g
  refine ⟨within, fun v held => ?_, fun setup => absurd (run.symm.trans setup) nofun⟩
  by_cases own : h = g
  · subst own
    exact room v (by simpa using held)
  · exact offers v (by simpa [own] using held)

/-- Each access is tested before it is offered (R81). -/
theorem testAccess (ok : s.budgetsOk) (h : HostNo) : (testAccess h s).budgetsOk := by
  unfold Machine.testAccess
  split
  · exact ok
  · next v service =>
    have offer (room : v.op.writes = true → budgetAllows s h v.accessLen = true) : (setAccess h .offered s).budgetsOk := by
      refine ok.setLane (ok.run_of_service service) h _ fun w held writes _ limited => ?_
      obtain rfl : { v with access := .offered } = w := by simpa [service] using held
      exact ((budgetAllows_iff s h _).1 (room writes)).resolve_left limited
    have withdraw := ok.spares (setAccess_spares h .made s (by simp))
    split
    · next reads => exact offer fun writes => by simp [writes] at reads
    · split
      · next allowed =>
        split
        · exact withdraw
        · exact offer fun _ => allowed
      · exact withdraw.spares (by apply Spares.of_same <;> simp)

/-! ### Service starts (R73 to R76) -/

theorem startOp (ok : s.budgetsOk) (run : s.inRun = true) (h : HostNo) (op : CellOp) (rest : List CellOp) :
    (startOp h op rest s).budgetsOk := by
  unfold Machine.startOp
  split
  · exact ok.spares (((Spares.idleLane s h rest).trans (answer_spares ..)).trans (reportEnd_spares ..))
  · refine testAccess (ok.setLane run h _ fun v held _ offered => ?_) h
    obtain rfl := Option.some.inj held
    cases offered

theorem startHead (ok : s.budgetsOk) (run : s.inRun = true) (h : HostNo) (n : Nat) : (startHead h n s).budgetsOk := by
  induction n generalizing s with
  | zero => exact ok
  | succ n ih =>
    unfold Machine.startHead
    split
    · next op rest _ _ =>
      split
      · exact ok
      · exact ih (ok.startOp run h op rest) (by simpa [State.inRun] using run)
    · exact ok

theorem startServices (ok : s.budgetsOk) (run : s.inRun = true) : (startServices s).budgetsOk :=
  (forEach_induct (fun t => t.budgetsOk ∧ t.inRun = true) _
    (fun h t ⟨ok, run⟩ => ⟨ok.startHead run h _, by simpa [State.inRun] using run⟩) _ s ⟨ok, run⟩).1

/-- The next access of an operation is made and tested (R76, R79). -/
theorem writeDone (ok : s.budgetsOk) (h : HostNo) (n : Nat) : (writeDone h n s).budgetsOk := by
  unfold Machine.writeDone
  split
  · exact ok
  · next v service =>
    dsimp only
    split
    · exact ok.spares (finishOp_spares ..)
    · exact ok.spares (finishOp_spares ..)
    · refine testAccess (ok.setLane (ok.run_of_service service) h _ fun w held _ offered => ?_) h
      obtain rfl := Option.some.inj held
      cases offered

/-! ### Grants (R66 to R69, R94) -/

/-- The grant of an offered write charges the cells the budget has room for (R81). -/
theorem grantWrite (ok : s.budgetsOk) {h : HostNo} {v : Service} (service : (s.lane h).service = some v)
    (writes : v.op.writes = true) (offered : v.access = .offered) (restart : Option (Half × Nat)) :
    (grantWrite h v restart s).budgetsOk := by
  have taken := ok.spares (setAccess_spares h .inProgress s (by simp))
  have room := (ok h).2.1 v service writes offered
  intro g
  by_cases own : h = g
  · subst own
    have charged : ((Machine.grantWrite h v restart s).host h).cells ≤ (s.host h).cells + v.accessLen := by
      simp [Machine.grantWrite, chargeBudget]
    have lane := grantWrite_lane h h v restart s service
    rw [if_pos rfl] at lane
    rw [lane]
    simp only [grantWrite_frame]
    refine ⟨fun limited => charged.trans (room limited), fun w held _ offering => ?_, fun setup => ?_⟩
    · obtain rfl := Option.some.inj held
      cases offering
    · exact absurd ((ok.run_of_service service).symm.trans setup) nofun
  · have same := taken g
    simpa [Machine.grantWrite, chargeBudget, own] using same

end State.budgetsOk

/-- An access served is parked, or granted once what the conflict check reports is reported. -/
def Serves (h : HostNo) (v : Service) (s t : State) : Prop :=
  Spares s t ∨ ∃ u restart, Spares s u ∧ (u.lane h).service = some v ∧ t = grantWrite h v restart u

section
variable (h : HostNo) (v : Service) (l : Latch) {s : State} (service : (s.lane h).service = some v)
include service

theorem passGrant_serves (kind : FaultKind) : Serves h v s (passGrant kind h v l s) :=
  .inr ⟨_, none, by apply Spares.of_same <;> simp, by simpa using service, rfl⟩

theorem parkOrPass_serves : Serves h v s (parkOrPass h v l s) := by
  unfold parkOrPass
  split
  · have listed : Spares s (s.setParked (s.parked ++ [parkedEntry h v])) := by apply Spares.of_same <;> simp
    exact .inl ((listed.trans (setAccess_spares h .parked _ (by simp))).trans (by apply Spares.of_same <;> simp))
  · exact passGrant_serves h v l service _

theorem resolveConflict_serves : Serves h v s (resolveConflict h v l s) := by
  unfold resolveConflict
  split
  · exact passGrant_serves h v l service _
  · exact parkOrPass_serves h v l service
  · split
    · have told : Spares s (reportFault (conflictFault .relatchLimit h v l) s) := by apply Spares.of_same <;> simp
      rcases parkOrPass_serves h v l (s := reportFault (conflictFault .relatchLimit h v l) s) (by simpa using service) with
        parked | ⟨u, restart, spares, held, granted⟩
      · exact .inl (told.trans parked)
      · exact .inr ⟨u, restart, told.trans spares, held, granted⟩
    · split
      · exact .inr ⟨s, _, .refl s, service, rfl⟩
      · exact parkOrPass_serves h v l service

end

namespace State.budgetsOk
variable {s t : State}

theorem serves (ok : s.budgetsOk) {h : HostNo} {v : Service} (writes : v.op.writes = true) (offered : v.access = .offered)
    (serves : Serves h v s t) : t.budgetsOk := by
  rcases serves with parked | ⟨u, restart, spares, service, rfl⟩
  · exact ok.spares parked
  · exact (ok.spares spares).grantWrite service writes offered restart

theorem serveHost (ok : s.budgetsOk) (h : HostNo) (offered : offers s h = true) : (serveHost h s).budgetsOk := by
  unfold Machine.serveHost
  split
  · exact ok
  · next v service =>
    have offered : v.access = .offered := by simpa [offers, service] using offered
    split
    · exact ok.spares ((setAccess_spares h .inProgress s (by simp)).trans
        (by apply Spares.of_same <;> simp [grantRead, setAccess]))
    · next writing =>
      have writes : v.op.writes = true := by
        unfold CellOp.writes
        split
        · next body => exact absurd body (writing _ _ _ _)
        · rfl
      split
      · exact ok.serves writes offered (resolveConflict_serves h v _ service)
      · exact ok.grantWrite service writes offered none

theorem arbitrate (ok : s.budgetsOk) (n : Nat) : (arbitrate n s).budgetsOk := by
  induction n generalizing s with
  | zero => exact ok
  | succ n ih =>
    unfold Machine.arbitrate
    split
    · exact ok
    · split
      · exact ok
      · split
        · exact ok.spares (by apply Spares.of_same <;> simp)
        · exact ok
      · split
        · next h next => exact ih (ok.serveHost h (nextReady_offers s h next))
        · exact ok

theorem settle (ok : s.budgetsOk) : (settle s).budgetsOk := by
  unfold Machine.settle
  split
  · next run => exact (ok.startServices run).arbitrate 5
  · exact ok

/-! ### The Parked List, the boundary and latches (R55 to R57, R83, R97) -/

theorem releaseParked (ok : s.budgetsOk) : (releaseParked s).budgetsOk := by
  refine forEach_induct State.budgetsOk releaseEntry (fun e t ok => ?_) _ _
    (ok.spares (t := s.setParked []) (by apply Spares.of_same <;> simp))
  unfold releaseEntry
  (repeat' split)
  · exact ok.testAccess _
  · exact ok
  · exact ok

theorem refillBudgets (ok : s.budgetsOk) : (refillBudgets s).budgetsOk := by
  have refill (h : HostNo) (t : State) : Spares t (refillBudget h t) := by
    refine ⟨rfl, by simp, fun g => ?_, fun g v held => ⟨v, held, fun offered => ⟨offered, rfl, rfl⟩⟩⟩
    by_cases own : h = g <;> simp [refillBudget, own]
  refine forEach_induct State.budgetsOk retestWaiting (fun h t ok => ?_) _ _ (ok.spares (Spares.forEach _ refill _ _))
  unfold retestWaiting
  (repeat' split)
  · exact ok.testAccess _
  · exact ok
  · exact ok

theorem startLatchAs (ok : s.budgetsOk) (frame : Half) : (startLatchAs frame s).budgetsOk := by
  have bounded : (frameBoundary frame s).budgetsOk := by
    have panes : Spares s (forEach allPanes (boundaryPane frame)
        (s.setScan { s.scan with frame := frame, cursorFrame := frame })) :=
      .trans (t := s.setScan { s.scan with frame := frame, cursorFrame := frame })
        (by apply Spares.of_same <;> simp) (Spares.forEach _ (fun p t => by apply Spares.of_same <;> simp) _ _)
    exact (ok.spares panes).refillBudgets
  unfold Machine.startLatchAs
  dsimp only
  split
  · split
    · exact bounded.spares (by apply Spares.of_same <;> simp)
    · exact ok.spares (by apply Spares.of_same <;> simp)
  · exact ok

theorem startLatch (ok : s.budgetsOk) : (startLatch s).budgetsOk := ok.startLatchAs _

theorem releaseAndStart (ok : s.budgetsOk) : (releaseAndStart s).budgetsOk := by
  have counted : (s.setChoices (s.choices + 1)).budgetsOk := ok.spares (by apply Spares.of_same <;> simp)
  unfold Machine.releaseAndStart
  dsimp only
  split
  · split
    · exact counted.releaseParked.startLatch
    · exact counted.startLatch.releaseParked
  · exact ok.releaseParked.startLatch

theorem gatherSegment (ok : s.budgetsOk) (cells : List Cell) : (gatherSegment cells s).budgetsOk := by
  unfold Machine.gatherSegment
  split
  · exact ok
  · dsimp only
    split
    · exact ok.spares (by apply Spares.of_same <;> simp)
    · exact releaseAndStart (ok.spares (by apply Spares.of_same <;> simp))

/-! ### Line marks and completions (R51, R56, R63, R76) -/

theorem underrun (ok : s.budgetsOk) (k : Nat) : (underrun k s).budgetsOk := by
  unfold Machine.underrun
  dsimp only
  generalize markPackets s.scan.emission k false true (backdropLine s) = packets
  generalize faultReport .underrun none none (some k) (emit packets s).scan.emission = r
  have told : Spares s (reportFault r (emit packets s)) := by apply Spares.of_same <;> simp
  split
  · exact releaseAndStart (ok.spares (told.trans (by apply Spares.of_same <;> simp)))
  · exact startLatch (ok.spares (told.trans (by apply Spares.of_same <;> simp)))

theorem visibleMark (ok : s.budgetsOk) (k : Nat) : (visibleMark k s).budgetsOk := by
  unfold Machine.visibleMark
  split
  · split
    · exact startLatch (ok.spares (by apply Spares.of_same <;> simp))
    · exact ok.underrun k
  · exact ok.underrun k

theorem lineMark (ok : s.budgetsOk) : (lineMark s).budgetsOk := by
  unfold Machine.lineMark
  split
  · refine settle ?_
    unfold markWork
    dsimp only
    generalize s.scan.mark.isNone = first
    generalize nextMark s = k
    have marked : (announceBlanking first k (advanceMark s)).budgetsOk := ok.spares (by apply Spares.of_same <;> simp)
    split
    · exact marked.visibleMark k
    · exact marked
  · exact ok

theorem segmentReadComplete (ok : s.budgetsOk) : (segmentReadComplete s).budgetsOk := by
  have free : (freeStore s).budgetsOk := ok.spares (by apply Spares.of_same <;> simp)
  unfold Machine.segmentReadComplete
  split
  · split
    · exact (free.gatherSegment _).settle
    · exact free.settle
  · exact ok

theorem writeAccessComplete (ok : s.budgetsOk) : (writeAccessComplete s).budgetsOk := by
  unfold Machine.writeAccessComplete
  split
  · next live h bank line first cells restart _ =>
    have stored : (restartLatch restart (storeCells bank line first cells (freeStore s))).budgetsOk :=
      ok.spares (by apply Spares.of_same <;> simp)
    split
    · exact (stored.writeDone h _).settle
    · exact stored.settle
  · exact ok

theorem readAccessComplete (ok : s.budgetsOk) : (readAccessComplete s).budgetsOk := by
  have free : (freeStore s).budgetsOk := ok.spares (by apply Spares.of_same <;> simp)
  unfold Machine.readAccessComplete
  split
  · split
    · exact (free.spares (readDone_spares ..)).settle
    · exact free.settle
  · exact ok

/-! ### Departures (R118, R157) -/

theorem judgeVote (ok : s.budgetsOk) : (judgeVote s).budgetsOk := by
  rcases judgeVote_cases s with same | closed | reset
  · rwa [same]
  · rw [closed]; exact ok.spares (by apply Spares.of_same <;> simp)
  · rw [reset]; exact partReset_budgetsOk .vote s

theorem departSilently (ok : s.budgetsOk) (h : HostNo) (kind : Departure) : (departSilently h kind s).budgetsOk := by
  rw [departSilently_eq]
  exact (ok.spares (silentlyLeft_spares h kind s)).judgeVote.settle

theorem takeDetach (ok : s.budgetsOk) (h : HostNo) (tag mode : Byte) : (takeDetach h tag mode s).budgetsOk := by
  unfold Machine.takeDetach
  split
  · exact ok.spares (reply_spares ..)
  · next mode _ =>
    have told (u : State) (n : Nat) (rs : List Response) :
        Spares u (takeIdleStages (answerAll h rs ((dropTransfers h u).setChoices n))) := by apply Spares.of_same <;> simp
    have started (u : State) : Spares u (startTransfer u) := by apply Spares.of_same <;> simp
    exact settle (judgeVote (ok.spares
      ((((detachStopped_spares h mode s).trans (told _ _ _)).trans (placeDetach_spares h _ _)).trans (started _))))

/-! ### Requests -/

theorem reply (ok : s.budgetsOk) (h : HostNo) (k : Kind) (tag : Byte) (st : Status) (pl : Payload) :
    (reply h k tag st pl s).budgetsOk := ok.spares (reply_spares ..)

theorem hostCheck (ok : s.budgetsOk) (h : HostNo) (k : Kind) (tag : Byte) (take : State → State)
    (taken : ∀ u, u.budgetsOk → (take u).budgetsOk) : (hostCheck h k tag take s).budgetsOk := by
  rcases hostCheck_cases h k tag take s with ⟨-, taking⟩ | ⟨status, answered⟩
  · rw [taking]; exact taken _ (ok.spares (by apply Spares.of_same <;> simp))
  · rw [answered]; exact ok.reply _ _ _ _ _

theorem withPane (ok : s.budgetsOk) (h : HostNo) (k : Kind) (tag sel : Byte) (checks : PaneNo → List (Bool × Status))
    (take : PaneNo → State → State) (taken : ∀ p, (take p s).budgetsOk) :
    (withPane h k tag sel checks take s).budgetsOk := by
  rcases withPane_cases h k tag sel checks take s with ⟨status, answered⟩ | ⟨p, -, -, taking⟩
  · rw [answered]; exact ok.reply _ _ _ _ _
  · rw [taking]; exact taken p

theorem commitPane (ok : s.budgetsOk) (h : HostNo) (tag : Byte) (p : PaneNo) : (commitPane h tag p s).budgetsOk := by
  unfold Machine.commitPane
  split
  · exact ok.spares (takeCommit_spares ..)
  · exact ok.spares (by apply Spares.of_same <;> simp)

theorem guestPane (ok : s.budgetsOk) (h : HostNo) (tag : Byte) (named : Option HostNo) (p : PaneNo) :
    (guestPane h tag named p s).budgetsOk := by
  unfold Machine.guestPane
  split
  · exact ok.reply _ _ _ _ _
  · exact settle (reply (ok.spares (changeGuest_spares ..)) _ _ _ _ _)

theorem releasePane (ok : s.budgetsOk) (h : HostNo) (tag : Byte) (p : PaneNo) : (releasePane h tag p s).budgetsOk := by
  rw [releasePane_eq]
  exact settle (reply (ok.spares ((releaseEnded_spares h p s).trans (postTo_spares ..))) _ _ _ _ _)

theorem joinLane (ok : s.budgetsOk) (h : HostNo) (op : CellOp) : (joinLane h op s).budgetsOk := by
  unfold Machine.joinLane
  split
  · exact settle (ok.spares (Spares.setLane h _ fun v held => ⟨v, held, fun offered => ⟨offered, rfl, rfl⟩⟩))
  · exact ok.reply _ _ _ _ _

theorem takeConfigSet (ok : s.budgetsOk) (h : HostNo) (tag field : Byte) (value : Half) (cell : Option RawCell) :
    (takeConfigSet h tag field value cell s).budgetsOk := by
  unfold Machine.takeConfigSet
  (repeat' split)
  case h_2 => exact reply (ok.spares (by apply Spares.of_same <;> simp)) _ _ _ _ _
  all_goals exact ok.reply _ _ _ _ _

/-- START gives the hosts their budgets with nothing granted yet (R106, R155). -/
theorem takeStart (ok : s.budgetsOk) (h : HostNo) (tag : Byte) : (takeStart h tag s).budgetsOk := by
  unfold Machine.takeStart
  split
  · exact ok.reply _ _ _ _ _
  · next setup =>
    split
    · exact ok.reply _ _ _ _ _
    · have unused (g : HostNo) := (ok g).2.2 (by simpa using setup)
      have entered : (enterRun s).budgetsOk := startLatchAs (budgetsOk_of_unused fun g => by simp [unused g]) 0
      exact settle (entered.reply _ _ _ _ _)

theorem takeResetVote (ok : s.budgetsOk) (h : HostNo) (tag : Byte) : (takeResetVote h tag s).budgetsOk := by
  unfold Machine.takeResetVote
  split
  · have opened : Spares s (if s.conf.vote = .idle then openVote h s else s) := by
      split
      · apply Spares.of_same <;> simp
      · exact .refl s
    have voted (u : State) : Spares u (u.setHost h { u.host h with vote := true }) := by apply Spares.of_same <;> simp
    exact judgeVote (reply (ok.spares (opened.trans (voted _))) _ _ _ _ _)
  · exact ok.reply _ _ _ _ _

theorem takeRequest (ok : s.budgetsOk) (i : Instr) : (takeRequest i s).budgetsOk := by
  cases i
  case attach | status =>
    exact ok.spares (by
      apply Spares.of_same <;> simp [Machine.takeRequest, attachTaken, takeAttach, statusTaken, takeStatus])
  case detach => exact ok.hostCheck _ _ _ _ fun u stands => stands.takeDetach _ _ _
  case configSet => exact ok.hostCheck _ _ _ _ fun u stands => stands.takeConfigSet _ _ _ _ _
  case start => exact ok.hostCheck _ _ _ _ fun u stands => stands.takeStart _ _
  case resetVote => exact ok.hostCheck _ _ _ _ fun u stands => stands.takeResetVote _ _
  case paneGuest =>
    exact ok.hostCheck _ _ _ _ fun u stands => stands.withPane _ _ _ _ _ _ fun p => stands.guestPane _ _ _ _
  case paneRelease =>
    exact ok.hostCheck _ _ _ _ fun u stands => stands.withPane _ _ _ _ _ _ fun p => stands.releasePane _ _ _
  case paneCommit =>
    exact ok.hostCheck _ _ _ _ fun u stands => stands.withPane _ _ _ _ _ _ fun p => stands.commitPane _ _ _
  case paneStage | paneAdopt | paneQuery =>
    exact ok.hostCheck _ _ _ _ fun u stands => stands.withPane _ _ _ _ _ _ fun p =>
      stands.spares (by apply Spares.of_same <;> simp)
  case cellWrite | cellFill | cellRead => exact ok.hostCheck _ _ _ _ fun u stands => stands.joinLane _ _
  case paneClaim =>
    exact ok.hostCheck _ _ _ _ fun u stands =>
      stands.spares (by unfold takePaneClaim; (repeat' split) <;> apply Spares.of_same <;> simp)
  case configGet =>
    exact ok.hostCheck _ _ _ _ fun u stands =>
      stands.spares (by unfold takeConfigGet; split <;> apply Spares.of_same <;> simp)
  case faultRead =>
    exact ok.hostCheck _ _ _ _ fun u stands =>
      stands.spares (by unfold takeFaultRead; (repeat' split) <;> apply Spares.of_same <;> simp)
  case faultClear =>
    exact ok.hostCheck _ _ _ _ fun u stands => stands.spares
      (by unfold takeFaultClear takeFaultClearOverflow clearSlot; (repeat' split) <;> apply Spares.of_same <;> simp)
  case faultClearOverflow =>
    exact ok.hostCheck _ _ _ _ fun u stands => stands.spares (by apply Spares.of_same <;> simp [takeFaultClearOverflow])
  case eventFetch =>
    exact ok.hostCheck _ _ _ _ fun u stands => stands.spares (by apply Spares.of_same <;> simp [takeEventFetch])
  case panelSend => exact ok.hostCheck _ _ _ _ fun u stands => stands.spares (by apply Spares.of_same <;> simp)
  all_goals exact ok

theorem served {h : HostNo} (ok : s.budgetsOk) (served : Served h s t) : t.budgetsOk := by
  cases served with
  | unserved => exact ok
  | dropped | answered => exact ok.spares (by apply Spares.of_same <;> simp)
  | taken i => exact takeRequest (ok.spares (by apply Spares.of_same <;> simp)) i

/-! ### Every command -/

theorem exchangeEnd (ok : s.budgetsOk) (h : HostNo) (bytes : List Byte) : (exchangeEnd h bytes s).budgetsOk := by
  unfold Machine.exchangeEnd
  split
  · exact ok
  · exact served (ok.spares (by apply Spares.of_same <;> simp)) (handleFrame_served _ _ _)

theorem presentDeasserted (ok : s.budgetsOk) (h : HostNo) : (presentDeasserted h s).budgetsOk := by
  unfold Machine.presentDeasserted
  dsimp only
  (repeat' split)
  · exact departSilently (ok.spares (by apply Spares.of_same <;> simp)) _ _
  · exact ok.spares (by apply Spares.of_same <;> simp)
  · exact ok.spares (by apply Spares.of_same <;> simp)
  · exact ok

theorem leaseExpiry (ok : s.budgetsOk) (h : HostNo) : (leaseExpiry h s).budgetsOk := by
  unfold Machine.leaseExpiry
  split
  · exact departSilently (ok.spares (by apply Spares.of_same <;> simp)) _ _
  · exact ok

theorem exec (ok : s.budgetsOk) (c : Instr) (run : exec c s = .next t) : t.budgetsOk := by
  cases source : requestSource c with
  | some origin =>
    obtain ⟨u, leaves, taken⟩ := exec_served c origin.1 origin.2 s source
    obtain rfl : u = t := Host.Outcome.next.inj (leaves.symm.trans run)
    exact ok.served taken
  | none =>
    cases c <;> simp only [requestSource, reduceCtorEq] at source
    case segmentReadComplete => exact completion_next run ▸ ok.segmentReadComplete
    case writeAccessComplete => exact completion_next run ▸ ok.writeAccessComplete
    case readAccessComplete => exact completion_next run ▸ ok.readAccessComplete
    all_goals obtain rfl := Host.Outcome.next.inj run
    case powerOn | resetPin => exact partReset_budgetsOk _ _
    case exchangeEnd => exact ok.exchangeEnd _ _
    case hostPresentDeasserted => exact ok.presentDeasserted _
    case leaseExpiry => exact ok.leaseExpiry _
    case lineMark => exact ok.lineMark
    all_goals exact ok.spares (by apply Spares.of_same <;> simp [presentAsserted])

end State.budgetsOk

/-- Settles O60: an access is tested against the budget before it is offered, a grant charges what was offered, and nothing
else charges a host or changes its budget in RUN. -/
theorem budgetsHold : Obligations.BudgetsHold := by
  unfold Obligations.BudgetsHold
  intro s t ok run
  exact step_induct State.budgetsOk s t run (fun _ => ok) (ok.spares (by apply Spares.of_same <;> simp))
    fun c _ _ stands => stands.exec c

end Sys2Proof.Machine
end

section
/-! A cell request joins its lane, and waits, is refused or starts at once (R33, R72 to R76, R81, R82): settles O40. -/
namespace Sys2Proof.Machine

/-! ## The request taken (R72) -/

/-- The state in which host `h`'s operation has joined the tail of its lane, before what follows at once (R72). -/
def State.joined (s : State) (h : HostNo) (op : CellOp) : State :=
  (s.received h).setLane h { s.lane h with queued := (s.lane h).queued ++ [op] }

@[simp] theorem received_charged (s : State) (h g : HostNo) :
    ((s.received h).host g).cells = (s.host g).cells ∧ ((s.received h).host g).budgetHit = (s.host g).budgetHit := by
  simp -implicitDefEqProofs [State.received, State.slotTaken, ← loadLease_eq]

/-- Joining a lane leaves all but the lane, the lease and the slot of its host. -/
@[simp] theorem joined_frame (s : State) (h : HostNo) (op : CellOp) :
    (∀ p, (s.joined h op).pane p = s.pane p) ∧ (∀ g, (s.joined h op).queue g = s.queue g) ∧
    (∀ g, (s.joined h op).isActive g = s.isActive g) ∧ (s.joined h op).inRun = s.inRun ∧
    (s.joined h op).scan = s.scan ∧ (∀ g, ((s.joined h op).port g).responses = (s.port g).responses) ∧
    (∀ g, ((s.joined h op).host g).budget = (s.host g).budget) ∧
    (∀ g, ((s.joined h op).host g).cells = (s.host g).cells) ∧
    (∀ g, ((s.joined h op).host g).budgetHit = (s.host g).budgetHit) := by
  simp [State.joined]

theorem joined_lane (s : State) (h g : HostNo) (op : CellOp) : (s.joined h op).lane g =
    if h = g then { s.lane h with queued := (s.lane h).queued ++ [op] } else s.lane g := by
  simp [State.joined, State.lane_setLane]

theorem joined_settledFrom (s : State) (h : HostNo) (op : CellOp) : s.settledFrom (s.joined h op) := by
  apply settledFrom_of_scan <;> simp [State.joined]

/-- A well-formed cell request of a host that speaks joins its lane in RUN, and what follows at once (R72, R73). -/
theorem exec_cellRequest {s : State} {h : HostNo} {i : Instr} {op : CellOp} (speaks : s.speaksInRun h)
    (source : requestSource i = some (h, op.tag)) (asked : requestedOp i = some op) (formed : i.wellFormed = true) :
    exec i s = .next (settle (s.joined h op)) := by
  obtain ⟨speaks, run⟩ := speaks
  have joins : joinLane h op (s.received h) = settle (s.joined h op) := by
    simp [joinLane, run, State.joined]
  have taken (k : Kind) (tag : Byte) (take : State → State) (takes : take = joinLane h op) :
      request h k tag true (hostCheck h k tag take) s = settle (s.joined h op) := by
    rw [request_speaks h k tag take s speaks, takes, ← joins]
    rfl
  cases i <;> simp only [requestedOp, Option.some.injEq, reduceCtorEq] at asked
  all_goals
    subst asked
    obtain ⟨rfl, -⟩ := Prod.mk.inj (Option.some.inj source)
    simp only [Instr.wellFormed, Bool.and_eq_true] at formed
  case cellWrite => rw [exec, execCellWrite, formed.2]; exact congrArg _ (taken _ _ _ rfl)
  case cellFill => rw [exec, execCellFill, formed.2]; exact congrArg _ (taken _ _ _ rfl)
  case cellRead => rw [exec, execCellRead, formed.2]; exact congrArg _ (taken _ _ _ rfl)

/-! ## Behind an operation in service -/

/-- A host with an operation in service starts none, so that its queue stays as it is (R73). -/
theorem startServices_queued_busy (h : HostNo) (s : State) (busy : (s.lane h).service ≠ none) :
    ((startServices s).lane h).queued = (s.lane h).queued := by
  refine (forEach_induct (fun t => (t.lane h).queued = (s.lane h).queued ∧ (t.lane h).service ≠ none) _
    (fun g t ⟨queued, busy⟩ => ?_) allHosts s ⟨rfl, busy⟩).1
  by_cases same : h = g
  · subst same
    rw [startHead_busy h _ t busy]
    exact ⟨queued, busy⟩
  · obtain ⟨w, held⟩ := Option.ne_none_iff_exists'.1 busy
    obtain ⟨b, still⟩ := startHead_service g h (t.lane g).queued.length t w held
    exact ⟨((startHead_startedBy g _ t).queued h same).trans queued, by simp [still]⟩

theorem settle_lane_busy (h : HostNo) (s : State) (v : Service) (service : (s.lane h).service = some v) :
    ∃ a, (settle s).lane h = ⟨some { v with access := a }, (s.lane h).queued⟩ := by
  obtain ⟨a, serving⟩ := settle_service h s v service
  refine ⟨a, lane_eq serving ?_⟩
  unfold settle
  split
  · simpa using startServices_queued_busy h s (by simp [service])
  · rfl

/-! ## At the head of an idle lane -/

/-- Where no other host has an operation queued, only host `h` starts any. -/
theorem startServices_alone (h : HostNo) (s : State) (alone : ∀ g, g ≠ h → (s.lane g).queued = []) :
    startServices s = startHead h (s.lane h).queued.length s := by
  have after (g : HostNo) (other : g ≠ h) : ((startHead h (s.lane h).queued.length s).lane g).queued = [] :=
    ((startHead_startedBy h _ s).queued g other).trans (alone g other)
  have hosts : ∀ g : HostNo, g = 0 ∨ g = 1 ∨ g = 2 ∨ g = 3 := by decide
  rw [startServices, forEach_allHosts]
  rcases hosts h with rfl | rfl | rfl | rfl <;> simp [startHead, alone, after]

/-- Grants serve no host whose access is not offered. -/
theorem GrantStep.unoffered {s t : State} {h : HostNo} (step : GrantStep s t)
    (unready : ∀ v, (s.lane h).service = some v → v.access ≠ .offered) :
    t.lane h = s.lane h ∧ (t.host h).cells = (s.host h).cells := by
  have other {g : HostNo} {v : Service} (service : (s.lane g).service = some v) (offered : v.access = .offered) : g ≠ h := by
    rintro rfl
    exact unready v service offered
  cases step with
  | calm same => exact ⟨same.lane h, same.cells h⟩
  | torn | tear | grantSegment => exact ⟨rfl, rfl⟩
  | park g v l service offered => simp [setAccess, other service offered]
  | grantRead g v back free service offered => simp [Machine.grantRead, setAccess, other service offered]
  | grantWrite g v restart free service offered =>
    simp [Machine.grantWrite, setAccess, chargeBudget, other service offered]

theorem arbitrate_unoffered (n : Nat) (h : HostNo) (s : State)
    (unready : ∀ v, (s.lane h).service = some v → v.access ≠ .offered) :
    (arbitrate n s).lane h = s.lane h ∧ ((arbitrate n s).host h).cells = (s.host h).cells :=
  (arbitrate_grants n s).keeps (P := fun t => t.lane h = s.lane h ∧ (t.host h).cells = (s.host h).cells)
    (fun ⟨lane, cells⟩ step => by
      obtain ⟨lane', cells'⟩ := step.unoffered (h := h) (by rwa [lane])
      exact ⟨lane'.trans lane, cells'.trans cells⟩) ⟨rfl, rfl⟩

theorem arbitrate_grows (n : Nat) (s : State) (g : HostNo) : (s.queue g).Grows ((arbitrate n s).queue g) :=
  (arbitrate_grants n s).keeps (P := fun t => (s.queue g).Grows (t.queue g)) (fun grown step => grown.trans (step.grows g))
    (.refl _)

theorem countForCommit_bare (h : HostNo) (p : PaneNo) (g : HostNo) (s : State) :
    ((countForCommit h p s).lane g).service.map Service.bare = (s.lane g).service.map Service.bare := by
  rcases countForCommit_cases h p s with ⟨same, -⟩ | ⟨tag, n, -, -, ⟨-, taken⟩ | ⟨-, counted⟩⟩
  · rw [same]
  · rw [taken, takeCommit_bare]
  · rw [counted]; rfl

theorem reportEnd_bare (h : HostNo) (sel : Byte) (g : HostNo) (s : State) :
    ((reportEnd h sel s).lane g).service.map Service.bare = (s.lane g).service.map Service.bare := by
  unfold reportEnd
  split
  · simp [countForCommit_bare]
  · rfl

theorem serviceCheck_joined (s : State) (h : HostNo) (op : CellOp) :
    serviceCheck (s.joined h op) h op = serviceCheck s h op := by
  simp [serviceCheck, rightsCheck]

/-- The record of an operation at its service start, its first access made (R75, R76). -/
def CellOp.begun (op : CellOp) (p : PaneNo) (area : Rect) : Service := ⟨op, p, area, area.y, area.x, .made, 0, none, []⟩

/-- The first access is of the area's first line, 64 cells at most (R78, R79, R80). -/
theorem accessLen_begun (op : CellOp) (p : PaneNo) (area : Rect) : (op.begun p area).accessLen = min 64 area.w := by
  simp [CellOp.begun, Service.accessLen, Config.accessCells]

section
variable {s : State} {h : HostNo} {op : CellOp} (run : s.inRun = true) (idle : s.lane h = ⟨none, []⟩)
  (alone : ∀ g, (s.lane g).queued = [])
include run idle alone

/-- The operation alone in its lane waits or starts, and the arbiter decides (R66, R73). -/
theorem settle_joined : settle (s.joined h op) =
    arbitrate 5 (if headWaits s op then s.joined h op else startOp h op [] (s.joined h op)) := by
  have lane : (s.joined h op).lane h = ⟨none, [op]⟩ := by simp [joined_lane, idle]
  have waits : headWaits (s.joined h op) op = headWaits s op := by simp [headWaits]
  rw [settle_run _ (by simpa using run),
    startServices_alone h _ fun g other => by rw [joined_lane, if_neg other.symm, alone]]
  simp [lane, startHead, waits]

/-- An operation that waits stays at the head of its lane (R73). -/
theorem settle_joined_waits (waits : headWaits s op = true) : (settle (s.joined h op)).lane h = ⟨none, [op]⟩ := by
  have lane : (s.joined h op).lane h = ⟨none, [op]⟩ := by simp [joined_lane, idle]
  rw [settle_joined run idle alone, if_pos waits, (arbitrate_unoffered 5 h _ (by simp [lane])).1, lane]

/-- An operation refused at its service start is answered with count 0, and its lane is empty (R74). -/
theorem settle_joined_refused {status : Status} (starts : headWaits s op = false)
    (refuses : serviceCheck s h op = .error status) : (settle (s.joined h op)).lane h = ⟨none, []⟩ ∧
      ∃ more, ((settle (s.joined h op)).port h).responses =
        (s.port h).responses ++ responseTo op.kind op.tag status (.count 0) :: more := by
  have refused : startOp h op [] (s.joined h op) =
      reportEnd h op.pane (answer h (op.answerCount status 0) ((s.joined h op).setLane h ⟨none, []⟩)) := by
    simp only [startOp, serviceCheck_joined, refuses]
  have empty : (startOp h op [] (s.joined h op)).lane h = ⟨none, []⟩ := by
    have ended := reportEnd_bare h op.pane h (answer h (op.answerCount status 0) ((s.joined h op).setLane h ⟨none, []⟩))
    exact lane_eq (by simpa [refused] using ended) (by simp [refused])
  have answered := (reportEnd_answers h op.pane h
    (answer h (op.answerCount status 0) ((s.joined h op).setLane h ⟨none, []⟩))).trans
      ((arbitrate_startedBy h 5 _).answers h)
  rw [settle_joined run idle alone, starts, if_neg Bool.false_ne_true]
  refine ⟨by rw [(arbitrate_unoffered 5 h _ (by simp [empty])).1, empty], ?_⟩
  rw [← refused, answer_port, if_pos rfl] at answered
  obtain ⟨more, same⟩ := answered
  exact ⟨more, by simpa [CellOp.answerCount, responseTo] using same.symm⟩

/-- An operation that passes its checks is in service with its first access made (R75, R76). -/
theorem settle_joined_begun {p : PaneNo} {area : Rect} (starts : headWaits s op = false)
    (passes : serviceCheck s h op = .ok (p, area)) :
    ∃ a, (settle (s.joined h op)).lane h = ⟨some { op.begun p area with access := a }, []⟩ := by
  obtain ⟨a, begun, rest, -⟩ := startOp_passes h op [] (s.joined h op) p area (by rw [serviceCheck_joined, passes])
  rw [settle_joined run idle alone, starts, if_neg Bool.false_ne_true]
  obtain ⟨b, serving⟩ := (arbitrate_granted 5 _).service_some h _ begun
  exact ⟨b, lane_eq serving (by simpa using rest)⟩

/-- A write that the budget does not allow waits with no cells charged, and its host is told once in a frame (R81, R82). -/
theorem settle_joined_reached {p : PaneNo} {area : Rect} (starts : headWaits s op = false)
    (passes : serviceCheck s h op = .ok (p, area)) (writes : op.writes = true)
    (reached : budgetAllows s h (min 64 area.w) = false) :
    (settle (s.joined h op)).lane h = ⟨some (op.begun p area), []⟩ ∧
      ((settle (s.joined h op)).host h).cells = (s.host h).cells ∧
      ((s.host h).budgetHit = false → s.isActive h = true → (s.queue h).events.length < 8 →
        Event.budgetReached p s.scan.frame ∈ ((settle (s.joined h op)).queue h).events) := by
  have held : ((s.joined h op).setLane h ⟨some (op.begun p area), []⟩).lane h = ⟨some (op.begun p area), []⟩ := by simp
  have waits : startOp h op [] (s.joined h op) =
      noteBudget h p ((s.joined h op).setLane h ⟨some (op.begun p area), []⟩) := by
    have fails : budgetAllows ((s.joined h op).setLane h ⟨some (op.begun p area), []⟩) h (op.begun p area).accessLen =
        false := by
      rw [accessLen_begun, ← reached]
      exact budgetAllows_congr (by simp) (by simp) _
    have begun : startOp h op [] (s.joined h op) =
        testAccess h ((s.joined h op).setLane h ⟨some (op.begun p area), []⟩) := by
      simp only [startOp, serviceCheck_joined, passes, CellOp.begun]
    rw [begun, testAccess_reached (v := op.begun p area) (by simp) writes fails]
    simp [setAccess, CellOp.begun]
  rw [settle_joined run idle alone, starts, if_neg Bool.false_ne_true, waits]
  obtain ⟨lane, cells⟩ := arbitrate_unoffered 5 h (noteBudget h p ((s.joined h op).setLane h ⟨some (op.begun p area), []⟩))
    (by simp [CellOp.begun])
  refine ⟨by simp [lane], by simp [cells], fun first active room => (arbitrate_grows 5 _ h).events.subset ?_⟩
  have told := noteBudget_told (h := h) p (s := (s.joined h op).setLane h ⟨some (op.begun p area), []⟩)
    (by simpa using first) (by simpa using active) (by simpa using room)
  simpa using told

end

/-! ## The checks of a service start (R33, R73, R74) -/

section
variable {s : State} {h : HostNo} {op : CellOp}

theorem serviceCheck_unnamed (beyond : 16 ≤ op.pane.toNat) : headWaits s op = false ∧ serviceCheck s h op = .error .range := by
  have unnamed : paneOf op.pane = none := by simp [paneOf, Nat.not_lt.2 beyond]
  simp [headWaits, serviceCheck, rightsCheck, unnamed]

variable {p : PaneNo} (named : op.pane.toNat = p.val)
include named

/-- What an operation at its lane's head waits for (R18, R41, R73). -/
theorem headWaits_iff : headWaits s op = true ↔ (∃ tag r, (s.pane p).held = some (.stage tag r)) ∨
    (op.kind ≠ .cellRead ∧ ((s.pane p).modes.any fun m => m.buffering = .double) = true ∧ (s.pane p).commit ≠ none) := by
  have stage : (s.pane p).stageHeld = true ↔ ∃ tag r, (s.pane p).held = some (.stage tag r) := by
    unfold Pane.stageHeld
    split
    · next tag r held => simp [held]
    · next other => simpa using other
  simp only [headWaits, paneOf_eq_some op.pane p named, Bool.or_eq_true, stage, Bool.and_eq_true, writes_eq_kind,
    decide_eq_true_eq, Pane.writesWait, Pane.isDouble, Option.isSome_iff_ne_none]

theorem serviceCheck_paneState (pending : (s.pane p).state ≠ .pending) (live : (s.pane p).state ≠ .live) :
    serviceCheck s h op = .error .paneState := by
  simp [serviceCheck, rightsCheck, paneOf_eq_some op.pane p named, pending, live]

variable (placed : (s.pane p).state = .pending ∨ (s.pane p).state = .live)
include placed

theorem serviceCheck_notOwner
    (unrighted : ¬((s.pane p).owner = some h ∨ ((s.pane p).guest = some h ∧ (s.pane p).state = .live))) :
    serviceCheck s h op = .error .notOwner := by
  have used : ¬((s.pane p).state ≠ .pending ∧ (s.pane p).state ≠ .live) := by tauto
  have denied : ¬((s.pane p).owner = some h ∨ ((s.pane p).guest = some h ∧ (s.pane p).state ≠ .pending)) := by tauto
  simp only [serviceCheck, rightsCheck, paneOf_eq_some op.pane p named, Bool.and_eq_true, decide_eq_true_eq,
    Bool.or_eq_true, if_neg used, if_neg denied]

theorem serviceCheck_righted {tgt : Rect} (target : (s.pane p).staged.or (s.pane p).current = some tgt)
    (righted : (s.pane p).owner = some h ∨ ((s.pane p).guest = some h ∧ (s.pane p).state = .live)) :
    serviceCheck s h op = if op.inTarget tgt then .ok (p, op.area tgt) else .error .range := by
  have used : ¬((s.pane p).state ≠ .pending ∧ (s.pane p).state ≠ .live) := by tauto
  have granted : (s.pane p).owner = some h ∨ ((s.pane p).guest = some h ∧ (s.pane p).state ≠ .pending) :=
    righted.imp_right fun ⟨guest, live⟩ => ⟨guest, by simp [live]⟩
  have found : (s.pane p).target = some tgt := by simpa [Pane.target] using target
  simp only [serviceCheck, rightsCheck, paneOf_eq_some op.pane p named, Bool.and_eq_true, decide_eq_true_eq,
    Bool.or_eq_true, if_neg used, if_pos granted, found]

end

theorem backSelected_isSome_iff (sel : Byte) : (backSelected sel).isSome = true ↔ sel.toNat < 2 := by
  revert sel
  decide

/-- An operation fits its target where its frame area lies in it, and a read names a bank (R75, R80, Table 5-4). -/
theorem inTarget_iff (op : CellOp) (tgt : Rect) : op.inTarget tgt = true ↔
    (op.area tgt).x + (op.area tgt).w ≤ tgt.x + tgt.w ∧ (op.area tgt).y + (op.area tgt).h ≤ tgt.y + tgt.h ∧
      ∀ px py n sel, op.body = .read px py n sel → sel.toNat < 2 := by
  obtain ⟨tag, pane, body⟩ := op
  cases body with
  | write px py cells => simp [CellOp.inTarget, CellOp.area]; omega
  | fill r c => simp [CellOp.inTarget, CellOp.area]; omega
  | read px py n sel =>
    have named : (∀ px' py' n' sel', CellBody.read px py n sel = .read px' py' n' sel' → sel'.toNat < 2) ↔ sel.toNat < 2 :=
      ⟨fun all => all px py n sel rfl, by rintro bank _ _ _ _ ⟨⟩; exact bank⟩
    rw [named]
    simp [CellOp.inTarget, CellOp.area, backSelected_isSome_iff]
    omega

/-- Settles O40: the request joins its lane; behind an operation in service nothing starts, and alone in its lane the operation
waits, is refused by the first check that fails, or is in service with its first access tested. -/
theorem cellRequestStarts : Obligations.CellRequestStarts := by
  unfold Obligations.CellRequestStarts
  intro s h i op speaks source asked formed
  have ⟨⟨_, active⟩, run⟩ := speaks
  have runs := exec_cellRequest speaks source asked formed
  have settled := settledFrom_trans (joined_settledFrom s h op) (settle_settledFrom (s.joined h op))
  refine ⟨fun v service => ?_, fun idle alone => ?_⟩
  · obtain ⟨a, lane⟩ := settle_lane_busy h (s.joined h op) v (by simpa [joined_lane] using service)
    exact ⟨_, { v with access := a }, runs, settled, by simp [lane, joined_lane], by rw [lane], rfl, rfl, rfl, rfl⟩
  intro refused
  have refuses {status : Status} (starts : headWaits s op = false) (check : serviceCheck s h op = .error status) :
      refused status := by
    obtain ⟨lane, more, answered⟩ := settle_joined_refused run idle alone starts check
    exact ⟨_, more, runs, settled, lane, answered⟩
  refine ⟨fun beyond => ?_, fun p named => ?_⟩
  · obtain ⟨starts, check⟩ := serviceCheck_unnamed (s := s) (h := h) beyond
    exact refuses starts check
  intro q double waits righted
  have waits_iff : headWaits s op = true ↔ waits := headWaits_iff named
  have starts (ready : ¬waits) : headWaits s op = false := Bool.eq_false_iff.2 fun waiting => ready (waits_iff.1 waiting)
  refine ⟨fun waiting => ⟨_, runs, settled, settle_joined_waits run idle alone (waits_iff.2 waiting)⟩,
    fun ready pending live => refuses (starts ready) (serviceCheck_paneState named pending live),
    fun ready placed unrighted => refuses (starts ready) (serviceCheck_notOwner named placed unrighted),
    fun tgt target ready placed rights => ?_⟩
  have check := serviceCheck_righted named placed target rights
  intro area fits
  have fits_iff : op.inTarget tgt = true ↔ fits := inTarget_iff op tgt
  refine ⟨fun outside => refuses (starts ready) (by rw [check, if_neg (by rwa [fits_iff])]), fun inside => ?_⟩
  rw [if_pos (fits_iff.2 inside)] at check
  obtain ⟨a, begun⟩ := settle_joined_begun run idle alone (starts ready) check
  refine ⟨_, _, runs, settled, begun, rfl, rfl, rfl, rfl, rfl, rfl, rfl, rfl, fun writes limited exceeds => ?_⟩
  have reached : budgetAllows s h (min 64 (op.area tgt).w) = false := by
    rw [Bool.eq_false_iff, Ne, budgetAllows_iff]
    have exceeds : 64 * (s.host h).budget < (s.host h).cells + min 64 (op.area tgt).w := exceeds
    omega
  obtain ⟨lane, cells, told⟩ :=
    settle_joined_reached run idle alone (starts ready) check (by simpa [writes_eq_kind] using writes) reached
  refine ⟨?_, cells, fun first room => told first active room⟩
  have same : some { op.begun p (op.area tgt) with access := a } = some (op.begun p (op.area tgt)) :=
    congrArg Lane.service (begun.symm.trans lane)
  exact congrArg Service.access (Option.some.inj same)

end Sys2Proof.Machine
end

section
/-! The outcomes of a line conflict (R91 to R96, R99, Table 6-2): settles O39. -/
namespace Sys2Proof.Machine

/-! ## What a conflict's outcome leaves (R92 to R94) -/

/-- `t` is `s` with the write access `v` of host `h` granted on `bank`, its cells charged (R66, R81, R92). -/
def WriteGranted (s t : State) (h : HostNo) (v : Service) (bank : Bank) (restart : Option (Half × Nat)) : Prop :=
  t.arbiter = { s.arbiter with
    lastGrant := .write, rotation := h, access := some (.write true h bank v.line v.col v.accessCells restart) } ∧
  (t.lane h).service = some { v with access := .inProgress } ∧ t.parked = s.parked ∧
  (t.host h).cells = min ((s.host h).cells + v.accessLen) Config.bankCells

/-- The latch in flight torn and the written pane's tear count raised (R93). -/
def LatchTorn (s t : State) (v : Service) (l : Latch) : Prop :=
  t.scan = { s.scan with latch := some { l with torn := true } } ∧
  t.pane v.pane = { s.pane v.pane with tears := satSucc (s.pane v.pane).tears }

/-- The latch in flight and the pane table as they were (R94, R99). -/
def LatchWhole (s t : State) : Prop := t.scan = s.scan ∧ t.panes = s.panes

/-- The access at the tail of the Parked List, not charged, with the rotation pointer at its host (R92, R94). -/
def AccessParked (s t : State) (h : HostNo) (v : Service) : Prop :=
  t.arbiter = { s.arbiter with rotation := h } ∧ LatchWhole s t ∧
  (t.lane h).service = some { v with access := .parked } ∧ (t.host h).cells = (s.host h).cells ∧
  t.parked = s.parked ++ [parkedEntry h v]

/-! ## A fault reported before the outcome (R96, R99) -/

theorem reportFault_panes (r : FaultRecord) (s : State) : (reportFault r s).panes = s.panes :=
  Vector.ext fun i inside => show (reportFault r s).pane ⟨i, inside⟩ = s.pane ⟨i, inside⟩ by simp

/-- The Fault Log after a report depends on the state by its log alone (R136, R137). -/
theorem reportFault_faults {s t : State} (r : FaultRecord) (same : t.faults = s.faults) :
    (reportFault r t).faults = (reportFault r s).faults := by
  unfold reportFault takeReport countOverflow
  rw [same]
  split
  · rfl
  · split
    · rw [postTo_faults, postTo_faults]; rfl
    · split
      · exact same
      · rfl

@[simp] theorem writeGranted_reportFault (r : FaultRecord) {s t : State} {h : HostNo} {v : Service} {bank : Bank}
    {restart : Option (Half × Nat)} :
    WriteGranted (reportFault r s) t h v bank restart ↔ WriteGranted s t h v bank restart := by
  simp [WriteGranted]

@[simp] theorem latchTorn_reportFault (r : FaultRecord) {s t : State} {v : Service} {l : Latch} :
    LatchTorn (reportFault r s) t v l ↔ LatchTorn s t v l := by simp [LatchTorn]

@[simp] theorem accessParked_reportFault (r : FaultRecord) {s t : State} {h : HostNo} {v : Service} :
    AccessParked (reportFault r s) t h v ↔ AccessParked s t h v := by
  simp [AccessParked, LatchWhole, reportFault_panes]

/-! ## Granted, granted as PASS, parked -/

/-- A DIRECT pane is written in its front bank (R5). -/
theorem bankFor_direct {q : Pane} {m : PaneModes} (modes : q.modes = some m) (direct : m.buffering = .direct)
    (back : Bool) : q.bankFor back = m.front := by
  simp [Pane.bankFor, Pane.isDouble, Pane.front, modes, direct]

theorem grantWrite_latchWhole (h : HostNo) (v : Service) (restart : Option (Half × Nat)) (s : State) :
    LatchWhole s (grantWrite h v restart s) := ⟨rfl, rfl⟩

theorem grantWrite_writeGranted {s : State} {h : HostNo} {v : Service} (restart : Option (Half × Nat))
    (service : (s.lane h).service = some v) :
    WriteGranted s (grantWrite h v restart s) h v ((s.pane v.pane).bankFor true) restart := by
  simp [WriteGranted, grantWrite, chargeBudget, setAccess, service]

/-- The state a grant as PASS reports its fault in: the latch torn and the written pane's tear count raised (R93). -/
def tornState (v : Service) (l : Latch) (s : State) : State :=
  (s.setScan { s.scan with latch := some { l with torn := true } }).setPane v.pane
    { s.pane v.pane with tears := satSucc (s.pane v.pane).tears }

theorem passGrant_eq (kind : FaultKind) (h : HostNo) (v : Service) (l : Latch) (s : State) :
    passGrant kind h v l s = grantWrite h v none (reportFault (conflictFault kind h v l) (tornState v l s)) := rfl

@[simp] theorem writeGranted_tornState {s t : State} {h : HostNo} {v w : Service} {l : Latch} {bank : Bank}
    {restart : Option (Half × Nat)} : WriteGranted (tornState w l s) t h v bank restart ↔ WriteGranted s t h v bank restart :=
  Iff.rfl

section
variable {s : State} {h : HostNo} {v : Service} (l : Latch) (service : (s.lane h).service = some v)
include service

/-- A grant as PASS: the latch torn, the tear count raised, the fault reported (R93). -/
theorem passGrant_outcome (kind : FaultKind) :
    WriteGranted s (passGrant kind h v l s) h v ((s.pane v.pane).bankFor true) none ∧
    LatchTorn s (passGrant kind h v l s) v l ∧
    (passGrant kind h v l s).faults = (reportFault (conflictFault kind h v l) s).faults := by
  rw [passGrant_eq]
  have bank : ((tornState v l s).pane v.pane).bankFor true = (s.pane v.pane).bankFor true := by
    simp [tornState, Pane.bankFor, Pane.isDouble, Pane.front]
  have granted := grantWrite_writeGranted none
    (show ((reportFault (conflictFault kind h v l) (tornState v l s)).lane h).service = some v by
      simpa [tornState] using service)
  refine ⟨?_, ⟨?_, ?_⟩, ?_⟩
  · simpa [bank] using granted
  · simp [tornState]
  · simp [grantWrite, tornState]
  · exact reportFault_faults _ rfl

/-- With a place left the access is parked without a fault (R94). -/
theorem parkOrPass_parked (room : s.parked.length < 8) :
    AccessParked s (parkOrPass h v l s) h v ∧ (parkOrPass h v l s).faults = s.faults := by
  rw [parkOrPass_room room, setAccess_eq .parked (by simpa using service)]
  exact ⟨⟨rfl, ⟨rfl, rfl⟩, by simp, rfl, rfl⟩, rfl⟩

/-- With the Parked List full the access is granted as PASS, with PARK_OVERFLOW (R96). -/
theorem parkOrPass_overflow (full : 8 ≤ s.parked.length) :
    WriteGranted s (parkOrPass h v l s) h v ((s.pane v.pane).bankFor true) none ∧
    LatchTorn s (parkOrPass h v l s) v l ∧
    (parkOrPass h v l s).faults = (reportFault (conflictFault .parkOverflow h v l) s).faults := by
  rw [parkOrPass_full full]
  exact passGrant_outcome l service .parkOverflow

end

/-! ## The policy's choice (R92, R99) -/

section
variable {s : State} {h : HostNo} {v : Service} {l : Latch} {m : PaneModes} (modes : (s.pane v.pane).modes = some m)
include modes

theorem resolveConflict_pass (policy : m.policy = .pass) : resolveConflict h v l s = passGrant .tear h v l s := by
  simp [resolveConflict, modes, policy]

theorem resolveConflict_defer (policy : m.policy = .defer) : resolveConflict h v l s = parkOrPass h v l s := by
  simpa [policy] using resolveConflict_parks (h := h) (l := l) modes (by simp [policy]) (by simp [policy])

theorem resolveConflict_limit (policy : m.policy = .relatch) (reached : s.conf.settings.relatchLimit ≤ l.restarts) :
    resolveConflict h v l s = parkOrPass h v l (reportFault (conflictFault .relatchLimit h v l) s) := by
  simpa [policy] using resolveConflict_parks (h := h) modes (by simp [policy]) fun _ => reached

theorem resolveConflict_below (policy : m.policy = .relatch) (below : l.restarts < s.conf.settings.relatchLimit) :
    resolveConflict h v l s = if s.arbiter.urgency = .normal then grantWrite h v (some (l.frame, l.line)) s
      else parkOrPass h v l s := by
  simp [resolveConflict, modes, policy, Nat.not_le.2 below]

end

/-- Settles O39: each row of Table 6-2 is the policy's choice and then what a grant, a grant as PASS or a parking leaves. -/
theorem conflictOutcomes : Obligations.ConflictOutcomes := by
  unfold Obligations.ConflictOutcomes
  intro s h v l m service writes latch line modes direct
  rw [serveHost_conflict service writes (conflictOf_direct latch line modes direct)]
  have bank := bankFor_direct modes direct true
  have overflows := parkOrPass_overflow l service
  rw [bank] at overflows
  have told : ((reportFault (conflictFault .relatchLimit h v l) s).lane h).service = some v := by simpa using service
  refine ⟨fun policy => ?pass, fun policy room => ?deferRoom, fun policy full => ?deferFull,
    fun policy below normal => ?restart, fun policy reached room => ?limitRoom, fun policy reached full => ?limitFull,
    fun policy below urgent => ?urgent⟩
  case pass =>
    rw [resolveConflict_pass modes policy, ← bank]
    exact passGrant_outcome l service .tear
  case deferRoom =>
    rw [resolveConflict_defer modes policy]
    exact parkOrPass_parked l service room
  case deferFull =>
    rw [resolveConflict_defer modes policy]
    exact overflows full
  case restart =>
    rw [resolveConflict_below modes policy below, if_pos normal, ← bank]
    exact ⟨grantWrite_writeGranted _ service, grantWrite_latchWhole h v _ s, rfl⟩
  case limitRoom =>
    rw [resolveConflict_limit modes policy reached]
    obtain ⟨parked, faults⟩ := parkOrPass_parked l told (by simpa using room)
    exact ⟨(accessParked_reportFault _).1 parked, faults⟩
  case limitFull =>
    rw [resolveConflict_limit modes policy reached, ← bank]
    obtain ⟨granted, torn, faults⟩ := parkOrPass_overflow l told (by simpa using full)
    simp only [reportFault_frame] at granted
    exact ⟨(writeGranted_reportFault _).1 granted, (latchTorn_reportFault _).1 torn, faults⟩
  case urgent =>
    rw [resolveConflict_below modes policy below, if_neg urgent]
    exact ⟨parkOrPass_parked l service, overflows⟩

end Sys2Proof.Machine
end

section
/-! Requests a port or the Host Table turns away; ATTACH, STATUS, the lease warning, and the present line of a host that is
not ACTIVE (R107 to R115, R123, R159): settles O6, O9, O15, O17, O18 and O20. -/
namespace Sys2Proof.Machine

/-! ## Requests turned away (R107, R115, R159) -/

theorem portServes_eq_false {s : State} {h : HostNo} (unserved : (s.port h).present = false ∨ s.resetPin = true) :
    portServes s h = false := by
  rcases unserved with down | held <;> simp [portServes, *]

/-- Settles O6: the start of an exchange and every request begin with the port's test. -/
theorem unservedPortTakesNothing : Obligations.UnservedPortTakesNothing := by
  unfold Obligations.UnservedPortTakesNothing
  intro s h unserved
  have idle := portServes_eq_false unserved
  refine ⟨?_, fun i tag source => ?_⟩
  · change Host.Outcome.next (exchangeStart h s) = _
    simp [exchangeStart, idle]
  · obtain ⟨k, ok, run, -⟩ := exec_eq_request i h tag s source
    rw [run, request_unserved h k tag ok _ s idle]

/-- A well-formed request other than ATTACH and STATUS passes the port's test of its counts and comes to the Host Table's
check (R107, R125). -/
theorem exec_eq_hostCheck (i : Instr) (h : HostNo) (tag : Byte) (k : Kind) (s : State)
    (source : requestSource i = some (h, tag)) (kind : (requestFields i).map (·.1) = some k) (formed : i.wellFormed = true)
    (attach : k ≠ .attach) (status : k ≠ .status) :
    ∃ take, exec i s = .next (request h k tag true (hostCheck h k tag take) s) := by
  cases i <;> simp only [requestSource, reduceCtorEq, Option.some.injEq, Prod.mk.injEq] at source
  all_goals
    obtain ⟨rfl, rfl⟩ := source
    obtain rfl := Option.some.inj kind
  case attach => exact absurd rfl attach
  case status => exact absurd rfl status
  case cellWrite | cellFill | cellRead =>
    simp only [Instr.wellFormed, Bool.and_eq_true] at formed
    exact ⟨_, by rw [← formed.2]; rfl⟩
  case panelSend => exact ⟨_, by rw [← show dataCountOk _ = true from formed]; rfl⟩
  all_goals exact ⟨_, rfl⟩

/-- Settles O9: the request comes to the Host Table's check, which answers it and gives its slot back. -/
theorem requestsNeedAnActiveHost : Obligations.RequestsNeedAnActiveHost := by
  unfold Obligations.RequestsNeedAnActiveHost
  intro s h i tag k admits source kind formed attach status
  obtain ⟨take, run⟩ := exec_eq_hostCheck i h tag k s source kind formed attach status
  have refused (st : Status) (turned : hostCheck h k tag take (s.slotTaken h) = reply h k tag st .empty (s.slotTaken h)) :
      exec i s = .next (s.answered h (responseTo k tag st .empty)) := by
    rw [run, request_admitted h k tag _ s admits, turned, reply_slotTaken]
  have same : ((s.slotTaken h).host h).state = (s.host h).state := rfl
  exact ⟨fun absent => refused .notAttached (by rw [hostCheck, same, absent]),
    fun lapsed => refused .lapsed (by rw [hostCheck, same, lapsed])⟩

/-! ## ATTACH (R108, R131) -/

theorem attachHost_eq (h : HostNo) (s : State) :
    attachHost h s = s.setHost h { s.host h with
      state := .active, vote := if s.isActive h = true then (s.host h).vote else false } := by
  unfold attachHost
  split
  · next active =>
    have state : HostState.active = (s.host h).state := by simpa [isActive_eq, eq_comm] using active
    rw [state]
    exact (s.setHost_self h).symm
  · rfl

theorem clearSeen_slotTaken (h : HostNo) (s : State) : clearSeen h (s.slotTaken h) = (clearSeen h s).slotTaken h := by
  simp [clearSeen, State.slotTaken]

/-- Settles O17: the host's record and its port's flags change beside the slot, which the answer gives back. -/
theorem attachAnswers : Obligations.AttachAnswers := by
  unfold Obligations.AttachAnswers
  intro s h tag admits
  have taken : clearSeen h (loadLease h (attachHost h (s.slotTaken h))) =
      (clearSeen h ((attachHost h s).heard h)).slotTaken h := by
    rw [← clearSeen_slotTaken, attachHost_eq, attachHost_eq]
    rfl
  change Host.Outcome.next (request h .attach tag true (takeAttach h tag) s) = _
  rw [request_admitted h .attach tag _ s admits, takeAttach, taken, reply_slotTaken, attachHost_eq]
  rfl

/-! ## STATUS (R71, R110) -/

theorem loadIfActive_slotTaken (h : HostNo) (s : State) :
    loadIfActive h (s.slotTaken h) = (loadIfActive h s).slotTaken h := by
  unfold loadIfActive
  change (if s.isActive h = true then _ else _) = _
  split <;> rfl

/-- The report with the request's own slot in use; a full lease is LEASE_PERIOD in its own unit (R110, R111). -/
theorem statusReport_loadIfActive (s : State) (h : HostNo) :
    statusReport ((loadIfActive h s).slotTaken h) h =
      { part := s.conf.part, cause := s.conf.cause, frame := s.scan.frame, queueCount := s.scan.queue.length,
        urgency := s.arbiter.urgency, hostState := (s.host h).state,
        lease := if s.isActive h = true ∧ s.inRun = true then s.conf.settings.leasePeriod else 0,
        slots := (s.port h).slots + 1,
        reserved := if s.inRun = true then (s.host h).reserved else s.conf.settings.reserved[h],
        overflow := (s.host h).overflow, link := s.scan.link, vote := s.conf.vote,
        window := if s.conf.vote = .opened then s.conf.window / 400000 else 0, ownVote := (s.host h).vote } := by
  have unit : 0 < Config.leaseUnit := by decide
  by_cases active : s.isActive h = true
  · simp [statusReport, loadIfActive, active, loadLease, State.slotTaken, reservedOf, fullLease, unit]
    rfl
  · simp [statusReport, loadIfActive, active, State.slotTaken, reservedOf]
    rfl

/-- Settles O18: the lease is loaded, then the report is made with the request's slot in use. -/
theorem statusReports : Obligations.StatusReports := by
  unfold Obligations.StatusReports
  refine ⟨fun s h tag admits => ?_, fun r => ⟨rfl, rfl⟩⟩
  change Host.Outcome.next (request h .status tag true (takeStatus h tag) s) = _
  rw [request_admitted h .status tag _ s admits]
  dsimp only [takeStatus]
  rw [loadIfActive_slotTaken, statusReport_loadIfActive, reply_slotTaken]
  rfl

/-! ## The lease warning (R112, R143) -/

theorem isEmpty_eq_decide {α : Type} [DecidableEq α] (l : List α) : l.isEmpty = decide (l = []) := by
  cases l <;> simp

/-- An event for an ACTIVE host with room joins its queue, and HATN is asserted (R132, R143). -/
theorem postEvent_room (h : HostNo) (e : Event) (s : State) (active : s.isActive h = true)
    (room : (s.queue h).events.length < 8) :
    postEvent h e s = (s.setQueue h { s.queue h with events := (s.queue h).events ++ [e] }).setPort h
      { s.port h with attention := true } := by
  have waiting : ((s.queue h).events ++ [e]).isEmpty = false := by simp [isEmpty_eq_decide]
  simp [postEvent, active, Config.eventPlaces, room, refreshAttention, waiting]

/-- At a full queue the event is counted as lost (R143). -/
theorem postEvent_full (h : HostNo) (e : Event) (s : State) (active : s.isActive h = true)
    (full : 8 ≤ (s.queue h).events.length) :
    postEvent h e s = s.setQueue h { s.queue h with lost := min ((s.queue h).lost + 1) 255 } := by
  simp [postEvent, active, Config.eventPlaces, Nat.not_lt.2 full, satSucc, Config.countMax]

/-- The first warning of a loading (R112). -/
theorem leaseWarn_unwarned (h : HostNo) (s : State) (active : s.isActive h = true) (run : s.inRun = true)
    (unwarned : (s.host h).warned = false) :
    leaseWarn h s = postEvent h (.leaseWarn s.scan.frame) (s.setHost h
      { s.host h with warned := true, lease := min (s.host h).lease (s.conf.settings.leasePeriod * 100000) }) := by
  have quarter : quarterLease s = s.conf.settings.leasePeriod * 100000 := by
    simp only [quarterLease, fullLease, Config.leaseUnit]
    omega
  rw [leaseWarn, active, run, unwarned, quarter]
  rfl

/-- Settles O20: the first warning is posted as any event is, and the flag keeps it from being posted again. -/
theorem leaseWarnsOnce : Obligations.LeaseWarnsOnce := by
  unfold Obligations.LeaseWarnsOnce
  intro s h active run
  have warns : exec (.leaseWarn h) s = .next (leaseWarn h s) := rfl
  rw [warns]
  refine ⟨fun unwarned room => ?_, fun unwarned full => ?_, fun warned => by simp [leaseWarn, warned]⟩
  · rw [leaseWarn_unwarned h s active run unwarned, postEvent_room h _ _ (by simpa using active) (by simpa using room)]
    rfl
  · rw [leaseWarn_unwarned h s active run unwarned, postEvent_full h _ _ (by simpa using active) (by simpa using full)]
    rfl

/-! ## The present line (R115, R123, R133) -/

theorem dropLine_eq (h : HostNo) (s : State) :
    dropLine h s = s.setPort h { s.port h with
      present := false, drop := false, exchange := none, responses := [], attention := (s.queue h).events ≠ [] } := by
  simp [dropLine, clearResponses, refreshAttention, isEmpty_eq_decide]

/-- The line's deassertion takes a host that is not ACTIVE to ABSENT (R115). -/
theorem presentDeasserted_inactive (h : HostNo) (s : State) (up : (s.port h).present = true)
    (inactive : (s.host h).state ≠ .active) :
    presentDeasserted h s = (dropLine h s).setHost h { s.host h with state := .absent } := by
  have record : (dropLine h s).host h = s.host h := by simp
  unfold presentDeasserted
  dsimp only
  rw [if_pos up, record]
  cases state : (s.host h).state with
  | active => exact absurd state inactive
  | lapsed => rfl
  | absent =>
    have standing : { s.host h with state := .absent } = s.host h := by rw [← state]
    change dropLine h s = (dropLine h s).setHost h { s.host h with state := .absent }
    rw [standing, ← record, State.setHost_self]

/-- Settles O15: each change of the line by the level it has, and the host's state. -/
theorem presentLineOfAHostThatIsNotActive : Obligations.PresentLineOfAHostThatIsNotActive := by
  unfold Obligations.PresentLineOfAHostThatIsNotActive
  intro s h
  have falls : exec (.hostPresentDeasserted h) s = .next (presentDeasserted h s) := rfl
  rw [falls]
  refine ⟨rfl, fun down => by simp [presentDeasserted, down], fun up inactive => ?_⟩
  rw [presentDeasserted_inactive h s up inactive, dropLine_eq]

end Sys2Proof.Machine
end

section
/-! What the Pane Manager's share of a departure leaves of panes, lanes, ports and event queues (R21, R25 to R28, R86 to
R89). -/
namespace Sys2Proof.Machine

/-! ## The end of a host's work on some panes -/

theorem takeStages_unstaged (panes : List PaneNo) (s : State) (unstaged : ∀ p ∈ panes, (s.pane p).stageHeld = false) :
    forEach panes takeStageIfIdle s = s := by
  induction panes with
  | nil => rfl
  | cons p panes ih =>
    rw [forEach_cons, takeStageIfIdle_unheld p s (unstaged p (by simp))]
    exact ih fun q listed => unstaged q (by simp [listed])

/-- On panes that hold no PANE_STAGE only the ended operations are answered. -/
theorem endWork_unstaged (panes : List PaneNo) (status : Status) (h : HostNo) (s : State)
    (unstaged : ∀ p ∈ panes, (s.pane p).stageHeld = false) :
    endWork panes status h s = answerAll h (stoppedResponses s h (·.onSome panes) status)
      (stopOps h (·.onSome panes) (fun e => panes.contains e.pane) status s) :=
  takeStages_unstaged panes _ (by simpa using unstaged)

theorem stoppedResponses_of_lane {s t : State} {g : HostNo} (lane : t.lane g = s.lane g) (test : CellOp → Bool)
    (status : Status) : stoppedResponses t g test status = stoppedResponses s g test status := by
  simp only [stoppedResponses, lane]

theorem stopOps_lane (h g : HostNo) (test : CellOp → Bool) (parked : Parked → Bool) (status : Status) (s : State) :
    (stopOps h test parked status s).lane g = if h = g then
      ⟨(s.lane h).service.bind (stoppedService test status), (s.lane h).queued.filter fun op => !test op⟩ else s.lane g := by
  simp [stopOps, State.lane_setLane]

/-- The whole port of every other host stays. -/
theorem answerAll_port_other (h g : HostNo) (other : h ≠ g) (rs : List Response) (s : State) :
    (answerAll h rs s).port g = s.port g :=
  forEach_induct (fun t => t.port g = s.port g) _ (fun r t same => by rw [answer_port, if_neg other, same]) rs s rfl

theorem postEvent_port_other (h g : HostNo) (other : h ≠ g) (e : Event) (s : State) : (postEvent h e s).port g = s.port g := by
  unfold postEvent
  (repeat' split) <;> simp [refreshAttention, other]

/-! ## Events posted to several hosts -/

theorem postEvent_inactive (h : HostNo) (e : Event) (s : State) (inactive : s.isActive h = false) : postEvent h e s = s := by
  simp [postEvent, inactive]

theorem postTo_allHosts_queue (e : Event) (g : HostNo) (s : State) :
    (postTo allHosts e s).queue g = if s.isActive g = true then (s.queue g).posted [e] else s.queue g := by
  rw [postTo, forEach_allHosts]
  fin_cases g <;> simp [postEvent_queue, EventQueue.posted]

/-- Events posted to all hosts in turn reach the queue of each that is ACTIVE. -/
theorem forEach_postTo_queue {α : Type} (f : α → Event) (l : List α) (g : HostNo) (s : State) :
    (forEach l (fun a => postTo allHosts (f a)) s).queue g =
      if s.isActive g = true then (s.queue g).posted (l.map f) else s.queue g := by
  induction l generalizing s with
  | nil => simp [EventQueue.posted]
  | cons a l ih =>
    rw [forEach_cons, ih, postTo_allHosts_queue]
    simp only [postTo_frame]
    split
    · rw [List.map_cons, ← EventQueue.posted_append, List.singleton_append]
    · rfl

/-- A host that is not ACTIVE sees nothing of what is posted to all. -/
theorem forEach_postTo_port_inactive {α : Type} (f : α → Event) (l : List α) (g : HostNo) (s : State)
    (inactive : s.isActive g = false) : (forEach l (fun a => postTo allHosts (f a)) s).port g = s.port g := by
  refine (forEach_induct (fun t => t.isActive g = false ∧ t.port g = s.port g) _ (fun a t ⟨still, same⟩ => ?_) l s
    ⟨inactive, rfl⟩).2
  refine forEach_induct (fun u => u.isActive g = false ∧ u.port g = s.port g) _ (fun k u ⟨still, same⟩ => ?_) _ t
    ⟨still, same⟩
  refine ⟨by simpa using still, ?_⟩
  by_cases own : k = g
  · subst own
    rw [postEvent_inactive _ _ _ still, same]
  · rw [postEvent_port_other k g own, same]

/-! ## The guests of a departing owner's panes -/

/-- What the end of host `g`'s rights on some panes leaves of it: its work on them answered with `status`, and `events`
posted. -/
structure WorkLeft (g : HostNo) (panes : List PaneNo) (status : Status) (events : List Event) (s t : State) : Prop where
  lane : t.lane g = ⟨(s.lane g).service.bind (stoppedService (·.onSome panes) status),
    (s.lane g).queued.filter fun op => !op.onSome panes⟩
  responses : (t.port g).responses = (s.port g).responses ++ stoppedResponses s g (·.onSome panes) status
  slots : (t.port g).slots = (s.port g).slots - (stoppedResponses s g (·.onSome panes) status).length
  queue : t.queue g = if s.isActive g = true then (s.queue g).posted events else s.queue g
  parked : ∀ e ∈ t.parked, e ∈ s.parked ∧ ¬(e.host = g ∧ e.pane ∈ panes)

/-- What is told of the panes of a departing owner to their guest (R26, R27, R89). -/
def revocations (h : HostNo) (kind : Departure) (panes : List PaneNo) : List Event :=
  panes.map fun p => .guestRevoked p h (guestEnd kind).2

section
variable (h : HostNo) (kind : Departure) (g : HostNo) (panes : List PaneNo) (s : State)
variable (unstaged : ∀ p ∈ panes, (s.pane p).stageHeld = false)
include unstaged

theorem departGuest_workLeft :
    WorkLeft g panes (guestEnd kind).1 (revocations h kind panes) s (departGuest h kind g panes s) := by
  have port := answerAll_port g g (stoppedResponses s g (·.onSome panes) (guestEnd kind).1)
    (stopOps g (·.onSome panes) (fun e => panes.contains e.pane) (guestEnd kind).1 s)
  rw [departGuest, endWork_unstaged panes _ g s unstaged]
  refine ⟨?_, ?_, ?_, ?_, fun e listed => ?_⟩
  · simp [stopOps_lane]
  · simpa using port.1
  · simpa using port.2
  · rw [forEach_postEvent_queue]
    simp [revocations]
  · simpa [stopOps, imp_iff_not_or] using listed

/-- No pane changes, and nothing of any other host. -/
theorem departGuest_frames : (∀ p, (departGuest h kind g panes s).pane p = s.pane p) ∧
    ∀ k, g ≠ k → (departGuest h kind g panes s).lane k = s.lane k ∧ (departGuest h kind g panes s).port k = s.port k ∧
      (departGuest h kind g panes s).queue k = s.queue k := by
  rw [departGuest, endWork_unstaged panes _ g s unstaged]
  refine ⟨fun p => by simp, fun k other => ⟨by simp [stopOps_lane, other], ?_, ?_⟩⟩
  · rw [forEach_port _ _ _ k fun p t => postEvent_port_other g k other _ t, answerAll_port_other g k other]
    simp
  · rw [forEach_postEvent_queue]
    simp [other]

end

/-- What all guests of a departing owner's panes have left of them. -/
structure GuestsLeft (h : HostNo) (kind : Departure) (panes : HostNo → List PaneNo) (gs : List HostNo) (s t : State) :
    Prop where
  guest : ∀ g ∈ gs, WorkLeft g (panes g) (guestEnd kind).1 (revocations h kind (panes g)) s t
  other : ∀ g, g ∉ gs → t.lane g = s.lane g ∧ t.port g = s.port g ∧ t.queue g = s.queue g
  unguested : ∀ g, panes g = [] → t.port g = s.port g
  pane : ∀ p, t.pane p = s.pane p
  parked : ∀ e ∈ t.parked, e ∈ s.parked

theorem departGuests_left (h : HostNo) (kind : Departure) (panes : HostNo → List PaneNo) (gs : List HostNo)
    (apart : gs.Nodup) (s : State) (unstaged : ∀ g, ∀ p ∈ panes g, (s.pane p).stageHeld = false) :
    GuestsLeft h kind panes gs s (forEach gs (fun g => departGuest h kind g (panes g)) s) := by
  induction gs generalizing s with
  | nil => exact ⟨nofun, fun _ _ => ⟨rfl, rfl, rfl⟩, fun _ _ => rfl, fun _ => rfl, fun _ => id⟩
  | cons g gs ih =>
    obtain ⟨outside, rest⟩ := List.nodup_cons.1 apart
    have left := departGuest_workLeft h kind g (panes g) s (unstaged g)
    obtain ⟨pane, frames⟩ := departGuest_frames h kind g (panes g) s (unstaged g)
    have later := ih rest (departGuest h kind g (panes g) s) fun k p listed => by rw [pane]; exact unstaged k p listed
    rw [forEach_cons]
    refine ⟨fun k listed => ?_, fun k none => ?_, fun k none => ?_, fun p => (later.pane p).trans (pane p), fun e kept => ?_⟩
    · rcases List.mem_cons.1 listed with rfl | listed
      · obtain ⟨lane, port, queue⟩ := later.other k outside
        exact ⟨lane.trans left.lane, by rw [port, left.responses], by rw [port, left.slots], queue.trans left.queue,
          fun e kept => left.parked e (later.parked e kept)⟩
      · obtain ⟨lane, port, queue⟩ := frames k fun same => outside (same ▸ listed)
        have own := later.guest k listed
        refine ⟨by rw [own.lane, lane], ?_, ?_, ?_, fun e kept => ?_⟩
        · rw [own.responses, port, stoppedResponses_of_lane lane]
        · rw [own.slots, port, stoppedResponses_of_lane lane]
        · rw [own.queue, queue]
          simp
        · obtain ⟨before, gone⟩ := own.parked e kept
          exact ⟨(left.parked e before).1, gone⟩
    · obtain ⟨first, others⟩ := List.mem_cons.not.trans not_or |>.1 none
      obtain ⟨lane, port, queue⟩ := frames k (Ne.symm first)
      obtain ⟨lane', port', queue'⟩ := later.other k others
      exact ⟨lane'.trans lane, port'.trans port, queue'.trans queue⟩
    · rw [later.unguested k none]
      by_cases own : g = k
      · subst own
        rw [none, departGuest_nil]
      · exact (frames k own).2.1
    · exact (left.parked e (later.parked e kept)).1

/-! ## The Pane Manager's share (R25 to R28) -/

/-- What guest `g` of a departing owner's panes and every other host are told (R26, R27, R89). -/
def departureEvents (s : State) (h : HostNo) (kind : Departure) (g : HostNo) : List Event :=
  revocations h kind (guestPanesOf s h g) ++ (orphansOf s h kind).map fun p => .orphanNotice p h (orphanReason kind)

/-- A pane once host `h`, its owner or guest, has departed. -/
def leftPane (h : HostNo) (kind : Departure) (q : Pane) : Pane :=
  { departedPane h kind q with
    guest := if (departedPane h kind q).guest = some h then none else (departedPane h kind q).guest }

/-- What the Pane Manager's share of host `h`'s departure leaves. -/
structure PanesDeparted (h : HostNo) (kind : Departure) (s t : State) : Prop where
  pane : ∀ p, t.pane p = leftPane h kind (s.pane p)
  guest : ∀ g, WorkLeft g (guestPanesOf s h g) (guestEnd kind).1 (departureEvents s h kind g) s t
  own : s.isActive h = false → guestPanesOf s h h = [] → t.port h = s.port h

/-- A pane its departing owner leaves holds no PANE_STAGE. -/
theorem departedPane_unstaged (h : HostNo) (kind : Departure) (q : Pane) (owner : q.owner = some h) (live : q.state = .live) :
    (departedPane h kind q).stageHeld = false := by
  rcases departedPane_cases h kind q with ⟨-, others⟩ | ⟨-, -, pending⟩ | ⟨retiring | orphaned, -⟩
  · exact absurd ⟨owner, .inr live⟩ others
  · simp [live] at pending
  · rw [retiring]; rfl
  · rw [orphaned]; rfl

theorem mem_guestPanesOf (s : State) (h g : HostNo) (p : PaneNo) :
    p ∈ guestPanesOf s h g ↔ (s.pane p).owner = some h ∧ (s.pane p).state = .live ∧ (s.pane p).guest = some g := by
  simp [guestPanesOf, owns, mem_allPanes, and_assoc]

theorem departPanes_departed (h : HostNo) (kind : Departure) (s : State) : PanesDeparted h kind s (departPanes h kind s) := by
  have pane := forEach_allPanes_pane (departPane h kind) (departedPane h kind) (departPane_eq h kind) s
  have told := departGuests_left h kind (guestPanesOf s h) allHosts (by decide) (forEach allPanes (departPane h kind) s)
    fun g p listed => by
      obtain ⟨owner, live, -⟩ := (mem_guestPanesOf s h g p).1 listed
      rw [pane]
      exact departedPane_unstaged h kind _ owner live
  have active (g : HostNo) : (forEach allHosts (fun g => departGuest h kind g (guestPanesOf s h g))
      (forEach allPanes (departPane h kind) s)).isActive g = s.isActive g := by simp
  unfold departPanes
  dsimp only
  generalize forEach allHosts (fun g => departGuest h kind g (guestPanesOf s h g)) _ = u at told active
  have noticed := forEach_postTo_queue (fun p => .orphanNotice p h (orphanReason kind)) (orphansOf s h kind)
  refine ⟨fun p => ?_, fun g => ?_, fun inactive unguested => ?_⟩
  · rw [forEach_allPanes_pane (removeGuest h) (fun q => { q with guest := if q.guest = some h then none else q.guest })
      (removeGuest_eq h)]
    simp [told.pane, pane, leftPane]
  · obtain ⟨lane, responses, slots, queue, parked⟩ := told.guest g (mem_allHosts g)
    refine ⟨?_, ?_, ?_, ?_, fun e kept => ?_⟩
    · simpa using lane
    · simpa [stoppedResponses] using responses
    · simpa [stoppedResponses] using slots
    · rw [forEach_queue _ _ _ g fun p t => by simp, noticed, active, queue]
      by_cases on : s.isActive g = true <;> simp [on, departureEvents, EventQueue.posted_append]
    · simpa using parked e (by simpa using kept)
  · rw [forEach_port _ _ _ h fun p t => by simp,
      forEach_postTo_port_inactive _ _ h u ((active h).trans inactive), told.unguested h unguested]
    simp

end Sys2Proof.Machine
end

section
/-! Slots in use are those of the requests that wait (R117, R127, R128): settles O57. -/
namespace Sys2Proof.Machine

/-! ## What waits, block by block -/

/-- The requests a cell lane holds, with the DETACH responses that wait for the operation in service. -/
def Lane.waiting (l : Lane) : Nat :=
  l.queued.length + l.service.toList.length + (l.service.toList.flatMap (·.delayed)).length

/-- The request of host `h` a pane holds. -/
def Pane.waiting (q : Pane) (h : HostNo) : Nat := if q.owner = some h ∧ q.held.isSome = true then 1 else 0

/-- The requests of host `h` the panes hold. -/
def panesWaiting (s : State) (h : HostNo) : Nat :=
  (allPanes.filter fun p => (s.pane p).owner = some h && (s.pane p).held.isSome).length

/-- The panel transfers of host `h` that will be answered. -/
def Panel.waiting (x : Panel) (h : HostNo) : Nat :=
  (x.fifo.filter fun t => t.host = h).length + (x.inFlight.toList.filter fun f => f.transfer.host = h && !f.discard).length

theorem holdings_eq (s : State) (h : HostNo) : holdings s h = (s.lane h).waiting + panesWaiting s h + s.panel.waiting h := by
  simp only [holdings, Lane.waiting, panesWaiting, Panel.waiting]
  omega

theorem panesWaiting_setPane (s : State) (h : HostNo) (p : PaneNo) (q : Pane) :
    panesWaiting (s.setPane p q) h + (s.pane p).waiting h = panesWaiting s h + q.waiting h := by
  have split (t : State) : panesWaiting t h = (t.pane p).waiting h +
      ((allPanes.erase p).filter fun r => (t.pane r).owner = some h && (t.pane r).held.isSome).length := by
    rw [panesWaiting, ((List.perm_cons_erase (mem_allPanes p)).filter _).length_eq, List.filter_cons]
    simp only [Pane.waiting, Bool.and_eq_true, decide_eq_true_eq]
    split
    · rw [List.length_cons, Nat.add_comm]
    · rw [Nat.zero_add]
  have others : ((allPanes.erase p).filter fun r => ((s.setPane p q).pane r).owner = some h && ((s.setPane p q).pane r).held.isSome)
      = (allPanes.erase p).filter fun r => (s.pane r).owner = some h && (s.pane r).held.isSome := by
    refine List.filter_congr fun r listed => ?_
    have other : p ≠ r := fun same => by
      subst same
      exact (List.Nodup.not_mem_erase (allPanes_rising.imp fun lt => ne_of_lt lt)) listed
    simp [other]
  have before := split s
  have after := split (s.setPane p q)
  rw [others, State.pane_setPane_same] at after
  omega

theorem panesWaiting_congr {s t : State} {h : HostNo} (owner : ∀ p, (t.pane p).owner = (s.pane p).owner)
    (held : ∀ p, (t.pane p).held.isSome = (s.pane p).held.isSome) : panesWaiting t h = panesWaiting s h := by
  simp only [panesWaiting, owner, held]

/-! ## The slots of one host -/

/-- `n` if the hosts are the same. -/
def dueTo (h g : HostNo) (n : Nat) : Nat := if h = g then n else 0

/-- `State.slotsOk` for host `g`, of whose slots in use `n` are those of requests an event is about to answer or to let
wait. -/
structure Booked (g : HostNo) (n : Nat) (s : State) : Prop where
  slots : (s.port g).slots = holdings s g + n
  ceiling : (s.port g).slots + (s.port g).responses.length ≤ 24
  delayed : ∀ v, (s.lane g).service = some v → v.delayed ≠ [] → v.access = .inProgress ∧ v.stop.isSome = true

theorem slotsOk_iff (s : State) : s.slotsOk ↔ ∀ g, Booked g 0 s :=
  ⟨fun ok g => ⟨(ok g).1, (ok g).2.1, (ok g).2.2⟩, fun booked g => ⟨(booked g).slots, (booked g).ceiling, (booked g).delayed⟩⟩

namespace Booked
variable {g : HostNo} {n m : Nat} {s t : State}

theorem of_waiting (booked : Booked g n s) (slots : (t.port g).slots = (s.port g).slots)
    (responses : (t.port g).responses.length = (s.port g).responses.length)
    (waiting : holdings t g + m = holdings s g + n)
    (delayed : ∀ v, (t.lane g).service = some v → v.delayed ≠ [] → v.access = .inProgress ∧ v.stop.isSome = true) :
    Booked g m t :=
  ⟨by rw [slots, booked.slots, waiting], by rw [slots, responses]; exact booked.ceiling, delayed⟩

theorem of_same (booked : Booked g n s) (slots : (t.port g).slots = (s.port g).slots)
    (responses : (t.port g).responses = (s.port g).responses) (lane : t.lane g = s.lane g)
    (owner : ∀ p, (t.pane p).owner = (s.pane p).owner) (held : ∀ p, (t.pane p).held = (s.pane p).held)
    (panel : t.panel.waiting g = s.panel.waiting g) : Booked g n t := by
  refine booked.of_waiting slots (by rw [responses]) ?_ (by rw [lane]; exact booked.delayed)
  rw [holdings_eq, holdings_eq, lane, panel, panesWaiting_congr owner fun p => by rw [held]]

theorem setPane (booked : Booked g n s) (p : PaneNo) (q : Pane) (count : n + (s.pane p).waiting g = m + q.waiting g) :
    Booked g m (s.setPane p q) := by
  refine booked.of_waiting rfl rfl ?_ booked.delayed
  have sum := panesWaiting_setPane s g p q
  rw [holdings_eq, holdings_eq, State.lane_setPane, State.panel_setPane]
  omega

theorem setLane (booked : Booked g n s) (h : HostNo) (l : Lane)
    (count : n + dueTo h g (s.lane h).waiting = m + dueTo h g l.waiting)
    (delayed : h = g → ∀ v, l.service = some v → v.delayed ≠ [] → v.access = .inProgress ∧ v.stop.isSome = true) :
    Booked g m (s.setLane h l) := by
  have panes : panesWaiting (s.setLane h l) g = panesWaiting s g := rfl
  by_cases own : h = g
  · subst own
    refine booked.of_waiting rfl rfl ?_ (by simpa using delayed rfl)
    rw [holdings_eq, holdings_eq, State.lane_setLane_same, State.panel_setLane, panes]
    simp only [dueTo, if_true] at count
    omega
  · refine booked.of_waiting rfl rfl ?_ (by simpa [own] using booked.delayed)
    rw [holdings_eq, holdings_eq, State.lane_setLane_ne _ _ _ _ own, State.panel_setLane, panes]
    simp only [dueTo, if_neg own] at count
    omega

theorem setScan (booked : Booked g n s) (x : Scan) : Booked g n (s.setScan x) :=
  booked.of_same rfl rfl rfl (fun _ => rfl) (fun _ => rfl) rfl

theorem setArbiter (booked : Booked g n s) (x : Arbiter) : Booked g n (s.setArbiter x) :=
  booked.of_same rfl rfl rfl (fun _ => rfl) (fun _ => rfl) rfl

theorem setPanel (booked : Booked g n s) (x : Panel) (count : n + s.panel.waiting g = m + x.waiting g) :
    Booked g m (s.setPanel x) := by
  refine booked.of_waiting rfl rfl ?_ booked.delayed
  have panes : panesWaiting (s.setPanel x) g = panesWaiting s g := rfl
  rw [holdings_eq, holdings_eq, State.lane_setPanel, State.panel_setPanel, panes]
  omega

/-- An answer gives back a slot that is due (R127). -/
theorem answer {h : HostNo} (booked : Booked g (n + dueTo h g 1) s) (r : Response) : Booked g n (answer h r s) := by
  have ⟨slots, ceiling, delayed⟩ := booked
  have same : holdings (Machine.answer h r s) g = holdings s g := by simp [holdings]
  by_cases own : h = g
  · subst own
    simp only [dueTo, if_true] at slots
    refine ⟨?_, ?_, by simpa using delayed⟩ <;>
      simp only [same, answer_port, if_true, List.length_append, List.length_singleton] <;> omega
  · simp only [dueTo, if_neg own, Nat.add_zero] at slots
    refine ⟨?_, ?_, by simpa using delayed⟩ <;> simp only [same, answer_port, if_neg own] <;> omega

theorem answerAll {h : HostNo} (rs : List Response) (booked : Booked g (n + dueTo h g rs.length) s) :
    Booked g n (answerAll h rs s) := by
  induction rs generalizing s with
  | nil => simpa [answerAll_nil, dueTo] using booked
  | cons r rs ih =>
    rw [answerAll_cons]
    refine ih (answer ?_ r)
    have count : n + dueTo h g rs.length + dueTo h g 1 = n + dueTo h g (r :: rs).length := by
      simp only [dueTo, List.length_cons]
      split <;> omega
    rwa [count]

theorem reply {h : HostNo} (booked : Booked g (n + dueTo h g 1) s) (k : Kind) (tag : Byte) (st : Status) (pl : Payload) :
    Booked g n (reply h k tag st pl s) := booked.answer _

/-! ### The end of an operation (R18, R37, R84) -/

/-- No DETACH response waits for an operation without an access in progress (R117). -/
theorem undelayed (booked : Booked g n s) (v : Service) (service : (s.lane g).service = some v)
    (idle : v.access ≠ .inProgress) : v.delayed = [] := by
  by_contra waits
  exact idle (booked.delayed v service waits).1

/-- An access that is not in progress comes to another state. -/
theorem setAccess (booked : Booked g n s) (h : HostNo) (a : AccessState)
    (idle : ∀ v, (s.lane h).service = some v → v.access ≠ .inProgress) : Booked g n (setAccess h a s) := by
  refine booked.setLane h _ (congrArg _ (congrArg _ ?_)) fun own w held => ?_
  · cases service : (s.lane h).service <;> simp [Lane.waiting, service]
  · subst own
    obtain ⟨v, service, rfl⟩ := Option.map_eq_some_iff.1 held
    exact fun waits => absurd (booked.undelayed v service (idle v service)) waits

theorem withdrawOffer (booked : Booked g n s) (p : PaneNo) (h : HostNo) : Booked g n (withdrawOffer p h s) := by
  unfold Machine.withdrawOffer
  split
  · next v service =>
    split
    · next offered => exact booked.setAccess h .made fun w other => by simp_all
    · exact booked
  · exact booked

theorem forEach {α : Type} {f : α → State → State} (turn : ∀ a t, Booked g n t → Booked g n (f a t)) (l : List α)
    (booked : Booked g n s) : Booked g n (forEach l f s) :=
  forEach_induct (Booked g n) f turn l s booked

theorem waiting_unheld {q : Pane} (held : q.held = none) (g : HostNo) : q.waiting g = 0 := by simp [Pane.waiting, held]

/-- A pane loses the request it held, which is to be answered or to wait elsewhere. -/
theorem unhold (booked : Booked g n s) (p : PaneNo) (q : Pane) (held : q.held = none) :
    Booked g (n + (s.pane p).waiting g) (s.setPane p q) :=
  booked.setPane p q (by rw [waiting_unheld held g, Nat.add_zero])

/-- The request a pane holds is about to be answered. -/
theorem recordCommit (booked : Booked g n s) (h : HostNo) (p : PaneNo) :
    Booked g (n + (s.pane p).waiting g) (recordCommit h p s) := by
  unfold Machine.recordCommit
  dsimp only
  have recorded := (booked.of_same (t := s.setHost h { s.host h with tickets := (s.host h).tickets + 1 })
    rfl rfl rfl (fun _ => rfl) (fun _ => rfl) rfl).unhold p
    { s.pane p with commit := some (s.host h).tickets, held := none } rfl
  split
  · exact forEach (fun k _ still => still.withdrawOffer p k) _ recorded
  · exact recorded

theorem takeCommit (booked : Booked g m s) (h : HostNo) (p : PaneNo) (tag : Byte)
    (due : m + (s.pane p).waiting g = n + dueTo h g 1) : Booked g n (takeCommit h p tag s) :=
  (due ▸ booked.recordCommit h p).reply ..

theorem waiting_of_held {q : Pane} {h : HostNo} {r : Held} (owner : q.owner = some h) (held : q.held = some r) (g : HostNo) :
    q.waiting g = dueTo h g 1 := by
  simp [Pane.waiting, dueTo, owner, held]

theorem countForCommit (booked : Booked g n s) (h : HostNo) (p : PaneNo) : Booked g n (countForCommit h p s) := by
  rcases countForCommit_cases h p s with ⟨same, -⟩ | ⟨tag, k, held, owner, ⟨-, taken⟩ | ⟨-, counted⟩⟩
  · rwa [same]
  · rw [taken]
    exact booked.takeCommit h p tag (by rw [waiting_of_held owner held])
  · rw [counted]
    exact booked.setPane p _ (by simp [Pane.waiting, held])

theorem takeStageIfIdle (booked : Booked g n s) (p : PaneNo) : Booked g n (takeStageIfIdle p s) := by
  unfold Machine.takeStageIfIdle
  split
  · next tag rect h held owner =>
    split
    · exact booked
    · have due := waiting_of_held owner held g
      unfold takeHeldStage
      split
      · exact (due ▸ booked.unhold p _ rfl).reply ..
      · exact (due ▸ booked.unhold p _ rfl).reply ..
  · exact booked

theorem reportEnd (booked : Booked g n s) (h : HostNo) (sel : Byte) : Booked g n (reportEnd h sel s) := by
  unfold Machine.reportEnd
  split
  · exact (booked.countForCommit h _).takeStageIfIdle _
  · exact booked

theorem finishOp (booked : Booked g n s) (h : HostNo) (v w : Service) (r : Response)
    (service : (s.lane h).service = some w) (same : v.delayed = w.delayed) : Booked g n (finishOp h v r s) := by
  refine (answerAll (r :: v.delayed) (booked.setLane h _ ?_ fun _ w held => by cases held)).reportEnd h _
  simp only [dueTo, Lane.waiting, service, same, Option.toList_some, Option.toList_none, List.flatMap_cons, List.flatMap_nil,
    List.append_nil, List.length_cons, List.length_nil]
  split <;> omega

/-! ### Service starts and accesses (R73 to R76) -/

theorem testAccess (booked : Booked g n s) (h : HostNo)
    (idle : ∀ v, (s.lane h).service = some v → v.access ≠ .inProgress) : Booked g n (testAccess h s) := by
  have tested (a : AccessState) := booked.setAccess h a idle
  unfold Machine.testAccess
  (repeat' split)
  · exact booked
  · exact tested _
  · exact tested _
  · exact tested _
  · refine (tested .made).of_same ?_ ?_ ?_ ?_ ?_ ?_ <;> simp

theorem startOp (booked : Booked g n s) (h : HostNo) (op : CellOp) (rest : List CellOp)
    (idle : (s.lane h).service = none) (head : (s.lane h).queued = op :: rest) : Booked g n (startOp h op rest s) := by
  unfold Machine.startOp
  split
  · refine (answer (booked.setLane h _ ?_ fun _ w held => by cases held) _).reportEnd h _
    simp only [dueTo, Lane.waiting, idle, head, Option.toList_none, List.flatMap_nil, List.length_cons, List.length_nil]
    split <;> omega
  · refine (booked.setLane h _ ?_ fun _ w held => ?_).testAccess h fun w held => ?_
    · simp only [dueTo, Lane.waiting, idle, head, Option.toList_none, Option.toList_some, List.flatMap_nil, List.flatMap_cons,
        List.append_nil, List.length_cons, List.length_nil]
    · obtain rfl := Option.some.inj held
      exact fun waits => absurd rfl waits
    · obtain rfl : _ = w := by simpa using held
      simp

theorem startHead (booked : Booked g n s) (h : HostNo) (k : Nat) : Booked g n (startHead h k s) := by
  induction k generalizing s with
  | zero => exact booked
  | succ k ih =>
    unfold Machine.startHead
    split
    · next op rest idle head =>
      split
      · exact booked
      · exact ih (booked.startOp h op rest idle head)
    · exact booked

theorem startServices (booked : Booked g n s) : Booked g n (startServices s) :=
  forEach_induct (Booked g n) _ (fun h _ still => still.startHead h _) _ s booked

theorem writeDone (booked : Booked g n s) (h : HostNo) (k : Nat) : Booked g n (writeDone h k s) := by
  unfold Machine.writeDone
  split
  · exact booked
  · next v service =>
    dsimp only
    split
    · exact booked.finishOp h _ v _ service rfl
    · exact booked.finishOp h _ v _ service rfl
    · next line col going _ =>
      refine (booked.setLane h _ (congrArg _ (congrArg _ ?_)) fun own w held => ?_).testAccess h fun w held => ?_
      · simp [Lane.waiting, service]
      · subst own
        obtain rfl := Option.some.inj held
        exact fun waits => by simpa [going] using (booked.delayed v service waits).2
      · obtain rfl : _ = w := by simpa using held
        simp

theorem readDone (booked : Booked g n s) (h : HostNo) (cells : List Cell) : Booked g n (readDone h cells s) := by
  unfold Machine.readDone
  split
  · exact booked
  · next v service => split <;> exact booked.finishOp h v v _ service rfl

/-! ### Grants and what follows at once (R66 to R69, R94) -/

theorem grantRead (booked : Booked g n s) (h : HostNo) (v : Service) (back : Bool)
    (idle : ∀ v, (s.lane h).service = some v → v.access ≠ .inProgress) : Booked g n (grantRead h v back s) :=
  (booked.setAccess h .inProgress idle).of_same rfl rfl rfl (fun _ => rfl) (fun _ => rfl) rfl

theorem grantWrite (booked : Booked g n s) (h : HostNo) (v : Service) (restart : Option (Half × Nat))
    (idle : ∀ v, (s.lane h).service = some v → v.access ≠ .inProgress) : Booked g n (grantWrite h v restart s) :=
  (booked.setAccess h .inProgress idle).of_same rfl rfl rfl (fun _ => rfl) (fun _ => rfl) rfl

theorem reportFault (booked : Booked g n s) (r : FaultRecord) : Booked g n (reportFault r s) :=
  booked.of_same (by simp) (by simp) (by simp) (by simp) (by simp) (by simp)

section
variable (h : HostNo) (v : Service) (l : Latch) (idle : ∀ v, (s.lane h).service = some v → v.access ≠ .inProgress)
include idle

theorem passGrant (booked : Booked g n s) (kind : FaultKind) : Booked g n (passGrant kind h v l s) := by
  have torn := booked.setPane (m := n) v.pane { s.pane v.pane with tears := satSucc (s.pane v.pane).tears } (by simp [Pane.waiting])
  have marked : Booked g n ((s.setScan { s.scan with latch := some { l with torn := true } }).setPane v.pane
      { s.pane v.pane with tears := satSucc (s.pane v.pane).tears }) :=
    torn.of_same rfl rfl rfl (fun _ => rfl) (fun _ => rfl) rfl
  exact (marked.reportFault _).grantWrite h v none (by simpa using idle)

theorem parkOrPass (booked : Booked g n s) : Booked g n (parkOrPass h v l s) := by
  unfold Machine.parkOrPass
  split
  · have listed : Booked g n (s.setParked (s.parked ++ [parkedEntry h v])) :=
      booked.of_same rfl rfl rfl (fun _ => rfl) (fun _ => rfl) rfl
    exact (listed.setAccess h .parked idle).of_same rfl rfl rfl (fun _ => rfl) (fun _ => rfl) rfl
  · exact booked.passGrant h v l idle _

theorem resolveConflict (booked : Booked g n s) : Booked g n (resolveConflict h v l s) := by
  unfold Machine.resolveConflict
  split
  · exact booked.passGrant h v l idle _
  · exact booked.parkOrPass h v l idle
  · split
    · exact (booked.reportFault _).parkOrPass h v l (by simpa using idle)
    · split
      · exact booked.grantWrite h v _ idle
      · exact booked.parkOrPass h v l idle

end

theorem serveHost (booked : Booked g n s) (h : HostNo) (offered : offers s h = true) : Booked g n (serveHost h s) := by
  have idle (v : Service) (service : (s.lane h).service = some v) : v.access ≠ .inProgress := by
    have : v.access = .offered := by simpa [offers, service] using offered
    simp [this]
  unfold Machine.serveHost
  (repeat' split)
  · exact booked
  · exact booked.grantRead h _ _ idle
  · exact booked.resolveConflict h _ _ idle
  · exact booked.grantWrite h _ _ idle

theorem arbitrate (booked : Booked g n s) (k : Nat) : Booked g n (arbitrate k s) := by
  induction k generalizing s with
  | zero => exact booked
  | succ k ih =>
    unfold Machine.arbitrate
    split
    · exact booked
    · split
      · exact booked
      · split
        · exact booked.of_same rfl rfl rfl (fun _ => rfl) (fun _ => rfl) rfl
        · exact booked
      · split
        · next h next => exact ih (booked.serveHost h (nextReady_offers s h next))
        · exact booked

theorem settle (booked : Booked g n s) : Booked g n (settle s) := by
  unfold Machine.settle
  split
  · exact booked.startServices.arbitrate 5
  · exact booked

/-! ### The Parked List, the boundary and latches (R43 to R47, R55 to R57, R83, R97) -/

theorem releaseParked (booked : Booked g n s) : Booked g n (releaseParked s) := by
  refine forEach (fun e t still => ?_) _ (booked.of_same (t := s.setParked []) rfl rfl rfl (fun _ => rfl) (fun _ => rfl) rfl)
  unfold releaseEntry
  split
  · next v service =>
    split
    · next parked => exact still.testAccess e.host fun w other => by simp_all
    · exact still
  · exact still

theorem refillBudgets (booked : Booked g n s) : Booked g n (refillBudgets s) := by
  refine forEach (fun h t still => ?_) _ (forEach (fun h t still => ?_) _ booked)
  · unfold retestWaiting
    split
    · next v service =>
      split
      · next made => exact still.testAccess h fun w other => by simp_all
      · exact still
    · exact still
  · exact still.of_same rfl rfl rfl (fun _ => rfl) (fun _ => rfl) rfl

end Booked

/-- A RETIRING pane holds no request (Table 2-1). -/
def RetiringUnheld (s : State) : Prop := ∀ p, (s.pane p).state = .retiring → (s.pane p).held = none

theorem RetiringUnheld.of_panes {s t : State} (unheld : RetiringUnheld s) (same : ∀ p, t.pane p = s.pane p) :
    RetiringUnheld t := fun p state => by rw [same] at state ⊢; exact unheld p state

namespace Booked
variable {g : HostNo} {n m : Nat} {s t : State}

theorem boundaryPane (booked : Booked g n s) (unheld : RetiringUnheld s) (frame : Half) (p : PaneNo) :
    Booked g n (boundaryPane frame p s) ∧ RetiringUnheld (boundaryPane frame p s) := by
  have changed (q : Pane) (count : (s.pane p).waiting g = q.waiting g) (state : q.state ≠ .retiring) :
      Booked g n (s.setPane p q) ∧ RetiringUnheld (s.setPane p q) := by
    refine ⟨booked.setPane p q (by rw [count]), fun r retiring => ?_⟩
    by_cases same : p = r
    · subst same
      exact absurd (by simpa using retiring) state
    · exact unheld r (by simpa [same] using retiring) ▸ by simp [same]
  have told (hs : List HostNo) (e : Event) {u : State} (both : Booked g n u ∧ RetiringUnheld u) :
      Booked g n (postTo hs e u) ∧ RetiringUnheld (postTo hs e u) :=
    ⟨both.1.of_same (by simp) (by simp) (by simp) (by simp) (by simp) (by simp), both.2.of_panes (by simp)⟩
  unfold Machine.boundaryPane
  dsimp only
  split
  · next retiring => exact changed _ (by simp [Pane.waiting, Pane.free, unheld p retiring]) (by simp [Pane.free])
  · exact told _ _ (changed _ rfl (by simp [committedPane]))
  · exact told _ _ (changed _ rfl (by simp [committedPane]))
  · exact ⟨booked, unheld⟩

theorem frameBoundary (booked : Booked g n s) (unheld : RetiringUnheld s) (frame : Half) :
    Booked g n (frameBoundary frame s) := by
  have numbered : Booked g n (s.setScan { s.scan with frame := frame, cursorFrame := frame }) :=
    booked.of_same rfl rfl rfl (fun _ => rfl) (fun _ => rfl) rfl
  exact (forEach_induct (fun t => Booked g n t ∧ RetiringUnheld t) _ (fun p t ⟨still, free⟩ => still.boundaryPane free frame p) _
    _ ⟨numbered, unheld⟩).1.refillBudgets

theorem startLatchAs (booked : Booked g n s) (unheld : RetiringUnheld s) (frame : Half) : Booked g n (startLatchAs frame s) := by
  unfold Machine.startLatchAs
  dsimp only
  split
  · split
    · exact (booked.frameBoundary unheld frame).setScan _
    · exact booked.setScan _
  · exact booked

theorem startLatch (booked : Booked g n s) (unheld : RetiringUnheld s) : Booked g n (startLatch s) :=
  booked.startLatchAs unheld _

theorem releaseAndStart (booked : Booked g n s) (unheld : RetiringUnheld s) : Booked g n (releaseAndStart s) := by
  have counted : Booked g n (s.setChoices (s.choices + 1)) := booked.of_same rfl rfl rfl (fun _ => rfl) (fun _ => rfl) rfl
  unfold Machine.releaseAndStart
  dsimp only
  split
  · split
    · exact counted.releaseParked.startLatch (unheld.of_panes (by simp))
    · exact (counted.startLatch unheld).releaseParked
  · exact booked.releaseParked.startLatch (unheld.of_panes (by simp))

theorem gatherSegment (booked : Booked g n s) (unheld : RetiringUnheld s) (cells : List Cell) :
    Booked g n (gatherSegment cells s) := by
  unfold Machine.gatherSegment
  split
  · exact booked
  · dsimp only
    split
    · exact booked.setScan _
    · exact ((booked.setScan _).setArbiter _).releaseAndStart unheld

/-! ### Line marks (R51, R59, R62) -/

theorem underrun (booked : Booked g n s) (unheld : RetiringUnheld s) (k : Nat) : Booked g n (underrun k s) := by
  unfold Machine.underrun
  dsimp only
  generalize markPackets s.scan.emission k false true (backdropLine s) = packets
  generalize faultReport .underrun none none (some k) (emit packets s).scan.emission = r
  have told : Booked g n (Machine.reportFault r (emit packets s)) :=
    (booked.of_same (t := emit packets s) (by simp) (by simp) (by simp) (by simp) (by simp) (by simp)).reportFault r
  have none : RetiringUnheld (Machine.reportFault r (emit packets s)) := unheld.of_panes (by simp)
  split
  · exact (((told.setScan _).setArbiter _).setScan _).releaseAndStart none
  · exact (told.setScan _).startLatch none

theorem visibleMark (booked : Booked g n s) (unheld : RetiringUnheld s) (k : Nat) : Booked g n (visibleMark k s) := by
  unfold Machine.visibleMark
  split
  · split
    · next e rest _ _ =>
      have sent : Booked g n (emit (markPackets s.scan.emission k e.torn false e.cells) s) := by
        unfold emit
        split
        · exact booked.setScan _
        · exact booked
      exact ((sent.setScan _).setArbiter _).startLatch (unheld.of_panes (by simp))
    · exact booked.underrun unheld k
  · exact booked.underrun unheld k

/-! ### The Panel Channel (R147, R148, R151) -/

theorem panelStarted_waiting (s : State) (x : Panel) (g : HostNo) : (s.panelStarted x).waiting g = x.waiting g := by
  unfold State.panelStarted
  split
  · next t rest none head =>
    split
    · by_cases own : t.host = g <;> simp [Panel.waiting, none, head, own]
    · rfl
  · rfl

theorem startTransfer (booked : Booked g n s) : Booked g n (startTransfer s) := by
  rw [startTransfer_eq]
  exact booked.setPanel _ (by rw [panelStarted_waiting])

theorem reportUnnoted (booked : Booked g n s) (r : FaultRecord) : Booked g n (reportUnnoted r s) :=
  booked.of_same (by simp) (by simp) (by simp) (by simp) (by simp) (by simp)

/-- The end of a transfer answers it unless it carries the discard mark (R148, R151). -/
theorem endTransfer (booked : Booked g n s) (status : Status) : Booked g n (endTransfer status s) := by
  unfold Machine.endTransfer
  split
  · exact booked
  · next f flying =>
    dsimp only
    refine startTransfer ?_
    have answered : Booked g n (if f.discard = true then s.setPanel { s.panel with inFlight := none, timer := none }
        else Machine.reply f.transfer.host .panelSend f.transfer.tag status (.panel f.transfer.address f.attempts)
          (s.setPanel { s.panel with inFlight := none, timer := none })) := by
      split
      · next discarded => exact booked.setPanel _ (by simp [Panel.waiting, flying, discarded])
      · next kept =>
        refine (booked.setPanel (m := n + dueTo f.transfer.host g 1) _ ?_).reply ..
        by_cases own : f.transfer.host = g
        · simp [Panel.waiting, flying, kept, dueTo, own]
          omega
        · simp [Panel.waiting, flying, dueTo, own]
    generalize (if f.discard = true then _ else _) = u at answered
    split
    · split
      · exact answered.reportUnnoted _
      · exact answered.reportFault _
    · exact answered

/-- The transfer in flight comes to another phase. -/
theorem setPhase (booked : Booked g n s) {f k : InFlight} {x : Panel} (flying : s.panel.inFlight = some f)
    (fifo : x.fifo = s.panel.fifo) (next : x.inFlight = some k) (transfer : k.transfer = f.transfer)
    (discard : k.discard = f.discard) : Booked g n (s.setPanel x) :=
  booked.setPanel x (by simp only [Panel.waiting, flying, fifo, next, Option.toList_some, List.filter_cons, transfer, discard]; split <;> rfl)

theorem retryOrEnd (booked : Booked g n s) (status : Status) : Booked g n (retryOrEnd status s) := by
  unfold Machine.retryOrEnd
  split
  · exact booked
  · next f flying =>
    split
    · exact booked.setPhase flying rfl rfl rfl rfl
    · exact booked.endTransfer status

theorem panelSendEnd (booked : Booked g n s) : Booked g n (panelSendEnd s) := by
  unfold Machine.panelSendEnd
  split
  · next f flying =>
    split
    · exact booked.setPhase flying rfl rfl rfl rfl
    · exact booked
  · exact booked

theorem panelAck (booked : Booked g n s) : Booked g n (panelAck s) := by
  unfold Machine.panelAck
  split
  · exact booked.endTransfer .ok
  · exact booked

theorem panelNak (booked : Booked g n s) : Booked g n (panelNak s) := by
  unfold Machine.panelNak
  split
  · exact booked.retryOrEnd .panelNak
  · exact booked

theorem replyTimerExpiry (booked : Booked g n s) : Booked g n (replyTimerExpiry s) := by
  unfold Machine.replyTimerExpiry
  split
  · exact booked.retryOrEnd .panelTimeout
  · exact booked

theorem linkUp (booked : Booked g n s) : Booked g n (linkUp s) := by
  unfold Machine.linkUp
  split
  · exact booked
  · exact (booked.setScan _).startTransfer

theorem linkDown (booked : Booked g n s) : Booked g n (linkDown s) := by
  unfold Machine.linkDown
  split
  · exact booked
  · exact (booked.setScan _).endTransfer .linkDown

theorem takePanelSend {h : HostNo} (booked : Booked g (n + dueTo h g 1) s) (tag address synced : Byte) (data : List Byte) :
    Booked g n (takePanelSend h tag address synced data s) := by
  unfold Machine.takePanelSend
  split
  · refine (booked.setPanel _ ?_).startTransfer
    by_cases own : h = g
    · simp [Panel.waiting, dueTo, own]
      omega
    · simp [Panel.waiting, dueTo, own]
  · exact booked.reply ..

/-! ### Line marks and completions (R51, R56, R63, R76) -/

theorem announceBlanking (booked : Booked g n s) (first : Bool) (k : Nat) : Booked g n (announceBlanking first k s) := by
  unfold Machine.announceBlanking
  (repeat' split)
  · exact (booked.setPanel { s.panel with blanking := true } rfl).startTransfer
  · exact booked.setPanel { s.panel with blanking := false } rfl
  · exact booked

theorem lineMark (booked : Booked g n s) (unheld : RetiringUnheld s) : Booked g n (lineMark s) := by
  unfold Machine.lineMark
  split
  · refine settle ?_
    unfold markWork
    dsimp only
    generalize s.scan.mark.isNone = first
    generalize nextMark s = k
    have marked := (booked.setScan _ : Booked g n (advanceMark s)).announceBlanking first k
    split
    · exact marked.visibleMark (unheld.of_panes (by simp)) k
    · exact marked
  · exact booked

theorem segmentReadComplete (booked : Booked g n s) (unheld : RetiringUnheld s) : Booked g n (segmentReadComplete s) := by
  have free : Booked g n (freeStore s) := booked.setArbiter _
  unfold Machine.segmentReadComplete
  split
  · split
    · exact (free.gatherSegment unheld _).settle
    · exact free.settle
  · exact booked

theorem writeAccessComplete (booked : Booked g n s) : Booked g n (writeAccessComplete s) := by
  unfold Machine.writeAccessComplete
  split
  · next live h bank line first cells restart _ =>
    have stored : Booked g n (restartLatch restart (storeCells bank line first cells (freeStore s))) :=
      booked.of_same (by simp) (by simp) (by simp) (by simp) (by simp) (by simp)
    split
    · exact (stored.writeDone h _).settle
    · exact stored.settle
  · exact booked

theorem readAccessComplete (booked : Booked g n s) : Booked g n (readAccessComplete s) := by
  have free : Booked g n (freeStore s) := booked.setArbiter _
  unfold Machine.readAccessComplete
  split
  · split
    · exact (free.readDone _ _).settle
    · exact free.settle
  · exact booked

end Booked
end Sys2Proof.Machine
end

section
/-! Slots in use are those of the requests that wait, over requests, departures and every other command (R116 to R118, R127,
R128): settles O57. -/
namespace Sys2Proof.Machine

/-! ## Operations that end (R86, R87) -/

/-- A stopping event answers what leaves the lane. -/
theorem waiting_stopped (s : State) (h : HostNo) (test : CellOp → Bool) (status : Status)
    (delayed : ∀ v, (s.lane h).service = some v → v.delayed ≠ [] → v.access = .inProgress) :
    (⟨(s.lane h).service.bind (stoppedService test status), (s.lane h).queued.filter fun op => !test op⟩ : Lane).waiting
      + (stoppedResponses s h test status).length = (s.lane h).waiting := by
  have queue := (s.lane h).queued.length_eq_length_filter_add test
  simp only [Lane.waiting, stoppedResponses, List.length_append, List.length_map]
  cases service : (s.lane h).service with
  | none =>
    simp
    omega
  | some v =>
    by_cases named : test v.op = true
    · by_cases busy : v.access = .inProgress
      · simp [stoppedService, Service.stopsAtOnce, named, busy]
        omega
      · have none : v.delayed = [] := by
          by_contra waits
          exact busy (delayed v service waits)
        simp [stoppedService, Service.stopsAtOnce, named, busy, none]
        omega
    · simp [stoppedService, named]
      omega

/-- An operation in service that a stopping event leaves waits for its access, and carries the status it ends with. -/
theorem stoppedService_delayed {test : CellOp → Bool} {status : Status} {v w : Service}
    (left : stoppedService test status v = some w) :
    w.delayed = v.delayed ∧ w.access = v.access ∧ (v.stop.isSome = true → w.stop.isSome = true) ∧
      (test v.op = true → w.access = .inProgress ∧ w.stop = some status) := by
  unfold stoppedService at left
  (repeat' split at left)
  · cases left
  · next named busy =>
    obtain rfl := Option.some.inj left
    exact ⟨rfl, rfl, fun _ => rfl, fun _ => ⟨by simpa [Service.stopsAtOnce] using busy, rfl⟩⟩
  · next named =>
    obtain rfl := Option.some.inj left
    exact ⟨rfl, rfl, id, fun on => absurd on named⟩

namespace Booked
variable {g : HostNo} {n m : Nat} {s t : State}

/-- What a stopping event leaves of the lane waits as before. -/
theorem stopped_delayed (booked : Booked g n s) (test : CellOp → Bool) (status : Status) (w : Service)
    (left : (s.lane g).service.bind (stoppedService test status) = some w) (waits : w.delayed ≠ []) :
    w.access = .inProgress ∧ w.stop.isSome = true := by
  obtain ⟨v, service, left⟩ := Option.bind_eq_some_iff.1 left
  obtain ⟨delayed, access, stop, -⟩ := stoppedService_delayed left
  obtain ⟨busy, stopping⟩ := booked.delayed v service (delayed ▸ waits)
  exact ⟨access.trans busy, stop stopping⟩

theorem stopOps (booked : Booked g n s) (h : HostNo) (test : CellOp → Bool) (parked : Parked → Bool) (status : Status) :
    Booked g (n + dueTo h g (stoppedResponses s h test status).length) (stopOps h test parked status s) := by
  refine (booked.setLane h _ ?_ fun own w left => ?_).of_same rfl rfl rfl (fun _ => rfl) (fun _ => rfl) rfl
  · by_cases own : h = g
    · subst own
      have count := waiting_stopped s h test status fun v service waits => (booked.delayed v service waits).1
      simp only [dueTo, if_true]
      omega
    · simp [dueTo, own]
  · subst own
    exact booked.stopped_delayed test status w left

theorem takeStages (booked : Booked g n s) (panes : List PaneNo) : Booked g n (Machine.forEach panes Machine.takeStageIfIdle s) :=
  forEach (fun p _ still => still.takeStageIfIdle p) panes booked

theorem endWork (booked : Booked g n s) (panes : List PaneNo) (status : Status) (h : HostNo) :
    Booked g n (endWork panes status h s) :=
  ((booked.stopOps h _ _ status).answerAll _).takeStages panes

theorem postEvent (booked : Booked g n s) (h : HostNo) (e : Event) : Booked g n (postEvent h e s) :=
  booked.of_same (by simp) (by simp) (by simp) (by simp) (by simp) (by simp)

theorem postTo (booked : Booked g n s) (hs : List HostNo) (e : Event) : Booked g n (postTo hs e s) :=
  booked.of_same (by simp) (by simp) (by simp) (by simp) (by simp) (by simp)

/-- The record of a host counts nothing. -/
theorem setHost (booked : Booked g n s) (h : HostNo) (r : HostRecord) : Booked g n (s.setHost h r) :=
  booked.of_same rfl rfl rfl (fun _ => rfl) (fun _ => rfl) rfl

theorem setConf (booked : Booked g n s) (c : ConfigBlock) : Booked g n (s.setConf c) :=
  booked.of_same rfl rfl rfl (fun _ => rfl) (fun _ => rfl) rfl

theorem loadLease (booked : Booked g n s) (h : HostNo) : Booked g n (loadLease h s) :=
  booked.of_same (by simp) (by simp) (by simp) (by simp) (by simp) (by simp)

/-! ### The vote (R157, R159) -/

theorem partReset (g : HostNo) (cause : Cause) (s : State) : Booked g 0 (partReset cause s) := by
  have panel : (Machine.partReset cause s).panel = .reset := rfl
  constructor <;> simp [holdings, Port.reset, Pane.free, panel, Panel.reset]

theorem judgeVote (booked : Booked g 0 s) : Booked g 0 (judgeVote s) := by
  rcases judgeVote_cases s with same | closed | reset
  · rwa [same]
  · rw [closed]; exact booked.setConf _
  · rw [reset]; exact partReset g .vote s

/-! ### Pane requests (R16 to R24, R30, R32, R35) -/

section
variable {h : HostNo} (booked : Booked g (n + dueTo h g 1) s)
include booked

/-- The request that held a slot is now held on a pane of its host. -/
theorem hold (p : PaneNo) (q : Pane) (r : Held) (before : (s.pane p).held = none) (owner : q.owner = some h)
    (held : q.held = some r) : Booked g n (s.setPane p q) :=
  booked.setPane p q (by rw [waiting_unheld before, waiting_of_held owner held]; rfl)

/-- The record of a pane that holds nothing, before and after. -/
theorem setUnheld (p : PaneNo) (q : Pane) (before : (s.pane p).held = none) (after : q.held = none) :
    Booked g (n + dueTo h g 1) (s.setPane p q) :=
  booked.setPane p q (by rw [waiting_unheld before, waiting_unheld after])

theorem takePaneClaim (fields : ∀ p, (s.pane p).fieldsOk) (tag : Byte) (rect : Rect) (buffering policy display : Byte) :
    Booked g n (takePaneClaim h tag rect buffering policy display s) := by
  unfold Machine.takePaneClaim
  (repeat' split)
  case h_3.isFalse.isFalse p m lowest _ _ _ =>
    have free : (s.pane p).state = .free := by simpa using List.find?_some lowest
    have unheld : (s.pane p).held = none := by
      by_contra held
      have := owned_of_held (fields p) (Option.isSome_iff_ne_none.2 held)
      simp [free] at this
    exact (booked.setUnheld p _ unheld rfl).reply ..
  all_goals exact booked.reply ..

/-- A request that names a pane is answered or taken on a pane that passes its checks (R15). -/
theorem withPane (k : Kind) (tag sel : Byte) (checks : PaneNo → List (Bool × Status)) (take : PaneNo → State → State)
    (taken : ∀ p, firstFailing (checks p) = none → Booked g n (take p s)) :
    Booked g n (withPane h k tag sel checks take s) := by
  rcases withPane_cases h k tag sel checks take s with ⟨status, answered⟩ | ⟨p, -, passes, taking⟩
  · rw [answered]; exact booked.reply ..
  · rw [taking]; exact taken p passes

theorem takePaneStage (tag sel : Byte) (arg : Half) (rect : Rect) : Booked g n (takePaneStage h tag sel arg rect s) := by
  refine booked.withPane _ _ _ _ _ fun p passes => ?_
  obtain ⟨owner, -, checks⟩ := ownerChecks_pass _ _ _ passes
  have unheld : (s.pane p).held = none := by simpa using checks ((s.pane p).held.isSome, .paneBusy) (by simp)
  unfold stagePane
  split
  · exact booked.hold p _ _ unheld owner rfl
  · exact (booked.setUnheld p { s.pane p with staged := (stageArgOf arg rect).getD none } unheld unheld).reply ..

theorem takePaneCommit (tag sel : Byte) : Booked g n (takePaneCommit h tag sel s) := by
  refine booked.withPane _ _ _ _ _ fun p passes => ?_
  obtain ⟨owner, -, checks⟩ := ownerChecks_pass _ _ _ passes
  have unheld : (s.pane p).held = none := by simpa using checks ((s.pane p).held.isSome, .paneBusy) (by simp)
  unfold commitPane
  split
  · exact booked.takeCommit h p tag (by rw [waiting_unheld unheld]; rfl)
  · exact booked.hold p _ _ unheld owner rfl

theorem takePaneAdopt (fields : ∀ p, (s.pane p).fieldsOk) (tag sel : Byte) : Booked g n (takePaneAdopt h tag sel s) := by
  refine booked.withPane _ _ _ _ _ fun p passes => ?_
  have orphaned : (s.pane p).state = .orphaned := by
    simpa using firstFailing_none _ passes _ (List.mem_singleton.2 rfl)
  have unheld : (s.pane p).held = none := by
    by_contra held
    have := owned_of_held (fields p) (Option.isSome_iff_ne_none.2 held)
    simp [orphaned] at this
  exact (booked.setUnheld p _ unheld rfl).reply ..

theorem takePaneQuery (tag sel : Byte) : Booked g n (takePaneQuery h tag sel s) :=
  booked.withPane _ _ _ _ _ fun _ _ => booked.reply ..

theorem takePaneGuest (tag sel : Byte) (arg : Half) : Booked g n (takePaneGuest h tag sel arg s) := by
  refine booked.withPane _ _ _ _ _ fun p _ => ?_
  unfold guestPane
  split
  · exact booked.reply ..
  · have changed := booked.setPane (m := n + dueTo h g 1) p
      { s.pane p with guest := (guestArgOf arg).getD none } (by simp [Pane.waiting])
    have revoked (reason : RevokeReason) := forEach (f := revokeGuest p h reason)
      (fun k _ still => (still.endWork [p] .revoked k).postEvent k _) (s.pane p).guest.toList changed
    exact (((revoked _).postTo _ _).reply ..).settle

theorem takePaneRelease (tag sel : Byte) : Booked g n (takePaneRelease h tag sel s) := by
  refine booked.withPane _ _ _ _ _ fun p passes => ?_
  obtain ⟨owner, -, -⟩ := ownerChecks_pass _ _ _ passes
  have due : (s.pane p).waiting g = dueTo h g ((s.pane p).held.toList.map cancelledHeld).length := by
    cases held : (s.pane p).held with
    | none => simp [waiting_unheld held, dueTo]
    | some r => simp [waiting_of_held owner held]
  have owned : Booked g (n + dueTo h g 1) (releaseOwned h p s) :=
    ((due ▸ booked.unhold p (releasedPane (s.pane p)) (releasedPane_held _)).answerAll _).endWork [p] .cancelled h
  rw [releasePane_eq]
  exact (((forEach (fun k _ still => still.endWork [p] .cancelled k) _ owned).postTo _ _).reply ..).settle

/-! ### The other requests -/

theorem joinLane (op : CellOp) : Booked g n (joinLane h op s) := by
  unfold Machine.joinLane
  split
  · refine (booked.setLane h _ ?_ fun own v service => ?_).settle
    · simp only [dueTo, Lane.waiting, List.length_append, List.length_singleton]
      split <;> omega
    · subst own
      exact booked.delayed v service
  · exact booked.reply ..

theorem takeConfigSet (tag field : Byte) (value : Half) (cell : Option RawCell) :
    Booked g n (takeConfigSet h tag field value cell s) := by
  unfold Machine.takeConfigSet
  (repeat' split)
  case h_2 => exact ((booked.setConf _).setArbiter _).reply ..
  all_goals exact booked.reply ..

theorem takeConfigGet (tag field : Byte) : Booked g n (takeConfigGet h tag field s) := by
  unfold Machine.takeConfigGet
  split <;> exact booked.reply ..

theorem takeStart (fields : RetiringUnheld s) (tag : Byte) : Booked g n (takeStart h tag s) := by
  unfold Machine.takeStart
  split
  · exact booked.reply ..
  · split
    · exact booked.reply ..
    · have running : Booked g (n + dueTo h g 1) (refreshUrgency (startScan (Machine.forEach allHosts loadIfActive
          (Machine.forEach allHosts copyHostFields
            (s.setConf { s.conf with part := .run, vote := .idle, window := 0 }))))) :=
        booked.of_same (by simp) (by simp) (by simp) (by simp) (by simp) (by simp)
      exact ((running.startLatchAs (fields.of_panes (by simp)) 0).reply ..).settle

theorem takeFaultRead (tag sel : Byte) : Booked g n (takeFaultRead h tag sel s) := by
  unfold Machine.takeFaultRead
  (repeat' split) <;> exact booked.reply ..

theorem setFaults (f : FaultLog) : Booked g (n + dueTo h g 1) (s.setFaults f) :=
  booked.of_same rfl rfl rfl (fun _ => rfl) (fun _ => rfl) rfl

theorem takeFaultClearOverflow (tag : Byte) : Booked g n (takeFaultClearOverflow h tag s) :=
  ((booked.setHost h _).setFaults _).reply ..

theorem takeFaultClear (tag sel : Byte) : Booked g n (takeFaultClear h tag sel s) := by
  unfold Machine.takeFaultClear clearSlot
  (repeat' split)
  case isTrue => exact booked.takeFaultClearOverflow tag
  case h_2.isFalse => exact (booked.setFaults _).reply ..
  all_goals exact booked.reply ..

theorem takeEventFetch (tag : Byte) : Booked g n (takeEventFetch h tag s) := by
  have fetched (q : EventQueue) : Booked g (n + dueTo h g 1) (refreshAttention h (s.setQueue h q)) :=
    booked.of_same (by simp) (by simp) (by simp) (by simp) (by simp) (by simp)
  exact (fetched _).reply ..

theorem takeAttach (tag : Byte) : Booked g n (takeAttach h tag s) := by
  have attached : Booked g (n + dueTo h g 1) (clearSeen h (Machine.loadLease h (attachHost h s))) :=
    booked.of_same (by simp) (by simp) (by simp) (by simp) (by simp) (by simp)
  exact attached.reply ..

theorem takeStatus (tag : Byte) : Booked g n (takeStatus h tag s) := by
  have loaded : Booked g (n + dueTo h g 1) (loadIfActive h s) :=
    booked.of_same (by simp) (by simp) (by simp) (by simp) (by simp) (by simp)
  exact loaded.reply ..

end

theorem takeResetVote {h : HostNo} (booked : Booked g (0 + dueTo h g 1) s) (tag : Byte) :
    Booked g 0 (takeResetVote h tag s) := by
  unfold Machine.takeResetVote
  split
  · have opened : Booked g (0 + dueTo h g 1) (if s.conf.vote = .idle then openVote h s else s) := by
      split
      · exact (booked.setConf _).postTo _ _
      · exact booked
    exact judgeVote ((opened.setHost h _).reply ..)
  · exact booked.reply ..

end Booked
end Sys2Proof.Machine
end

section
/-! Slots in use are those of the requests that wait, over departures, exchanges and every command (R116 to R118, R122, R127,
R128, R133, R151): settles O57. -/
namespace Sys2Proof.Machine

/-! ## Panes of a departing owner -/

theorem panesWaiting_eq (s : State) (g : HostNo) : panesWaiting s g = (allPanes.map fun p => (s.pane p).waiting g).sum := by
  unfold panesWaiting
  induction allPanes with
  | nil => rfl
  | cons p panes ih =>
    rw [List.filter_cons, List.map_cons, List.sum_cons, ← ih]
    simp only [Pane.waiting, Bool.and_eq_true, decide_eq_true_eq]
    split
    · rw [List.length_cons, Nat.add_comm]
    · rw [Nat.zero_add]

/-- The panes a departing owner leaves hold nothing of its own, and those of others what they held. -/
theorem leftPane_waiting (h g : HostNo) (kind : Departure) (q : Pane) (fields : q.fieldsOk) :
    (leftPane h kind q).waiting g = if h = g then 0 else q.waiting g := by
  have record : (leftPane h kind q).waiting g = (departedPane h kind q).waiting g := rfl
  rw [record]
  rcases departedPane_cases h kind q with ⟨same, others⟩ | ⟨freed, owner, -⟩ | ⟨left, owner, -⟩
  · rw [same]
    split
    · next own =>
      subst own
      refine if_neg fun ⟨owner, held⟩ => others ⟨owner, owned_of_held fields held⟩
    · rfl
  · rw [freed]
    split
    · rfl
    · next other => simp [Pane.waiting, Pane.free, owner, other]
  · rcases left with left | left <;> rw [left] <;> split
    · exact Booked.waiting_unheld rfl g
    · next other => simp [Pane.waiting, retiringPane, owner, other]
    · exact Booked.waiting_unheld rfl g
    · next other => simp [Pane.waiting, orphanedPane, owner, other]

theorem length_cancelledHeldOf (s : State) (h : HostNo) : (cancelledHeldOf s h).length = panesWaiting s h := by
  rw [panesWaiting_eq, cancelledHeldOf, List.length_flatMap]
  congr 2
  funext p
  by_cases owner : (s.pane p).owner = some h <;> cases held : (s.pane p).held <;> simp [Pane.waiting, owner, held]

/-! ## The answers of a DETACH -/

theorem length_interleave {α : Type} (pick : Nat → Bool) (fuel : Nat) (l m : List α) :
    (interleave pick fuel l m).length = l.length + m.length := by
  induction fuel generalizing l m with
  | zero => simp [interleave]
  | succ n ih =>
    match l, m with
    | [], m => simp [interleave]
    | a :: l, [] => simp [interleave]
    | a :: l, b :: m =>
      rw [interleave]
      split <;> simp only [List.length_cons, ih] <;> omega

theorem length_detachAnswers (n : Nat) (panes cells panel : List Response) :
    (detachAnswers n panes cells panel).length = panes.length + cells.length + panel.length := by
  simp [detachAnswers, length_interleave]

theorem dueTo_add (h g : HostNo) (a b : Nat) : dueTo h g (a + b) = dueTo h g a + dueTo h g b := by
  simp only [dueTo]
  split <;> rfl

namespace Booked
variable {g : HostNo} {n m : Nat} {s t : State}

/-- Operations that end with their answers, as `WorkLeft` says. -/
theorem workLeft (booked : Booked g n s) {panes : List PaneNo} {status : Status} {events : List Event}
    (left : WorkLeft g panes status events s t) (panel : t.panel = s.panel)
    (count : panesWaiting t g + m = panesWaiting s g + n) : Booked g m t := by
  have stopped := waiting_stopped s g (·.onSome panes) status fun v service waits => (booked.delayed v service waits).1
  have ⟨slots, ceiling, _⟩ := booked
  have before := holdings_eq s g
  have after := holdings_eq t g
  rw [left.lane, panel] at after
  refine ⟨?_, ?_, fun w service waits => booked.stopped_delayed _ _ w (by rw [← service, left.lane]) waits⟩
  · rw [left.slots]
    omega
  · rw [left.slots, left.responses, List.length_append]
    omega

/-- The Pane Manager's share of a departure: the departing host's held requests are to be answered or are forgotten. -/
theorem departPanes (booked : Booked g n s) (h : HostNo) (kind : Departure) (fields : ∀ p, (s.pane p).fieldsOk) :
    Booked g (n + dueTo h g (cancelledHeldOf s h).length) (departPanes h kind s) := by
  have departed := departPanes_departed h kind s
  refine booked.workLeft (departed.guest g) (by simp) ?_
  rw [length_cancelledHeldOf, panesWaiting_eq (Machine.departPanes h kind s)]
  simp only [departed.pane, leftPane_waiting h g kind _ (fields _)]
  by_cases own : h = g
  · subst own
    simp [dueTo]
    omega
  · simp only [own, if_false, ← panesWaiting_eq, dueTo]
    omega

theorem takeIdleStages (booked : Booked g n s) : Booked g n (takeIdleStages s) := booked.takeStages _

theorem dropTransfers (booked : Booked g n s) (h : HostNo) :
    Booked g (n + dueTo h g (cancelledTransfers s h).length) (dropTransfers h s) := by
  refine booked.setPanel _ ?_
  rw [Panel.waiting, Panel.waiting, cancelledTransfers, List.length_map, List.filter_filter]
  by_cases own : h = g
  · subst own
    have none : s.panel.fifo.filter (fun t => decide (t.host = h) && decide (t.host ≠ h)) = [] := by simp
    simp only [none, dueTo, if_true, List.length_nil]
    omega
  · have kept : s.panel.fifo.filter (fun t => decide (t.host = g) && decide (t.host ≠ h)) =
        s.panel.fifo.filter fun t => t.host = g := by
      refine List.filter_congr fun t _ => ?_
      by_cases mine : t.host = g <;> simp [mine, Ne.symm own]
    simp only [kept, dueTo, if_neg own, Nat.add_zero]

/-- The response to DETACH is placed, or waits for the operation in service. -/
theorem placeDetach {h : HostNo} (booked : Booked g (n + dueTo h g 1) s) (r : Response)
    (busy : ∀ v, (s.lane h).service = some v → v.access = .inProgress ∧ v.stop.isSome = true) :
    Booked g n (placeDetach h r s) := by
  unfold Machine.placeDetach
  split
  · next v service =>
    refine booked.setLane h _ ?_ fun own w held => ?_
    · simp only [dueTo, Lane.waiting, service, Option.toList_some, List.flatMap_cons, List.flatMap_nil, List.append_nil,
        List.length_append, List.length_singleton]
      split <;> omega
    · obtain rfl := Option.some.inj held
      exact fun _ => busy v service
  · exact booked.answer r

theorem takeDetach {h : HostNo} (booked : Booked g (0 + dueTo h g 1) s) (fields : ∀ p, (s.pane p).fieldsOk)
    (tag mode : Byte) : Booked g 0 (takeDetach h tag mode s) := by
  unfold Machine.takeDetach
  split
  · exact booked.reply ..
  · next m _ =>
    have held : cancelledHeldOf (leaveActive h .absent s) h = cancelledHeldOf s h := by simp [cancelledHeldOf]
    have departed := (booked.setHost h _).departPanes (s := leaveActive h .absent s) h (.detach m) (by simpa using fields)
    rw [held] at departed
    unfold detachHost
    dsimp only
    generalize cancelledHeldOf s h = held at departed ⊢
    generalize detachResponse s h tag m = own
    generalize Machine.departPanes h (.detach m) (leaveActive h .absent s) = u at departed ⊢
    have stopped := (departed.stopOps h (fun _ => true) (fun _ => true) .cancelled).dropTransfers h
    have transfers : cancelledTransfers (Machine.stopOps h (fun _ => true) (fun _ => true) .cancelled u) h =
      cancelledTransfers u h := rfl
    rw [transfers] at stopped
    have lane : ∀ v, ((Machine.stopOps h (fun _ => true) (fun _ => true) .cancelled u).lane h).service = some v →
        v.access = .inProgress ∧ v.stop.isSome = true := fun v service => by
      rw [stopOps_lane, if_pos rfl] at service
      obtain ⟨w, -, left⟩ := Option.bind_eq_some_iff.1 service
      obtain ⟨-, -, -, busy⟩ := stoppedService_delayed left
      exact ⟨(busy rfl).1, by simp [(busy rfl).2]⟩
    generalize stoppedResponses u h (fun _ => true) .cancelled = ops at stopped ⊢
    generalize cancelledTransfers u h = queued at stopped ⊢
    generalize Machine.stopOps h (fun _ => true) (fun _ => true) .cancelled u = w at stopped lane ⊢
    have answered : Booked g (0 + dueTo h g 1) (Machine.answerAll h
        (detachAnswers (Machine.dropTransfers h w).choices held ops queued)
        ((Machine.dropTransfers h w).setChoices ((Machine.dropTransfers h w).choices + 2))) := by
      refine answerAll _ ?_
      rw [length_detachAnswers, dueTo_add, dueTo_add, ← Nat.add_assoc, ← Nat.add_assoc]
      exact stopped.of_same rfl rfl rfl (fun _ => rfl) (fun _ => rfl) rfl
    exact ((answered.takeIdleStages.placeDetach own (by simpa using lane)).startTransfer.judgeVote).settle

end Booked

/-! ## Lapse and abrupt departure (R118, R133) -/

/-- Nothing of host `g` waits but for panel transfers, and no response of it stands. -/
structure Emptied (g : HostNo) (s : State) : Prop where
  slots : (s.port g).slots = 0
  responses : (s.port g).responses = []
  lane : s.lane g = ⟨none, []⟩
  panes : ∀ p, (s.pane p).waiting g = 0

namespace Emptied
variable {g : HostNo} {s : State}

theorem answer_other {h : HostNo} (emptied : Emptied g s) (other : h ≠ g) (r : Response) : Emptied g (answer h r s) :=
  ⟨by simp [answer_port, other, emptied.slots], by simp [answer_port, other, emptied.responses], by simp [emptied.lane],
    by simpa using emptied.panes⟩

theorem unhold (emptied : Emptied g s) (p : PaneNo) (q : Pane) (held : q.held = none) : Emptied g (s.setPane p q) := by
  refine ⟨emptied.slots, emptied.responses, emptied.lane, fun r => ?_⟩
  by_cases same : p = r
  · subst same
    rw [State.pane_setPane_same, Booked.waiting_unheld held]
  · rw [State.pane_setPane_ne _ _ _ _ same]
    exact emptied.panes r

theorem takeStageIfIdle (emptied : Emptied g s) (p : PaneNo) : Emptied g (takeStageIfIdle p s) := by
  unfold Machine.takeStageIfIdle
  split
  · next tag rect h held owner =>
    have other : h ≠ g := fun own => by
      have := emptied.panes p
      simp [Booked.waiting_of_held owner held, dueTo, own] at this
    unfold takeHeldStage
    (repeat' split)
    · exact emptied
    · exact (emptied.unhold p _ rfl).answer_other other _
    · exact (emptied.unhold p _ rfl).answer_other other _
  · exact emptied

/-- Without panel transfers nothing waits. -/
theorem booked (emptied : Emptied g s) (panel : s.panel.waiting g = 0) : Booked g 0 s := by
  have panes : panesWaiting s g = 0 := by simp [panesWaiting_eq, emptied.panes]
  refine ⟨?_, by simp [emptied.slots, emptied.responses], fun v service => by simp [emptied.lane] at service⟩
  rw [emptied.slots, holdings_eq, emptied.lane, panes, panel]
  rfl

end Emptied

/-- What a silent departure asks of the Pane Table. -/
structure PanesLawful (s : State) : Prop where
  fields : ∀ p, (s.pane p).fieldsOk
  guest : ∀ p g, (s.pane p).guest = some g → (s.pane p).owner ≠ some g

theorem PanesLawful.of_table {s : State} (table : s.paneTableOk) : PanesLawful s := by
  obtain ⟨panes, -⟩ := table
  exact ⟨fun p => (panes p).1, fun p g guest => ((panes p).2.2 g guest).2⟩

theorem PanesLawful.of_panes {s t : State} (lawful : PanesLawful s) (same : ∀ p, t.pane p = s.pane p) : PanesLawful t :=
  ⟨fun p => same p ▸ lawful.fields p, fun p g => same p ▸ lawful.guest p g⟩

theorem PanesLawful.retiringUnheld {s : State} (lawful : PanesLawful s) : RetiringUnheld s := fun p retiring => by
  by_contra held
  have := owned_of_held (lawful.fields p) (Option.isSome_iff_ne_none.2 held)
  simp [retiring] at this

/-- No host guests a pane of its own (R13). -/
theorem PanesLawful.guestPanesOf_self {s : State} (lawful : PanesLawful s) (h : HostNo) : guestPanesOf s h h = [] := by
  refine List.eq_nil_iff_forall_not_mem.2 fun p listed => ?_
  obtain ⟨owner, -, guest⟩ := (mem_guestPanesOf s h h p).1 listed
  exact lawful.guest p h guest owner

theorem clearResponses_port_other (h g : HostNo) (other : h ≠ g) (s : State) : (clearResponses h s).port g = s.port g := by
  simp [clearResponses, refreshAttention, other]

/-- The departing host's port is empty, and no other port changes (R133). -/
theorem portDeparture_cleared (h g : HostNo) (lapse : Bool) (s : State) :
    ((portDeparture h lapse s).port g).slots = (if h = g then 0 else (s.port g).slots) ∧
      ((portDeparture h lapse s).port g).responses = if h = g then [] else (s.port g).responses := by
  by_cases own : h = g
  · subst own
    simp [portDeparture, clearResponses_port]
  · simp [portDeparture, clearResponses_port_other, own]

/-- What the departing host has left once the Write Engine has dropped its operations (R104, R118, R133). -/
theorem emptied_dropOps (h : HostNo) (kind : Departure) (s : State) (lawful : PanesLawful s) (gone : s.isActive h = false) :
    Emptied h (dropOps h (departPanes h kind (clearEvents h (portDeparture h (kind = .lapse) s)))) := by
  have departed := departPanes_departed h kind (clearEvents h (portDeparture h (kind = .lapse) s))
  have left := lawful.of_panes (t := clearEvents h (portDeparture h (kind = .lapse) s)) (by simp)
  have port := departed.own (by simpa using gone) (left.guestPanesOf_self h)
  obtain ⟨slots, responses⟩ := portDeparture_cleared h h (kind = .lapse) s
  have panes := departed.pane
  generalize departPanes h kind (clearEvents h (portDeparture h (kind = .lapse) s)) = u at port panes ⊢
  refine ⟨?_, ?_, ?_, fun p => ?_⟩
  · simpa [port] using slots
  · simpa [port] using responses
  · simp [dropOps]
  · have same : (dropOps h u).pane p = u.pane p := by simp
    rw [same, panes, leftPane_waiting h h kind _ (left.fields p), if_pos rfl]

namespace Booked
variable {g : HostNo} {n m : Nat} {s t : State}

theorem dropOps_other {h : HostNo} (booked : Booked g n s) (other : h ≠ g) : Booked g n (dropOps h s) := by
  have emptied := booked.setLane (m := n) h ⟨none, []⟩ (by simp [dueTo, other]) fun own => absurd own other
  exact emptied.of_same rfl rfl rfl (fun _ => rfl) (fun _ => rfl) rfl

theorem discardInFlight_other {h : HostNo} (booked : Booked g n s) (other : h ≠ g) : Booked g n (discardInFlight h s) := by
  refine booked.setPanel _ ?_
  cases flying : s.panel.inFlight with
  | none => simp [Panel.waiting, flying]
  | some f =>
    by_cases mine : f.transfer.host = h
    · simp [Panel.waiting, flying, mine, other]
    · simp [Panel.waiting, flying, mine]

theorem silentlyLeft (booked : Booked g 0 s) (lawful : PanesLawful s) (h : HostNo) (kind : Departure)
    (gone : s.isActive h = false) : Booked g 0 (silentlyLeft h kind s) := by
  unfold Machine.silentlyLeft
  dsimp only
  refine startTransfer ?_
  by_cases own : h = g
  · subst own
    have idle : Emptied h (Machine.takeIdleStages (dropOps h (Machine.departPanes h kind
        (clearEvents h (portDeparture h (kind = .lapse) s))))) :=
      forEach_induct (Emptied h) _ (fun p _ still => still.takeStageIfIdle p) _ _ (emptied_dropOps h kind s lawful gone)
    generalize Machine.takeIdleStages _ = u at idle
    refine Emptied.booked ⟨idle.slots, idle.responses, idle.lane, idle.panes⟩ ?_
    have fifo : (Machine.dropTransfers h u).panel.fifo = u.panel.fifo.filter fun t => t.host ≠ h := rfl
    cases flying : u.panel.inFlight with
    | none => simp [Panel.waiting, discardInFlight, fifo, flying]
    | some f => by_cases mine : f.transfer.host = h <;> simp [Panel.waiting, discardInFlight, fifo, flying, mine]
  · have port : Booked g 0 (clearEvents h (portDeparture h (kind = .lapse) s)) :=
      booked.of_same (by simp [portDeparture_cleared, own]) (by simp [portDeparture_cleared, own])
        (by simp) (by simp) (by simp) (by simp)
    have panes := port.departPanes h kind (by simpa using lawful.fields)
    have transfers := fun u (still : Booked g 0 u) => still.dropTransfers h
    simp only [dueTo, if_neg own, Nat.add_zero] at panes transfers
    exact (transfers _ (panes.dropOps_other own).takeIdleStages).discardInFlight_other own

theorem departSilently (booked : Booked g 0 s) (lawful : PanesLawful s) (h : HostNo) (kind : Departure)
    (gone : s.isActive h = false) : Booked g 0 (departSilently h kind s) :=
  (booked.silentlyLeft lawful h kind gone).judgeVote.settle

/-! ## Requests at the port (R107, R126 to R128) -/

theorem hostCheck {h : HostNo} (booked : Booked g (n + dueTo h g 1) s) (k : Kind) (tag : Byte) (take : State → State)
    (taken : Booked g (n + dueTo h g 1) (Machine.loadLease h s) → Booked g n (take (Machine.loadLease h s))) :
    Booked g n (hostCheck h k tag take s) := by
  rcases hostCheck_cases h k tag take s with ⟨-, taking⟩ | ⟨status, answered⟩
  · rw [taking]; exact taken (booked.loadLease h)
  · rw [answered]; exact booked.reply ..

/-- A request that has its slot is answered, or waits. -/
theorem takeRequest {h : HostNo} {tag : Byte} (i : Instr) (source : requestSource i = some (h, tag))
    (booked : Booked g (0 + dueTo h g 1) s) (lawful : PanesLawful s) : Booked g 0 (takeRequest i s) := by
  have fields : ∀ p, ((Machine.loadLease h s).pane p).fieldsOk := by simpa using lawful.fields
  cases i <;> simp only [requestSource, reduceCtorEq, Option.some.injEq, Prod.mk.injEq] at source
  all_goals obtain ⟨rfl, rfl⟩ := source
  case attach => exact booked.takeAttach _
  case status => exact booked.takeStatus _
  case detach => exact booked.hostCheck _ _ _ fun loaded => loaded.takeDetach fields _ _
  case configSet => exact booked.hostCheck _ _ _ fun loaded => loaded.takeConfigSet _ _ _ _
  case configGet => exact booked.hostCheck _ _ _ fun loaded => loaded.takeConfigGet _ _
  case start =>
    exact booked.hostCheck _ _ _ fun loaded => loaded.takeStart (lawful.retiringUnheld.of_panes (by simp)) _
  case resetVote => exact booked.hostCheck _ _ _ fun loaded => loaded.takeResetVote _
  case paneClaim => exact booked.hostCheck _ _ _ fun loaded => loaded.takePaneClaim fields _ _ _ _ _
  case paneStage => exact booked.hostCheck _ _ _ fun loaded => loaded.takePaneStage _ _ _ _
  case paneGuest => exact booked.hostCheck _ _ _ fun loaded => loaded.takePaneGuest _ _ _
  case paneCommit => exact booked.hostCheck _ _ _ fun loaded => loaded.takePaneCommit _ _
  case paneRelease => exact booked.hostCheck _ _ _ fun loaded => loaded.takePaneRelease _ _
  case paneAdopt => exact booked.hostCheck _ _ _ fun loaded => loaded.takePaneAdopt fields _ _
  case paneQuery => exact booked.hostCheck _ _ _ fun loaded => loaded.takePaneQuery _ _
  case cellWrite | cellFill | cellRead => exact booked.hostCheck _ _ _ fun loaded => loaded.joinLane _
  case faultRead => exact booked.hostCheck _ _ _ fun loaded => loaded.takeFaultRead _ _
  case faultClear => exact booked.hostCheck _ _ _ fun loaded => loaded.takeFaultClear _ _
  case faultClearOverflow => exact booked.hostCheck _ _ _ fun loaded => loaded.takeFaultClearOverflow _
  case eventFetch => exact booked.hostCheck _ _ _ fun loaded => loaded.takeEventFetch _
  case panelSend => exact booked.hostCheck _ _ _ fun loaded => loaded.takePanelSend _ _ _ _

/-- The port gives a slot or places a refusal below the ceiling alone (R125, R126, R128). -/
theorem admitFrame (booked : Booked g 0 s) (h : HostNo) (kind tag : Byte) (refusal : Option Status) (take : State → State)
    (taken : refusal = none → Booked g (0 + dueTo h g 1) (takeSlot h s) → Booked g 0 (take (takeSlot h s))) :
    Booked g 0 (admitFrame h kind tag refusal take s) := by
  have ⟨slots, ceiling, delayed⟩ := booked
  unfold Machine.admitFrame
  split
  · exact booked.of_same (by simp [dropFrame]) (by simp [dropFrame]) (by simp) (by simp) (by simp) (by simp)
  · next room =>
    have placed (r : Response) : Booked g 0 (placeResponse h r s) := by
      by_cases own : h = g
      · subst own
        refine ⟨?_, ?_, by simpa using delayed⟩
        · simpa [placeResponse, refreshAttention, holdings] using slots
        · simp [outstanding, Config.hostCeiling, placeResponse, refreshAttention] at room ⊢
          omega
      · exact booked.of_same (by simp [placeResponse, refreshAttention, own]) (by simp [placeResponse, refreshAttention, own])
          (by simp) (by simp) (by simp) (by simp)
    have slot : Booked g (0 + dueTo h g 1) (takeSlot h s) := by
      have same : holdings (takeSlot h s) g = holdings s g := by simp [holdings]
      by_cases own : h = g
      · subst own
        refine ⟨?_, ?_, by simpa using delayed⟩
        · rw [same]
          simp [takeSlot, dueTo, slots]
        · simp [outstanding, Config.hostCeiling, takeSlot] at room ⊢
          omega
      · simp only [dueTo, if_neg own]
        exact booked.of_same (by simp [takeSlot, own]) (by simp [takeSlot, own]) (by simp) (by simp) (by simp) (by simp)
    split
    · exact placed _
    · split
      · exact taken rfl slot
      · exact placed _

theorem request (booked : Booked g 0 s) (lawful : PanesLawful s) {h : HostNo} {tag : Byte} (i : Instr)
    (source : requestSource i = some (h, tag)) (k : Kind) (ok : Bool) :
    Booked g 0 (request h k tag ok (Machine.takeRequest i) s) := by
  unfold Machine.request
  split
  · exact booked.admitFrame _ _ _ _ _ fun _ slot => slot.takeRequest i source (lawful.of_panes (by simp))
  · exact booked

/-! ## Events -/

theorem removeSent (booked : Booked g n s) (h : HostNo) (x : Exchange) (k : Nat) : Booked g n (removeSent h x k s) := by
  have ⟨slots, ceiling, delayed⟩ := booked
  have same : holdings (Machine.removeSent h x k s) g = holdings s g := by simp [holdings]
  have fewer : ((Machine.removeSent h x k s).port g).slots = (s.port g).slots ∧
      ((Machine.removeSent h x k s).port g).responses.length ≤ (s.port g).responses.length := by
    unfold Machine.removeSent
    dsimp only
    by_cases own : h = g
    · subst own
      split <;> simp
    · split <;> simp [own]
  exact ⟨by rw [same, fewer.1, slots], by omega, by simpa using delayed⟩

theorem exchangeEnd (booked : Booked g 0 s) (lawful : PanesLawful s) (h : HostNo) (bytes : List Byte) :
    Booked g 0 (exchangeEnd h bytes s) := by
  unfold Machine.exchangeEnd
  split
  · exact booked
  · next x _ =>
    have removed := booked.removeSent h x bytes.length
    unfold handleFrame
    split
    · exact removed
    · exact removed.admitFrame _ _ _ _ _ nofun
    · exact removed.admitFrame _ _ _ _ _ nofun
    · next i spells =>
      obtain ⟨tag, source, -⟩ := examine_request h bytes i spells
      exact removed.admitFrame _ _ _ _ _ fun _ slot => slot.takeRequest i source (lawful.of_panes (by simp))

theorem presentDeasserted (booked : Booked g 0 s) (lawful : PanesLawful s) (h : HostNo) :
    Booked g 0 (presentDeasserted h s) := by
  unfold Machine.presentDeasserted
  split
  · have down : Booked g 0 (dropLine h s) := by
      have ⟨slots, ceiling, delayed⟩ := booked
      have same : holdings (dropLine h s) g = holdings s g := by simp [holdings]
      by_cases own : h = g
      · subst own
        refine ⟨?_, ?_, by simpa using delayed⟩
        · rw [same]
          simpa [dropLine, clearResponses_port] using slots
        · simp [dropLine, clearResponses_port]
          omega
      · exact booked.of_same (by simp [dropLine, clearResponses_port_other, own])
          (by simp [dropLine, clearResponses_port_other, own]) (by simp) (by simp) (by simp) (by simp)
    dsimp only
    split
    · exact departSilently (down.setHost h _) (lawful.of_panes (by simp)) h .abrupt (by simp [isActive_eq])
    · exact down.setHost h _
    · exact down
  · exact booked

theorem leaseExpiry (booked : Booked g 0 s) (lawful : PanesLawful s) (h : HostNo) : Booked g 0 (leaseExpiry h s) := by
  unfold Machine.leaseExpiry
  split
  · have left : Booked g 0 (leaveActive h .lapsed s) := booked.setHost h _
    exact (left.reportFault _).departSilently (lawful.of_panes (by simp)) h .lapse (by simp [leaveActive, isActive_eq])
  · exact booked

/-- Every command gives back the slots of what it answers, and of nothing else. -/
theorem exec (booked : Booked g 0 s) (lawful : PanesLawful s) (c : Instr) (run : exec c s = .next t) : Booked g 0 t := by
  have unheld := lawful.retiringUnheld
  cases source : requestSource c with
  | some origin =>
    obtain ⟨k, ok, leaves, -⟩ := exec_eq_request c origin.1 origin.2 s source
    obtain rfl := Host.Outcome.next.inj (leaves.symm.trans run)
    exact booked.request lawful c source k ok
  | none =>
    cases c <;> simp only [requestSource, reduceCtorEq] at source
    case segmentReadComplete => exact completion_next run ▸ booked.segmentReadComplete unheld
    case writeAccessComplete => exact completion_next run ▸ booked.writeAccessComplete
    case readAccessComplete => exact completion_next run ▸ booked.readAccessComplete
    all_goals obtain rfl := Host.Outcome.next.inj run
    case powerOn | resetPin => exact partReset _ _ _
    case exchangeEnd => exact booked.exchangeEnd lawful _ _
    case hostPresentDeasserted => exact booked.presentDeasserted lawful _
    case leaseExpiry => exact booked.leaseExpiry lawful _
    case lineMark => exact booked.lineMark unheld
    case linkUp => exact booked.linkUp
    case linkDown => exact booked.linkDown
    case panelSendEnd => exact booked.panelSendEnd
    case panelAck => exact booked.panelAck
    case panelNak => exact booked.panelNak
    case replyTimerExpiry => exact booked.replyTimerExpiry
    case hostPresentAsserted h =>
      have port : ((presentAsserted h s).port g).slots = (s.port g).slots ∧
          ((presentAsserted h s).port g).responses = (s.port g).responses := by
        by_cases own : h = g
        · subst own; simp [presentAsserted]
        · simp [presentAsserted, own]
      exact booked.of_same port.1 port.2 rfl (fun _ => rfl) (fun _ => rfl) rfl
    all_goals exact booked.of_same (by simp) (by simp) (by simp) (by simp) (by simp) (by simp)

end Booked

/-- Settles O57: every block takes a slot's request in or answers it, and a departure forgets what it does not answer; the
Pane Table stays lawful beside it. -/
theorem slotsMatchTheWaitingRequests : Obligations.SlotsMatchTheWaitingRequests := by
  unfold Obligations.SlotsMatchTheWaitingRequests
  intro s t table slots run
  have stands : Lawful noHost noHost noWork False s ∧ ∀ g, Booked g 0 s :=
    ⟨(lawful_iff False s).2 ⟨table, False.elim⟩, (slotsOk_iff s).1 slots⟩
  have kept := lawful_keptByAll False
  refine (slotsOk_iff t).2 (step_induct (fun u => Lawful noHost noHost noWork False u ∧ ∀ g, Booked g 0 u) s t run
    (fun rest => ?_) ?_ fun c x y ⟨lawful, booked⟩ next => ?_).2
  · exact ⟨kept.quiet stands.1 (by constructor <;> simp),
      fun g => (stands.2 g).of_same rfl rfl rfl (fun _ => rfl) (fun _ => rfl) rfl⟩
  · have panel : (countTick s).panel = { s.panel with timer := s.panel.timer.map (· - 1) } := by
      unfold countTick countLine countReply
      split <;> simp
    exact ⟨kept.quiet stands.1 (by constructor <;> simp),
      fun g => (stands.2 g).of_same (by simp) (by simp) (by simp) (by simp) (by simp) (by rw [panel]; rfl)⟩
  · exact ⟨kept.exec c lawful next,
      fun g => (booked g).exec (.of_table ((lawful_iff False x).1 lawful).1) c next⟩

end Sys2Proof.Machine
end

section
/-! What follows at once from an event passes by a host that has departed, tells the others of budgets and faults alone, and
leaves LEASE_LAPSE records (R66, R73, R82, R138). -/
namespace Sys2Proof.Machine

/-! ## What is told -/

/-- What service starts and grant decisions tell a host (R82, R138). -/
def Event.OfService (e : Event) : Prop := (∃ p f, e = .budgetReached p f) ∨ ∃ i k, e = .faultNote i k

/-- Queue `r` is queue `q` of a host with what service starts and grant decisions told it while ACTIVE. -/
def EventQueue.Served (active : Bool) (q r : EventQueue) : Prop :=
  ∃ es : List Event, r = (if active = true then q.posted es else q) ∧ ∀ e ∈ es, e.OfService

theorem EventQueue.Served.refl (active : Bool) (q : EventQueue) : q.Served active q :=
  ⟨[], by cases active <;> rfl, nofun⟩

theorem EventQueue.Served.post {active : Bool} {q r : EventQueue} (served : q.Served active r) (e : Event)
    (kind : e.OfService) : q.Served active (if active = true then r.posted [e] else r) := by
  obtain ⟨es, rfl, kinds⟩ := served
  refine ⟨es ++ [e], ?_, fun f listed => ?_⟩
  · cases active
    · rfl
    · simp [EventQueue.posted_append]
  · rcases List.mem_append.1 listed with before | last
    · exact kinds f before
    · obtain rfl := List.mem_singleton.1 last
      exact kind

theorem postEvent_posted (h g : HostNo) (e : Event) (s : State) : (postEvent h e s).queue g =
    if h = g then (if s.isActive g = true then (s.queue g).posted [e] else s.queue g) else s.queue g := by
  rw [postEvent_queue]
  by_cases own : h = g
  · subst own
    by_cases active : s.isActive h = true <;> simp [active, EventQueue.posted]
  · simp [own]

/-! ## A host that takes no part -/

/-- Host `h` is not ACTIVE, has no operation that starts or is served, no access parked, and no request on a pane. -/
structure Apart (h : HostNo) (s : State) : Prop where
  inactive : s.isActive h = false
  queued : (s.lane h).queued = []
  busy : ∀ v, (s.lane h).service = some v → v.access = .inProgress
  unheld : ∀ p, (s.pane p).owner = some h → (s.pane p).held = none
  unparked : ∀ e ∈ s.parked, e.host ≠ h

/-- State `t` comes of `s` by steps that pass host `h` by. -/
structure PassesBy (h : HostNo) (s t : State) : Prop where
  apart : Apart h t
  port : t.port h = s.port h
  lane : t.lane h = s.lane h
  host : t.host h = s.host h
  active : ∀ g, t.isActive g = s.isActive g
  queue : ∀ g, (s.queue g).Served (s.isActive g) (t.queue g)
  lapse : ∀ (i : Fin 16) r, s.faults.slots[i] = some r → r.kind = .leaseLapse → t.faults.slots[i] = some r

theorem PassesBy.refl {h : HostNo} {s : State} (apart : Apart h s) : PassesBy h s s :=
  ⟨apart, rfl, rfl, rfl, fun _ => rfl, fun _ => .refl _ _, fun _ _ held _ => held⟩

namespace PassesBy
variable {h : HostNo} {s t u : State} (passed : PassesBy h s t)
include passed

/-! ### Operations on the state -/

theorem of_same (port : u.port h = t.port h) (lane : u.lane h = t.lane h) (host : u.host h = t.host h)
    (active : ∀ g, u.isActive g = t.isActive g) (queue : ∀ g, u.queue g = t.queue g) (faults : u.faults = t.faults)
    (owner : ∀ p, (u.pane p).owner = (t.pane p).owner) (held : ∀ p, (u.pane p).held = (t.pane p).held)
    (parked : u.parked = t.parked) : PassesBy h s u := by
  have ⟨inactive, queued, busy, unheld, unparked⟩ := passed.apart
  exact ⟨⟨by rwa [active], by rwa [lane], by rwa [lane], fun p => by rw [owner, held]; exact unheld p, by rwa [parked]⟩,
    port.trans passed.port, lane.trans passed.lane, host.trans passed.host, fun g => (active g).trans (passed.active g),
    fun g => by rw [queue]; exact passed.queue g, fun i r slot kind => by rw [faults]; exact passed.lapse i r slot kind⟩

theorem setPane (p : PaneNo) (q : Pane) (owner : q.owner = (t.pane p).owner)
    (unheld : (t.pane p).owner = some h → q.held = none) : PassesBy h s (t.setPane p q) := by
  refine ⟨⟨passed.apart.inactive, passed.apart.queued, passed.apart.busy, fun r => ?_, passed.apart.unparked⟩, passed.port,
    passed.lane, passed.host, passed.active, passed.queue, passed.lapse⟩
  by_cases same : p = r
  · subst same
    rw [State.pane_setPane_same, owner]
    exact unheld
  · rw [State.pane_setPane_ne _ _ _ _ same]
    exact passed.apart.unheld r

theorem setScan (x : Scan) : PassesBy h s (t.setScan x) :=
  passed.of_same rfl rfl rfl (fun _ => rfl) (fun _ => rfl) rfl (fun _ => rfl) (fun _ => rfl) rfl

theorem setArbiter (x : Arbiter) : PassesBy h s (t.setArbiter x) :=
  passed.of_same rfl rfl rfl (fun _ => rfl) (fun _ => rfl) rfl (fun _ => rfl) (fun _ => rfl) rfl

section
variable {k : HostNo} (other : k ≠ h)
include other

theorem setLane (l : Lane) : PassesBy h s (t.setLane k l) :=
  passed.of_same rfl (by simp [other]) rfl (fun _ => rfl) (fun _ => rfl) rfl (fun _ => rfl) (fun _ => rfl) rfl

theorem setAccess (a : AccessState) : PassesBy h s (setAccess k a t) := passed.setLane other _

theorem setHost (r : HostRecord) (state : r.state = (t.host k).state) : PassesBy h s (t.setHost k r) := by
  refine passed.of_same rfl rfl (by simp [other]) (fun g => ?_) (fun _ => rfl) rfl (fun _ => rfl) (fun _ => rfl) rfl
  by_cases same : k = g
  · subst same; simp [isActive_eq, state]
  · simp [isActive_eq, same]

theorem answer (r : Response) : PassesBy h s (answer k r t) :=
  passed.of_same (by simp [answer_port, other]) (by simp) (by simp) (by simp) (by simp) (by simp) (by simp) (by simp) (by simp)

theorem postEvent (e : Event) (kind : e.OfService) : PassesBy h s (postEvent k e t) := by
  have ⟨inactive, queued, busy, unheld, unparked⟩ := passed.apart
  refine ⟨⟨by simpa, by simpa, by simpa, by simpa, by simpa⟩, ?_, by simpa using passed.lane, by simpa using passed.host,
    by simpa using passed.active, fun g => ?_, by simpa using passed.lapse⟩
  · rw [postEvent_port_other k h other, passed.port]
  · rw [postEvent_posted, passed.active]
    split
    · exact (passed.queue g).post e kind
    · exact passed.queue g

/-- The report of a conflict is noted to the writing host alone (R138). -/
theorem reportConflict (kind : FaultKind) (notLapse : kind ≠ .leaseLapse) (notUnderrun : kind ≠ .underrun) (v : Service)
    (l : Latch) : PassesBy h s (reportFault (conflictFault kind k v l) t) := by
  have notes : noteHosts (conflictFault kind k v l) = [k] := by
    cases kind with
    | leaseLapse => exact absurd rfl notLapse
    | underrun => exact absurd rfl notUnderrun
    | _ => rfl
  have slots (i : Fin 16) (c : Option FaultRecord) (before : ∀ r, t.faults.slots[i] = some r → r.kind ≠ .leaseLapse) :
      PassesBy h s (t.setFaults { t.faults with slots := t.faults.slots.set i c }) := by
    refine ⟨⟨passed.apart.inactive, passed.apart.queued, passed.apart.busy, passed.apart.unheld, passed.apart.unparked⟩,
      passed.port, passed.lane, passed.host, passed.active, passed.queue, fun j r slot isLapse => ?_⟩
    have stands := passed.lapse j r slot isLapse
    have apart : i ≠ j := by
      rintro rfl
      exact before r stands isLapse
    exact (Vector.getElem_set_ne i.isLt j.isLt (Fin.val_ne_of_ne apart)).trans stands
  rw [reportFault_eq]
  rcases takeReport_cases (noteHosts (conflictFault kind k v l)) (conflictFault kind k v l) t with
    ⟨i, q, held, same, merged⟩ | ⟨-, i, free, -, recorded⟩ | ⟨-, counted⟩
  · rw [merged]
    refine slots i _ fun r slot isLapse => notLapse ?_
    obtain rfl := Option.some.inj (held.symm.trans slot)
    exact ((sameFault_iff _ _).1 same).1.trans isLapse
  · rw [recorded, notes]
    exact (slots i _ (by simp [free])).postEvent other _ (.inr ⟨_, _, rfl⟩)
  · rw [counted, countOverflow_eq]
    exact passed.setHost other _ rfl

/-! ### Service starts (R73 to R76) -/

theorem noteBudget (p : PaneNo) : PassesBy h s (noteBudget k p t) := by
  unfold Machine.noteBudget
  split
  · exact passed
  · exact (passed.setHost other { t.host k with budgetHit := true } rfl).postEvent other _ (.inl ⟨_, _, rfl⟩)

theorem testAccess : PassesBy h s (testAccess k t) := by
  unfold Machine.testAccess
  (repeat' split)
  · exact passed
  · exact passed.setAccess other _
  · exact passed.setAccess other _
  · exact passed.setAccess other _
  · exact (passed.setAccess other _).noteBudget other _

end

/-- An offered access is none of the host passed by. -/
theorem other_of_offered {k : HostNo} {v : Service} (service : (t.lane k).service = some v) (offered : v.access = .offered) :
    k ≠ h := by
  rintro rfl
  simpa [offered] using passed.apart.busy v service

theorem withdrawOffer (p : PaneNo) (k : HostNo) : PassesBy h s (withdrawOffer p k t) := by
  unfold Machine.withdrawOffer
  split
  · next v service =>
    split
    · next offered =>
      simp only [Bool.and_eq_true, decide_eq_true_eq] at offered
      exact passed.setAccess (passed.other_of_offered service offered.2) _
    · exact passed
  · exact passed

/-- A pane that holds a request is another host's. -/
theorem other_of_held {k : HostNo} {p : PaneNo} {r : Held} (owner : (t.pane p).owner = some k) (held : (t.pane p).held = some r) :
    k ≠ h := by
  rintro rfl
  simp [passed.apart.unheld p owner] at held

theorem countForCommit (k : HostNo) (p : PaneNo) : PassesBy h s (countForCommit k p t) := by
  rcases countForCommit_cases k p t with ⟨same, -⟩ | ⟨tag, n, held, owner, ⟨-, taken⟩ | ⟨-, counted⟩⟩
  · rwa [same]
  · have other := passed.other_of_held owner held
    have recorded := (passed.setHost other { t.host k with tickets := (t.host k).tickets + 1 } rfl).setPane p
      { t.pane p with commit := some (t.host k).tickets, held := none } rfl fun _ => rfl
    rw [taken, takeCommit, reply]
    refine answer ?_ other _
    unfold recordCommit
    dsimp only
    split
    · exact forEach_induct (PassesBy h s) _ (fun g _ still => still.withdrawOffer p g) _ _ recorded
    · exact recorded
  · rw [counted]
    refine passed.setPane p _ rfl fun own => absurd (Option.some.inj (owner.symm.trans own)) (passed.other_of_held owner held)

theorem takeStageIfIdle (p : PaneNo) : PassesBy h s (takeStageIfIdle p t) := by
  unfold Machine.takeStageIfIdle
  split
  · next tag rect k held owner =>
    have other := passed.other_of_held owner held
    unfold takeHeldStage
    (repeat' split)
    · exact passed
    · exact answer (passed.setPane p { t.pane p with held := none } rfl fun _ => rfl) other _
    · exact answer (passed.setPane p { t.pane p with held := none, staged := rect } rfl fun _ => rfl) other _
  · exact passed

theorem reportEnd (k : HostNo) (sel : Byte) : PassesBy h s (reportEnd k sel t) := by
  unfold Machine.reportEnd
  split
  · exact (passed.countForCommit k _).takeStageIfIdle _
  · exact passed

theorem startHead (k : HostNo) (n : Nat) : PassesBy h s (startHead k n t) := by
  induction n generalizing t with
  | zero => exact passed
  | succ n ih =>
    unfold Machine.startHead
    split
    · next op rest idle head =>
      split
      · exact passed
      · have other : k ≠ h := by
          rintro rfl
          simp [passed.apart.queued] at head
        refine ih ?_
        unfold startOp
        split
        · exact ((passed.setLane other _).answer other _).reportEnd k _
        · exact (passed.setLane other _).testAccess other
    · exact passed

theorem startServices : PassesBy h s (startServices t) :=
  forEach_induct (PassesBy h s) _ (fun k _ still => still.startHead k _) _ _ passed

/-! ### Grant decisions (R66 to R69, R94) -/

section
variable {k : HostNo} (other : k ≠ h) (v : Service) (l : Latch)
include other

theorem grantRead (back : Bool) : PassesBy h s (grantRead k v back t) := (passed.setAccess other _).setArbiter _

theorem grantWrite (restart : Option (Half × Nat)) : PassesBy h s (grantWrite k v restart t) :=
  ((passed.setAccess other .inProgress).setHost (k := k) other
    { (Machine.setAccess k .inProgress t).host k with
      cells := min (((Machine.setAccess k .inProgress t).host k).cells + v.accessLen) Config.bankCells } rfl).setArbiter _

theorem passGrant (kind : FaultKind) (notLapse : kind ≠ .leaseLapse) (notUnderrun : kind ≠ .underrun) :
    PassesBy h s (passGrant kind k v l t) :=
  ((((passed.setScan { t.scan with latch := some { l with torn := true } }).setPane v.pane
    { t.pane v.pane with tears := satSucc (t.pane v.pane).tears } rfl (passed.apart.unheld _)).reportConflict other kind
      notLapse notUnderrun v l)).grantWrite other v none

theorem parkOrPass : PassesBy h s (parkOrPass k v l t) := by
  unfold Machine.parkOrPass
  split
  · have ⟨inactive, queued, busy, unheld, unparked⟩ := passed.apart
    have listed : PassesBy h s (t.setParked (t.parked ++ [parkedEntry k v])) := by
      refine ⟨⟨inactive, queued, busy, unheld, fun e inList => ?_⟩, passed.port, passed.lane, passed.host, passed.active,
        passed.queue, passed.lapse⟩
      rcases List.mem_append.1 inList with before | added
      · exact unparked e before
      · obtain rfl := List.mem_singleton.1 added
        exact other
    exact (listed.setAccess other .parked).setArbiter _
  · exact passed.passGrant other v l _ nofun nofun

theorem resolveConflict : PassesBy h s (resolveConflict k v l t) := by
  unfold Machine.resolveConflict
  split
  · exact passed.passGrant other v l _ nofun nofun
  · exact passed.parkOrPass other v l
  · split
    · exact (passed.reportConflict other .relatchLimit nofun nofun v l).parkOrPass other v l
    · split
      · exact passed.grantWrite other v _
      · exact passed.parkOrPass other v l

end

theorem serveHost (k : HostNo) (offered : offers t k = true) : PassesBy h s (serveHost k t) := by
  unfold Machine.serveHost
  split
  · exact passed
  · next v service =>
    have other := passed.other_of_offered service (by simpa [offers, service] using offered)
    (repeat' split)
    · exact passed.grantRead other v _
    · exact passed.resolveConflict other v _
    · exact passed.grantWrite other v none

theorem arbitrate (n : Nat) : PassesBy h s (arbitrate n t) := by
  induction n generalizing t with
  | zero => exact passed
  | succ n ih =>
    unfold Machine.arbitrate
    (repeat' split)
    · exact passed
    · exact passed
    · exact passed.of_same rfl rfl rfl (fun _ => rfl) (fun _ => rfl) rfl (fun _ => rfl) (fun _ => rfl) rfl
    · exact passed
    · next k next => exact ih (passed.serveHost k (nextReady_offers t k next))
    · exact passed

theorem settle : PassesBy h s (settle t) := by
  unfold Machine.settle
  split
  · exact passed.startServices.arbitrate 5
  · exact passed

end PassesBy

/-! ## Work that has ended on some panes (R86, R87) -/

/-- Of host `g`'s work on some panes at most an operation with its access in progress is left, marked with `status`; under
`known`, that operations in service name their panes, no access on them is parked. -/
structure Ended (known : Prop) (g : HostNo) (panes : List PaneNo) (status : Status) (s : State) : Prop where
  queued : ∀ op ∈ (s.lane g).queued, op.onSome panes = false
  service : ∀ v, (s.lane g).service = some v → v.op.onSome panes = true → v.access = .inProgress ∧ v.stop = some status
  named : known → ∀ v, (s.lane g).service = some v → v.op.onPane v.pane = true
  parked : known → ∀ e ∈ s.parked, e.host = g → e.pane ∉ panes

theorem onSome_iff (panes : List PaneNo) (op : CellOp) : op.onSome panes = true ↔ ∃ p ∈ panes, op.onPane p = true :=
  List.any_eq_true

namespace Ended
variable {known : Prop} {g : HostNo} {panes : List PaneNo} {status : Status} {s t : State}
variable (ended : Ended known g panes status s)
include ended

theorem of_same (lane : t.lane g = s.lane g) (parked : t.parked = s.parked) : Ended known g panes status t :=
  ⟨by rw [lane]; exact ended.queued, by rw [lane]; exact ended.service, by rw [lane]; exact ended.named,
    by rw [parked]; exact ended.parked⟩

theorem setLane (h : HostNo) (l : Lane) (queued : h = g → ∀ op ∈ l.queued, op.onSome panes = false)
    (service : h = g → ∀ v, l.service = some v →
      (v.op.onSome panes = true → v.access = .inProgress ∧ v.stop = some status) ∧ (known → v.op.onPane v.pane = true)) :
    Ended known g panes status (s.setLane h l) := by
  by_cases own : h = g
  · subst own
    exact ⟨by simpa using queued rfl, fun v held => (service rfl v (by simpa using held)).1,
      fun names v held => (service rfl v (by simpa using held)).2 names, ended.parked⟩
  · exact ended.of_same (by simp [own]) rfl

/-- An offered access of the host is on none of the panes. -/
theorem not_offered (v : Service) (service : (s.lane g).service = some v) (offered : v.access = .offered) :
    v.op.onSome panes = false := by
  rw [← Bool.not_eq_true]
  intro on
  simpa [offered] using (ended.service v service on).1

theorem setAccess (h : HostNo) (a : AccessState) (v : Service) (service : (s.lane h).service = some v)
    (offered : v.access = .offered) : Ended known g panes status (setAccess h a s) := by
  rw [Machine.setAccess, service]
  refine ended.setLane h _ (fun own => by subst own; exact ended.queued) fun own w held => ?_
  subst own
  obtain rfl : { v with access := a } = w := by simpa using held
  exact ⟨fun on => by simp [ended.not_offered v service offered] at on, fun names => ended.named names v service⟩

theorem start (step : StartStep s t) : Ended known g panes status t := by
  cases step with
  | calm same => exact ended.of_same (same.lane g) same.parked
  | hold => exact ended.of_same rfl rfl
  | withdraw h v service offered => exact ended.setAccess h .made v service offered
  | begin h op rest q area a idle head passes =>
    refine ended.setLane h _ (fun own => ?_) fun own w held => ?_
    · subst own
      exact fun op' inRest => ended.queued op' (by simp [head, inRest])
    · subst own
      have off := ended.queued op (by simp [head])
      obtain rfl := Option.some.inj held
      exact ⟨fun on => by simp [off] at on, fun _ => (onPane_iff _ _).2 (serviceCheck_grants h op q area passes).1⟩
  | refuse h op rest idle head =>
    refine ended.setLane h _ (fun own => ?_) fun own w held => by cases held
    subst own
    exact fun op' inRest => ended.queued op' (by simp [head, inRest])
  | spend => exact ended.of_same (by simp) (by simp)

theorem grant (step : GrantStep s t) : Ended known g panes status t := by
  cases step with
  | calm same => exact ended.of_same (same.lane g) same.parked
  | torn | tear | grantSegment => exact ended.of_same rfl rfl
  | park h v l service offered =>
    have listed : Ended known g panes status (s.setParked (s.parked ++ [parkedEntry h v])) := by
      refine ⟨ended.queued, ended.service, ended.named, fun names e inList own => ?_⟩
      rcases List.mem_append.1 inList with before | added
      · exact ended.parked names e before own
      · obtain rfl := List.mem_singleton.1 added
        obtain rfl : h = g := own
        have off := ended.not_offered v service offered
        exact fun on => by simp [(onSome_iff panes v.op).2 ⟨v.pane, on, ended.named names v service⟩] at off
    exact listed.setAccess h .parked v service offered
  | grantRead h v _ _ service offered => exact (ended.setAccess h .inProgress v service offered).of_same rfl rfl
  | grantWrite h v _ _ service offered => exact (ended.setAccess h .inProgress v service offered).of_same rfl rfl

end Ended

theorem Ended.settle {known : Prop} {g : HostNo} {panes : List PaneNo} {status : Status} {s : State}
    (ended : Ended known g panes status s) : Ended known g panes status (settle s) :=
  settle_keeps (fun still => still.start) (fun still => still.grant) s ended

end Sys2Proof.Machine
end

section
/-! What every departure leaves of panes, guests and the vote (R12, R25 to R28, R86 to R89, R157). -/
namespace Sys2Proof.Machine

/-! ## The vote once a host has left ACTIVE (R157) -/

/-- Host `h` has left ACTIVE; the other hosts' states and votes and the Configuration Block stand. -/
structure HostLeft (h : HostNo) (s u : State) : Prop where
  inactive : u.isActive h = false
  active : ∀ g, g ≠ h → u.isActive g = s.isActive g
  vote : ∀ g, g ≠ h → (u.host g).vote = (s.host g).vote
  conf : u.conf = s.conf

theorem HostLeft.of_same {h : HostNo} {s u v : State} (left : HostLeft h s u) (active : ∀ g, v.isActive g = u.isActive g)
    (vote : ∀ g, (v.host g).vote = (u.host g).vote) (conf : v.conf = u.conf) : HostLeft h s v :=
  ⟨by rw [active, left.inactive], fun g other => by rw [active, left.active g other],
    fun g other => by rw [vote, left.vote g other], conf.trans left.conf⟩

section
variable {h : HostNo} {s u : State} (left : HostLeft h s u)
include left

theorem HostLeft.anyActive_iff : anyActive u = true ↔ s.othersActive h := by
  simp only [anyActive, List.any_eq_true, State.othersActive]
  constructor
  · rintro ⟨g, -, active⟩
    have other : g ≠ h := by
      rintro rfl
      simp [left.inactive] at active
    exact ⟨g, other, by rwa [← left.active g other]⟩
  · rintro ⟨g, other, active⟩
    exact ⟨g, mem_allHosts g, by rwa [left.active g other]⟩

theorem HostLeft.unanimous_iff : unanimous u = true ↔ ∀ g, g ≠ h → s.isActive g = true → (s.host g).vote = true := by
  simp only [unanimous, List.all_eq_true, mem_allHosts, forall_true_left]
  constructor
  · intro all g other active
    have voted := all g
    rwa [left.active g other, left.vote g other, active, Bool.not_true, Bool.false_or] at voted
  · intro all g
    by_cases own : g = h
    · subst own
      simp [left.inactive]
    · rw [left.active g own, left.vote g own]
      cases active : s.isActive g with
      | false => rfl
      | true => simpa using all g own active

/-- A departure that completes the vote resets the part. -/
theorem HostLeft.judge_completes (completes : s.voteCompletes h) : judgeVote u = partReset .vote u := by
  obtain ⟨opened, others, voted⟩ := completes
  have any := left.anyActive_iff.2 others
  have all := left.unanimous_iff.2 voted
  simp [judgeVote, left.conf, opened, any, all]

/-- A departure that does not leaves the vote as it is, or closes it when no host is ACTIVE any more. -/
theorem HostLeft.judge_incomplete (incomplete : ¬s.voteCompletes h) :
    ∃ c, judgeVote u = u.setConf c ∧ ∀ t : State, t.conf = c → s.voteAfter t h := by
  have standing : (s.conf.vote = .idle ∨ s.othersActive h) →
      ∃ c, u = u.setConf c ∧ ∀ t : State, t.conf = c → s.voteAfter t h := fun stands =>
    ⟨u.conf, rfl, fun t same => ⟨fun _ => same.trans left.conf, fun opened none => by simp_all⟩⟩
  unfold judgeVote
  split
  · next opened =>
    rw [left.conf] at opened
    by_cases others : s.othersActive h
    · have all : ¬unanimous u = true := fun all => incomplete ⟨opened, others, left.unanimous_iff.1 all⟩
      simp only [left.anyActive_iff.2 others, all]
      exact standing (.inr others)
    · have none : anyActive u = false := by
        rw [← Bool.not_eq_true, left.anyActive_iff]
        exact others
      simp only [none]
      refine ⟨_, rfl, fun t same => ⟨fun stands => ?_, fun _ _ => same.trans (by rw [left.conf])⟩⟩
      simp [opened, others] at stands
  · next idle =>
    rw [left.conf] at idle
    exact standing (.inl (by cases vote : s.conf.vote <;> simp_all))

end

/-- After a part reset nothing follows at once. -/
theorem settle_partReset (cause : Cause) (s : State) : settle (partReset cause s) = partReset cause s := by
  simp [settle, State.inRun, partReset, ConfigBlock.reset]

/-- The part reset a departure ends in (R11, R157): what is detached from the access in progress is stored like any other. -/
theorem voteReset_of_left {s u : State} (link : u.scan.link = s.scan.link)
    (present : ∀ g, (u.port g).present = (s.port g).present)
    (stored : resetStore .vote u = resetStore .vote s) : s.voteReset (settle (partReset .vote u)) := by
  rw [settle_partReset]
  refine ⟨resetFrom_partReset .vote s u link.symm fun g => (present g).symm, fun a other => ?_⟩
  have store : (partReset .vote u).store = resetStore .vote u := rfl
  rw [store, stored]
  exact read_resetStore .vote s a (by simp) other

/-! ## The other hosts and the panes -/

/-- Host `h` has left ACTIVE; of the others only `before` is told so far, and no block has departed. -/
structure Leaving (h : HostNo) (before : List Event) (s u : State) : Prop where
  hosts : HostLeft h s u
  pane : ∀ p, u.pane p = s.pane p
  lane : ∀ g, u.lane g = s.lane g
  parked : u.parked = s.parked
  responses : ∀ g, g ≠ h → (u.port g).responses = (s.port g).responses
  queue : ∀ g, g ≠ h → u.queue g = if s.isActive g = true then (s.queue g).posted before else s.queue g

/-- What a departure of host `h` leaves of the panes and of the other hosts (R12, R25 to R28, R86 to R89). -/
structure OthersLeft (h : HostNo) (kind : Departure) (before : List Event) (s u : State) : Prop where
  own : ∀ p, (s.pane p).owner = some h → u.pane p = leftPane h kind (s.pane p)
  other : ∀ p, (s.pane p).owner ≠ some h → (u.pane p).state = (s.pane p).state ∧ (u.pane p).owner = (s.pane p).owner ∧
    (u.pane p).current = (s.pane p).current ∧ (u.pane p).modes = (s.pane p).modes
  guest : ∀ p, (u.pane p).guest ≠ some h
  lane : ∀ g, g ≠ h → u.lane g =
    ⟨(s.lane g).service.bind (stoppedService (·.onSome (guestPanesOf s h g)) (guestEnd kind).1),
      (s.lane g).queued.filter fun op => !op.onSome (guestPanesOf s h g)⟩
  responses : ∀ g, g ≠ h → (s.port g).responses ++ stoppedResponses s g (·.onSome (guestPanesOf s h g)) (guestEnd kind).1
    <+: (u.port g).responses
  queue : ∀ g, g ≠ h → u.queue g =
    if s.isActive g = true then (s.queue g).posted (before ++ departureEvents s h kind g) else s.queue g
  parked : ∀ e ∈ u.parked, ∀ g, g ≠ h → e.host = g → e.pane ∉ guestPanesOf s h g

theorem guestPanesOf_congr {s u : State} (pane : ∀ p, u.pane p = s.pane p) (h g : HostNo) :
    guestPanesOf u h g = guestPanesOf s h g := by
  simp only [guestPanesOf, owns, pane]

theorem departureEvents_congr {s u : State} (pane : ∀ p, u.pane p = s.pane p) (h : HostNo) (kind : Departure) (g : HostNo) :
    departureEvents u h kind g = departureEvents s h kind g := by
  have owned : owns u h .live = owns s h .live := by
    funext p
    simp only [owns, pane]
  simp only [departureEvents, guestPanesOf_congr pane, orphansOf, owned]

/-- A pane another host owns keeps its record but for a guest that departs. -/
theorem leftPane_other (h : HostNo) (kind : Departure) (q : Pane) (other : q.owner ≠ some h) :
    leftPane h kind q = { q with guest := if q.guest = some h then none else q.guest } := by
  simp [leftPane, departedPane, other]

theorem leftPane_unguested (h : HostNo) (kind : Departure) (q : Pane) : (leftPane h kind q).guest ≠ some h := by
  unfold leftPane
  dsimp only
  split
  · nofun
  · assumption

/-- The Pane Manager's share of a departure leaves it so. -/
theorem Leaving.departPanes {h : HostNo} {before : List Event} {s u : State} (leaving : Leaving h before s u)
    (kind : Departure) : OthersLeft h kind before s (departPanes h kind u) := by
  obtain ⟨hosts, pane, lane, -, responses, queue⟩ := leaving
  have ⟨panes, guest, _⟩ := departPanes_departed h kind u
  refine ⟨fun p _ => by rw [panes, pane], fun p other => ?_, fun p => ?_, fun g other => ?_, fun g other => ?_,
    fun g other => ?_, fun e listed g other own on => ?_⟩
  · rw [panes, pane, leftPane_other h kind _ other]
    exact ⟨rfl, rfl, rfl, rfl⟩
  · rw [panes]
    exact leftPane_unguested h kind _
  · rw [(guest g).lane, lane, guestPanesOf_congr pane]
  · rw [(guest g).responses, stoppedResponses_of_lane (lane g), guestPanesOf_congr pane, responses g other]
  · rw [(guest g).queue, hosts.active g other, queue g other, departureEvents_congr pane]
    split
    · rw [EventQueue.posted_append]
    · rfl
  · exact ((guest g).parked e listed).2 ⟨own, by rwa [guestPanesOf_congr pane]⟩

namespace OthersLeft
variable {h : HostNo} {kind : Departure} {before : List Event} {s u v : State} (left : OthersLeft h kind before s u)
include left

/-- What else a departure does leaves panes, lanes and queues of the others. -/
theorem of_same (pane : ∀ p, v.pane p = u.pane p) (lane : ∀ g, g ≠ h → v.lane g = u.lane g)
    (responses : ∀ g, g ≠ h → (u.port g).responses <+: (v.port g).responses) (queue : ∀ g, g ≠ h → v.queue g = u.queue g)
    (parked : ∀ e ∈ v.parked, e ∈ u.parked) : OthersLeft h kind before s v :=
  ⟨fun p => by rw [pane]; exact left.own p, fun p => by rw [pane]; exact left.other p, fun p => by rw [pane]; exact left.guest p,
    fun g other => by rw [lane g other]; exact left.lane g other,
    fun g other => (left.responses g other).trans (responses g other),
    fun g other => by rw [queue g other]; exact left.queue g other, fun e listed => left.parked e (parked e listed)⟩

/-- A departed owner's panes hold nothing. -/
theorem unheld (fields : ∀ p, (s.pane p).fieldsOk) (p : PaneNo) (owner : (u.pane p).owner = some h) : (u.pane p).held = none := by
  have mine : (s.pane p).owner = some h := by
    by_contra other
    exact other ((left.other p other).2.1 ▸ owner)
  have waiting := leftPane_waiting h h kind (s.pane p) (fields p)
  rw [← left.own p mine, if_pos rfl] at waiting
  by_contra held
  simp [Pane.waiting, owner, Option.isSome_iff_ne_none.2 held] at waiting

end OthersLeft

/-- A pane that holds nothing is not changed by held stages that are taken. -/
theorem takeIdleStages_pane_unheld (p : PaneNo) (s : State) (unheld : (s.pane p).held = none) :
    (takeIdleStages s).pane p = s.pane p := by
  refine forEach_induct (fun t => t.pane p = s.pane p) _ (fun q t same => ?_) _ s rfl
  by_cases own : q = p
  · subst own
    rw [takeStageIfIdle_unheld q t (by simp [same, Pane.stageHeld, unheld]), same]
  · unfold takeStageIfIdle
    split
    · unfold takeHeldStage
      (repeat' split) <;> simp [own, same]
    · exact same

theorem OthersLeft.takeIdleStages {h : HostNo} {kind : Departure} {before : List Event} {s u : State}
    (left : OthersLeft h kind before s u) (fields : ∀ p, (s.pane p).fieldsOk) :
    OthersLeft h kind before s (takeIdleStages u) := by
  have answers (g : HostNo) : (u.port g).responses <+: ((Machine.takeIdleStages u).port g).responses :=
    forEach_induct (fun t => (u.port g).responses <+: (t.port g).responses) _
      (fun p t more => more.trans (takeStageIfIdle_answers p g t)) _ u List.prefix_rfl
  refine ⟨fun p owner => ?_, fun p other => by simpa using left.other p other, fun p => by simpa using left.guest p,
    fun g other => by simpa using left.lane g other, fun g other => (left.responses g other).trans (answers g),
    fun g other => by simpa using left.queue g other, fun e => by simpa using left.parked e⟩
  have unheld : (u.pane p).held = none := by
    by_cases still : (u.pane p).owner = some h
    · exact left.unheld fields p still
    · rw [left.own p owner] at still ⊢
      have record : (leftPane h kind (s.pane p)).held = (departedPane h kind (s.pane p)).held := rfl
      have owners : (leftPane h kind (s.pane p)).owner = (departedPane h kind (s.pane p)).owner := rfl
      rw [record]
      rw [owners] at still
      rcases departedPane_cases h kind (s.pane p) with ⟨same, -⟩ | ⟨freed, -⟩ | ⟨gone | gone, -⟩
      · exact absurd (by rw [same, owner]) still
      · rw [freed]; rfl
      · rw [gone]; rfl
      · rw [gone]; rfl
  rw [takeIdleStages_pane_unheld p u unheld, left.own p owner]

/-! ## What the statements say of it -/

theorem leftPane_tears (h : HostNo) (kind : Departure) (q : Pane) : (leftPane h kind q).tears = q.tears := by
  unfold leftPane departedPane
  (repeat' split) <;> rfl

section
variable (h : HostNo) (kind : Departure) (q : Pane) (owner : q.owner = some h)
include owner

theorem leftPane_pending (pending : q.state = .pending) : leftPane h kind q = .free q.tears := by
  simp [leftPane, departedPane, owner, pending, Pane.free]

theorem leftPane_retiring (fields : q.fieldsOk) (retiring : q.state = .retiring) : leftPane h kind q = q := by
  obtain ⟨-, -, -, shape⟩ := fields
  simp only [retiring] at shape
  obtain ⟨-, -, guest, -⟩ := shape
  obtain ⟨⟩ := q
  simp_all [leftPane, departedPane]

theorem leftPane_live (fields : q.fieldsOk) (live : q.state = .live) : leftPane h kind q =
    if kind = .detach .release then ⟨.retiring, some h, none, none, q.current, none, q.modes, none, none, q.tears⟩
    else ⟨.orphaned, none, some h, none, q.current, none, q.modes, none, none, q.tears⟩ := by
  obtain ⟨-, -, -, shape⟩ := fields
  simp only [live] at shape
  obtain ⟨-, former, -⟩ := shape
  by_cases release : kind = .detach .release <;>
    simp [leftPane, departedPane, owner, live, release, retiringPane, orphanedPane, former]

theorem leftPane_ended (fields : q.fieldsOk) : (leftPane h kind q).held = none ∧ (leftPane h kind q).state ≠ .pending ∧
    (leftPane h kind q).state ≠ .live := by
  rcases fieldsOk_state_of_owner fields h owner with state | state | state
  · simp [leftPane_pending h kind q owner state, Pane.free]
  · rw [leftPane_live h kind q owner fields state]
    split <;> simp
  · have ⟨_, _, _, shape⟩ := fields
    simp only [state] at shape
    rw [leftPane_retiring h kind q owner fields state]
    simp [state, shape]

end

namespace OthersLeft
variable {h : HostNo} {kind : Departure} {before : List Event} {s u : State} (left : OthersLeft h kind before s u)
include left

/-- Nobody may work on the departed owner's panes any more (R12). -/
theorem untouched (fields : ∀ p, (s.pane p).fieldsOk) (apart : Apart h u) (work : s.workOk) (p : PaneNo)
    (owner : (s.pane p).owner = some h) : Untouched p (s.pane p).tears u := by
  have record := left.own p owner
  refine ⟨by rw [record, leftPane_tears], by rw [record]; exact (leftPane_ended h kind _ owner (fields p)).2,
    fun g w service onPane => ?_⟩
  by_cases own : g = h
  · subst own
    exact apart.busy w service
  rw [left.lane g own] at service
  obtain ⟨v, held, stopped⟩ := Option.bind_eq_some_iff.1 service
  obtain ⟨named, stopping, rights⟩ := work g v held
  have pane : w.pane = v.pane := by
    unfold stoppedService at stopped
    (repeat' split at stopped) <;> cases stopped <;> rfl
  obtain ⟨-, access, -, ends⟩ := stoppedService_delayed stopped
  rw [access]
  cases stop : v.stop with
  | some _ => exact stopping (by rw [stop]; rfl)
  | none =>
    have rights := rights stop
    rw [← pane, onPane, owner] at rights
    rcases rights with ⟨owns, -⟩ | ⟨guest, live⟩
    · exact absurd (Option.some.inj owns).symm own
    · rw [← access]
      refine (ends ((onSome_iff _ _).2 ⟨p, (mem_guestPanesOf s h g p).2 ⟨owner, live, guest⟩, ?_⟩)).1
      rw [onPane_iff, named, ← pane, onPane]

/-- Table 7-4. -/
theorem panesLeft (fields : ∀ p, (s.pane p).fieldsOk) (apart : Apart h u) : s.panesLeft (settle u) h kind := by
  intro p owner
  have record := left.own p owner
  have held := (leftPane_ended h kind _ owner (fields p)).1
  have settled := settle_pane_unheld u p (by simp [record, held])
  rw [record] at settled
  refine ⟨fun work => (left.untouched fields apart work p owner).settle.tears, fun pending => ?_, fun retiring => ?_,
    fun live => ?_⟩
  · rw [leftPane_pending h kind _ owner pending] at settled
    exact settled
  · rwa [leftPane_retiring h kind _ owner (fields p) retiring] at settled
  · rw [leftPane_live h kind _ owner (fields p) live] at settled
    rw [settled]
    split <;> rfl

/-- A guest's work on the panes has ended, and stays so. -/
theorem ended (g : HostNo) (other : g ≠ h) : Ended s.workOk g (guestPanesOf s h g) (guestEnd kind).1 u := by
  have lane := left.lane g other
  refine ⟨fun op inLane => ?_, fun w service on => ?_, fun work w service => ?_, fun _ e listed => left.parked e listed g other⟩
  · rw [lane] at inLane
    simpa using (List.mem_filter.1 inLane).2
  all_goals
    rw [lane] at service
    obtain ⟨v, held, stopped⟩ := Option.bind_eq_some_iff.1 service
    have same : w.op = v.op ∧ w.pane = v.pane := by
      unfold stoppedService at stopped
      (repeat' split at stopped) <;> cases stopped <;> exact ⟨rfl, rfl⟩
  · exact (stoppedService_delayed stopped).2.2.2 (same.1 ▸ on)
  · rw [onPane_iff, same.1, same.2]
    exact (work g v held).1

end OthersLeft

/-! ## The statement's lists -/

theorem livesOf_eq (s : State) (h : HostNo) :
    (allPanes.filter fun p => (s.pane p).owner = some h ∧ (s.pane p).state = .live) = allPanes.filter (owns s h .live) := by
  simp only [Bool.decide_and]
  rfl

theorem guestedOf_eq (s : State) (h g : HostNo) :
    ((allPanes.filter (owns s h .live)).filter fun p => (s.pane p).guest = some g) = guestPanesOf s h g := by
  rw [List.filter_filter, guestPanesOf]
  exact List.filter_congr fun p _ => Bool.and_comm _ _

/-- The answers of ended operations, as the statements write them. -/
theorem stoppedResponses_onSome (s : State) (g : HostNo) (panes : List PaneNo) (status : Status) :
    stoppedResponses s g (·.onSome panes) status =
      ((s.lane g).service.toList.filter fun v => (panes.any fun p => v.op.pane.toNat = p.val) && v.access ≠ .inProgress).map
        (fun v => responseTo v.op.kind v.op.tag status (.count v.written))
      ++ ((s.lane g).queued.filter fun op => panes.any fun p => op.pane.toNat = p.val).map
        fun op => responseTo op.kind op.tag status (.count 0) := rfl

theorem departureEvents_eq (s : State) (h : HostNo) (kind : Departure) (g : HostNo) : departureEvents s h kind g =
    (guestPanesOf s h g).map (fun p => Event.guestRevoked p h (if (kind = .detach .release) then .released else .orphaned))
      ++ if (kind = .detach .release) then [] else (allPanes.filter (owns s h .live)).map fun p =>
        Event.orphanNotice p h (orphanReason kind) := by
  unfold departureEvents revocations orphansOf
  match kind with
  | .lapse | .abrupt | .detach .orphan | .detach .release => rfl

theorem guestEnd_status (kind : Departure) : (guestEnd kind).1 = if kind = .detach .release then .cancelled else .revoked := by
  match kind with
  | .lapse | .abrupt | .detach .orphan | .detach .release => rfl

/-- What a departure does to the other hosts, once everything that follows at once has happened. -/
theorem OthersLeft.guestsTold {h : HostNo} {kind : Departure} {before : List Event} {s u : State}
    (left : OthersLeft h kind before s u) (apart : Apart h u) (active : ∀ g, g ≠ h → u.isActive g = s.isActive g)
    (short : before.length ≤ 1) (notes : ∀ e ∈ before, kind = .lapse ∧ ∃ i, e = .faultNote i .leaseLapse) :
    s.guestsTold (settle u) h kind := by
  intro g other guested work ended told
  have panes : guested = guestPanesOf s h g := by
    rw [← guestedOf_eq, ← livesOf_eq]
  have status : (if decide (kind = .detach .release) = true then Status.cancelled else Status.revoked) = (guestEnd kind).1 := by
    rw [guestEnd_status]
    exact if_congr decide_eq_true_iff rfl rfl
  have works : work = CellOp.onSome (guestPanesOf s h g) := by
    rw [← panes]
    rfl
  have ends : ended = stoppedResponses s g (·.onSome (guestPanesOf s h g)) (guestEnd kind).1 := by
    rw [stoppedResponses_onSome, ← status, ← panes]
  have tells : told = departureEvents s h kind g := by
    rw [departureEvents_eq, ← panes, ← livesOf_eq]
    simp only [told, decide_eq_true_eq]
    rfl
  have stays := (left.ended g other).settle
  obtain ⟨es, queue, kinds⟩ := (PassesBy.refl apart).settle.queue g
  rw [active g other, left.queue g other] at queue
  rw [works, status, tells, ends]
  refine ⟨?_, stays.queued, fun known e listed own => panes ▸ stays.parked known e listed own, stays.service,
    fun inactive => ?_, fun on => ⟨before, es, ?_, short, notes, kinds⟩⟩
  · obtain ⟨more, same⟩ := (left.responses g other).trans ((settle_settles u).answers g)
    exact ⟨more, same.symm⟩
  · simpa [inactive] using queue
  · simpa [on, EventQueue.posted_append] using queue

end Sys2Proof.Machine
end

section
/-! A lapse and an abrupt departure (R113, R115, R118, R133, R145, R151, R157): settles O16. -/
namespace Sys2Proof.Machine

/-! ## The departing host's port and transfers (R133, R145, R151) -/

/-- The port of the departing host, its queues cleared. -/
theorem clearedPort (h : HostNo) (lapse : Bool) (s : State) : (clearEvents h (portDeparture h lapse s)).port h =
    { s.port h with
      slots := 0, lapsedSeen := lapse || (s.port h).lapsedSeen, responses := [],
      exchange := (s.port h).exchange.map fun x => { x with queued := false }, attention := false } := by
  simp [clearEvents, refreshAttention, portDeparture, clearResponses_port]

theorem panelStarted_fifo (s : State) (x : Panel) : ∀ t ∈ (s.panelStarted x).fifo, t ∈ x.fifo := by
  intro t listed
  unfold State.panelStarted at listed
  split at listed
  · next first rest _ fifo =>
    split at listed
    · rw [fifo]
      exact List.mem_cons_of_mem _ listed
    · exact listed
  · exact listed

theorem panelStarted_inFlight (s : State) (x : Panel) (f : InFlight) (flying : (s.panelStarted x).inFlight = some f) :
    x.inFlight = some f ∨ f.transfer ∈ x.fifo := by
  unfold State.panelStarted at flying
  split at flying
  · next first rest _ fifo =>
    split at flying
    · obtain rfl := Option.some.inj flying
      exact .inr (by simp [fifo])
    · exact .inl flying
  · exact .inl flying

/-- No transfer of a silently departed host waits, and one in flight carries the discard mark (R151). -/
theorem silentPanel (h : HostNo) (s : State) :
    (∀ t ∈ (startTransfer (discardInFlight h (dropTransfers h s))).panel.fifo, t.host ≠ h) ∧
      ∀ f, (startTransfer (discardInFlight h (dropTransfers h s))).panel.inFlight = some f → f.transfer.host = h →
        f.discard = true := by
  have dropped (t : Transfer) (listed : t ∈ (discardInFlight h (dropTransfers h s)).panel.fifo) : t.host ≠ h := by
    simpa using (List.mem_filter.1 listed).2
  rw [startTransfer_eq, State.panel_setPanel]
  refine ⟨fun t listed => dropped t (panelStarted_fifo _ _ t listed), fun f flying mine => ?_⟩
  rcases panelStarted_inFlight _ _ f flying with marked | started
  · obtain ⟨k, -, rfl⟩ := Option.map_eq_some_iff.1 marked
    by_cases own : k.transfer.host = h
    · simp [own]
    · simp [own] at mine
  · exact absurd mine (dropped _ started)

/-! ## Every block's share -/

theorem Leaving.cleared {h : HostNo} {before : List Event} {s u : State} (leaving : Leaving h before s u) (lapse : Bool) :
    Leaving h before s (clearEvents h (portDeparture h lapse u)) := by
  obtain ⟨hosts, pane, lane, parked, responses, queue⟩ := leaving
  refine ⟨hosts.of_same (by simp) (by simp) (by simp), by simpa using pane, by simpa using lane, by simpa using parked,
    fun g other => ?_, fun g other => ?_⟩
  · simp [(portDeparture_cleared h g lapse u).2, other.symm, responses g other]
  · simpa [clearEvents, refreshAttention, other.symm] using queue g other

/-- What a silent departure leaves, but for the vote. -/
structure SilentlyLeft (h : HostNo) (kind : Departure) (before : List Event) (s u v : State) : Prop where
  others : OthersLeft h kind before s v
  apart : Apart h v
  active : ∀ g, g ≠ h → v.isActive g = s.isActive g
  host : v.host h = u.host h
  port : v.port h = { u.port h with
    slots := 0, lapsedSeen := decide (kind = .lapse) || (u.port h).lapsedSeen, responses := [],
    exchange := (u.port h).exchange.map fun x => { x with queued := false }, attention := false }
  queue : v.queue h = ⟨[], 0⟩
  lane : v.lane h = ⟨none, []⟩
  fifo : ∀ t ∈ v.panel.fifo, t.host ≠ h
  inFlight : ∀ f, v.panel.inFlight = some f → f.transfer.host = h → f.discard = true
  faults : v.faults = u.faults

theorem dropOps_parked (h : HostNo) (s : State) (e : Parked) : e ∈ (dropOps h s).parked ↔ e ∈ s.parked ∧ e.host ≠ h := by
  simp [dropOps]

/-- The Pane Manager's share with the port's before it, and the Write Engine's after it. -/
theorem Leaving.operationsDropped {h : HostNo} {before : List Event} {s u : State} (leaving : Leaving h before s u)
    (lawful : PanesLawful s) (kind : Departure) :
    ∃ w, Machine.dropOps h (Machine.departPanes h kind (clearEvents h (portDeparture h (kind = .lapse) u))) = w ∧
      OthersLeft h kind before s w ∧ Apart h w ∧ w.host h = u.host h ∧
      w.port h = (clearEvents h (portDeparture h (kind = .lapse) u)).port h ∧ w.queue h = ⟨[], 0⟩ ∧ w.lane h = ⟨none, []⟩ ∧
      w.faults = u.faults ∧ ∀ g, w.isActive g = u.isActive g := by
  have cleared := leaving.cleared (decide (kind = .lapse))
  have departed := departPanes_departed h kind (clearEvents h (portDeparture h (kind = .lapse) u))
  have left := (cleared.departPanes kind).of_same
    (v := Machine.dropOps h (Machine.departPanes h kind (clearEvents h (portDeparture h (kind = .lapse) u))))
    (by simp) (fun g other => by simp [Machine.dropOps, other.symm]) (fun g _ => by simp) (by simp)
    fun e listed => ((dropOps_parked h _ e).1 listed).1
  have port := departed.own cleared.hosts.inactive ((lawful.of_panes cleared.pane).guestPanesOf_self h)
  have queue := (departed.guest h).queue
  rw [cleared.hosts.inactive, clearEvents_queue] at queue
  have unheld := left.unheld lawful.fields
  refine ⟨_, rfl, left, ⟨?_, ?_, ?_, unheld, fun e listed => ?_⟩, ?_, ?_, ?_, ?_, ?_, fun g => ?_⟩
  · simpa using leaving.hosts.inactive
  · simp [Machine.dropOps]
  · simp [Machine.dropOps]
  · exact ((dropOps_parked h _ e).1 listed).2
  · simp
  · simpa using port
  · simpa using queue
  · simp [Machine.dropOps]
  · simp
  · simp

theorem Leaving.silently {h : HostNo} {before : List Event} {s u : State} (leaving : Leaving h before s u)
    (lawful : PanesLawful s) (kind : Departure) : SilentlyLeft h kind before s u (silentlyLeft h kind u) := by
  obtain ⟨w, dropped, left, apart, host, port, queue, lane, faults, active⟩ := leaving.operationsDropped lawful kind
  have idle : PassesBy h w (takeIdleStages w) :=
    forEach_induct (PassesBy h w) _ (fun p _ still => still.takeStageIfIdle p) _ _ (.refl apart)
  have ended : PassesBy h w (startTransfer (discardInFlight h (dropTransfers h (takeIdleStages w)))) :=
    idle.of_same (by simp) (by simp) (by simp) (by simp) (by simp) (by simp) (by simp) (by simp) (by simp)
  have panel := silentPanel h (takeIdleStages w)
  unfold Machine.silentlyLeft
  dsimp only
  rw [dropped]
  refine ⟨(left.takeIdleStages lawful.fields).of_same (by simp) (by simp) (fun g _ => by simp) (by simp) (by simp),
    ended.apart, fun g other => ?_, ended.host.trans host, ?_, by simpa using queue, ended.lane.trans lane, panel.1, panel.2,
    by simpa using faults⟩
  · rw [ended.active, active, leaving.hosts.active g other]
  · rw [ended.port, port, clearedPort]

theorem SilentlyLeft.setConf {h : HostNo} {kind : Departure} {before : List Event} {s u v : State}
    (left : SilentlyLeft h kind before s u v) (c : ConfigBlock) : SilentlyLeft h kind before s u (v.setConf c) := by
  obtain ⟨others, apart, active, host, port, queue, lane, fifo, inFlight, faults⟩ := left
  exact ⟨others.of_same (fun _ => rfl) (fun _ _ => rfl) (fun _ _ => List.prefix_rfl) (fun _ _ => rfl) (fun _ => id),
    ⟨apart.inactive, apart.queued, apart.busy, apart.unheld, apart.unparked⟩, active, host, port, queue, lane, fifo, inFlight,
    faults⟩

/-- What a host record keeps when its host leaves ACTIVE (R113, R115). -/
structure HostRecord.Left (after : HostState) (r q : HostRecord) : Prop where
  state : q.state = after
  lease : q.lease = 0
  warned : q.warned = false
  vote : q.vote = false
  tickets : q.tickets = r.tickets
  cells : q.cells = r.cells

section
variable {h : HostNo} {kind : Departure} {before : List Event} {s u v : State}

theorem SilentlyLeft.departed {after : HostState} (left : SilentlyLeft h kind before s u v)
    (record : HostRecord.Left after (s.host h) (u.host h)) : s.departed (settle v) h after := by
  have passed := (PassesBy.refl left.apart).settle
  have host := passed.host.trans left.host
  have port := passed.port.trans left.port
  obtain ⟨es, queue, -⟩ := passed.queue h
  rw [left.apart.inactive, left.queue] at queue
  obtain ⟨state, lease, warned, vote, tickets, cells⟩ := record
  rw [← host] at state lease warned vote tickets cells
  exact ⟨state, lease, warned, vote, tickets, cells, by rw [port], by rw [port], by rw [port], queue,
    passed.lane.trans left.lane, passed.apart.unparked, by simpa using left.fifo,
    fun f flying mine _ => left.inFlight f (by simpa using flying) mine, by simpa using left.others.guest,
    by simpa using left.others.other⟩

/-- A silent departure that completes no vote. -/
theorem Leaving.incomplete (leaving : Leaving h before s u) (lawful : PanesLawful s) (kind : Departure)
    (incomplete : ¬s.voteCompletes h) (short : before.length ≤ 1)
    (notes : ∀ e ∈ before, kind = .lapse ∧ ∃ i, e = .faultNote i .leaseLapse) :
    ∃ v, departSilently h kind u = settle v ∧ SilentlyLeft h kind before s u v ∧ s.panesLeft (settle v) h kind ∧
      s.guestsTold (settle v) h kind ∧ s.voteAfter (settle v) h := by
  have hosts : HostLeft h s (Machine.silentlyLeft h kind u) :=
    leaving.hosts.of_same (by simp [Machine.silentlyLeft]) (by simp [Machine.silentlyLeft]) (by simp [Machine.silentlyLeft])
  obtain ⟨c, judged, after⟩ := hosts.judge_incomplete incomplete
  have left := (leaving.silently lawful kind).setConf c
  exact ⟨_, by rw [departSilently_eq, judged], left, left.others.panesLeft lawful.fields left.apart,
    left.others.guestsTold left.apart left.active short notes, after _ (by simp)⟩

/-- A silent departure that completes the vote resets the part (R157). -/
theorem Leaving.completes {s' : State} (leaving : Leaving h before s u) (kind : Departure) (completes : s.voteCompletes h)
    (link : u.scan.link = s'.scan.link) (present : ∀ g, (u.port g).present = (s'.port g).present)
    (store : u.store = s'.store) (access : u.arbiter.access = s'.arbiter.access) :
    s'.voteReset (departSilently h kind u) := by
  have hosts : HostLeft h s (Machine.silentlyLeft h kind u) :=
    leaving.hosts.of_same (by simp [Machine.silentlyLeft]) (by simp [Machine.silentlyLeft]) (by simp [Machine.silentlyLeft])
  rw [departSilently_eq, hosts.judge_completes completes]
  refine voteReset_of_left (by simpa [Machine.silentlyLeft] using link) (by simpa [Machine.silentlyLeft] using present)
    ((resetStore_detached .vote h u _ (by simp [Machine.silentlyLeft]) (by simp [Machine.silentlyLeft, Machine.dropOps])).trans
      (resetStore_same .vote s' u store access))

end

/-! ## The LEASE_LAPSE report (R113, R136 to R139) -/

theorem postTo_queue (hs : List HostNo) (apart : hs.Nodup) (e : Event) (g : HostNo) (s : State) : (postTo hs e s).queue g =
    if g ∈ hs ∧ s.isActive g = true then (s.queue g).posted [e] else s.queue g := by
  induction hs generalizing s with
  | nil => simp [postTo]
  | cons h hs ih =>
    obtain ⟨outside, rest⟩ := List.nodup_cons.1 apart
    have later := ih rest (postEvent h e s)
    rw [postTo, forEach_cons]
    rw [postTo] at later
    rw [later, postEvent_posted]
    by_cases own : h = g
    · subst own
      simp [outside]
    · simp [own, Ne.symm own]

/-- The LEASE_LAPSE record of host `h`. -/
def lapseRecord (h : HostNo) (s : State) : FaultRecord := faultReport .leaseLapse (some h) none none s.scan.frame

/-- Host `h` once its lapse is reported, before the blocks depart. -/
def lapseReported (h : HostNo) (s : State) : State := reportFault (lapseRecord h s) (leaveActive h .lapsed s)

theorem leaveActive_hostLeft (h : HostNo) (after : HostState) (s : State) (gone : after ≠ .active) :
    HostLeft h s (leaveActive h after s) := by
  refine ⟨by simp [leaveActive, isActive_eq, gone], fun g other => ?_, fun g other => ?_, rfl⟩
  · simp [leaveActive, isActive_eq, other.symm]
  · simp [leaveActive, other.symm]

/-- A lapse is told to every other ACTIVE host once, when it makes a record, which stands in the lowest FREE slot where none
is HELD. -/
theorem lapseReported_leaving (h : HostNo) (s : State) : ∃ before, Leaving h before s (lapseReported h s) ∧
    before.length ≤ 1 ∧ (∀ e ∈ before, ∃ i, e = .faultNote i .leaseLapse) ∧
      ∀ i : Fin 16, (∀ j : Fin 16, ∀ r, s.faults.slots[j] = some r →
          ¬(r.kind = .leaseLapse ∧ r.host = some h ∧ r.pane = none)) →
        s.faults.slots[i] = none → (∀ j : Fin 16, j < i → s.faults.slots[j] ≠ none) →
        (lapseReported h s).faults.slots[i] = some (lapseRecord h s) := by
  have left := leaveActive_hostLeft h .lapsed s nofun
  have hosts : HostLeft h s (lapseReported h s) := left.of_same (by simp [lapseReported]) (by simp [lapseReported])
    (by simp [lapseReported])
  have leaving (before : List Event) (queue : ∀ g, g ≠ h → (lapseReported h s).queue g =
      if s.isActive g = true then (s.queue g).posted before else s.queue g) : Leaving h before s (lapseReported h s) :=
    ⟨hosts, by simp [lapseReported], by simp [lapseReported], by simp [lapseReported], by simp [lapseReported], queue⟩
  have unnoted (same : ∀ g, (lapseReported h s).queue g = s.queue g) : Leaving h [] s (lapseReported h s) :=
    leaving [] fun g _ => by simp [same, EventQueue.posted]
  have notes : noteHosts (lapseRecord h s) = allHosts.filter fun g => some h ≠ some g := rfl
  have report : lapseReported h s = takeReport (noteHosts (lapseRecord h s)) (lapseRecord h s) (leaveActive h .lapsed s) := rfl
  rcases takeReport_cases (noteHosts (lapseRecord h s)) (lapseRecord h s) (leaveActive h .lapsed s) with
    ⟨k, q, held, same, merged⟩ | ⟨-, k, free, lowest, recorded⟩ | ⟨full, counted⟩
  · refine ⟨[], unnoted fun g => by rw [report, merged]; rfl, by simp, nofun, fun i none => ?_⟩
    obtain ⟨kind, host, pane⟩ := (sameFault_iff _ _).1 same
    exact absurd ⟨kind.symm, host.symm, pane.symm⟩ (none k q held)
  · refine ⟨[.faultNote k .leaseLapse], leaving _ fun g other => ?_, by simp, by simp, fun i _ free' lowest' => ?_⟩
    · rw [report, recorded, notes, postTo_queue _ (List.Nodup.filter _ (by decide))]
      have listed : g ∈ allHosts.filter fun g => some h ≠ some g := by simp [mem_allHosts, other.symm]
      have on (f : FaultLog) : ((leaveActive h .lapsed s).setFaults f).isActive g = s.isActive g := left.active g other
      simp only [listed, true_and, on]
      rfl
    · have here : k = i := le_antisymm (not_lt.1 fun below => lowest i below free') (not_lt.1 fun above => lowest' k above free)
      subst here
      rw [report, recorded, postTo_faults]
      exact Vector.getElem_set_self k.isLt
  · refine ⟨[], unnoted fun g => by rw [report, counted]; rfl, by simp, nofun, fun i _ free => ?_⟩
    obtain ⟨q, held, -⟩ := full i
    exact absurd (free.symm.trans held) nofun

theorem lapseReported_record (h : HostNo) (s : State) :
    HostRecord.Left .lapsed (s.host h) ((lapseReported h s).host h) := by
  constructor <;> simp [lapseReported, leaveActive]

/-- Host `h` once its present line is down, before the blocks depart. -/
theorem abrupt_leaving (h : HostNo) (s : State) : Leaving h [] s (leaveActive h .absent (dropLine h s)) := by
  have down := leaveActive_hostLeft h .absent (dropLine h s) nofun
  refine ⟨⟨down.inactive, fun g other => ?_, fun g other => ?_, by simp⟩, by simp, by simp, by simp, fun g other => ?_,
    fun g _ => by simp [EventQueue.posted]⟩
  · rw [down.active g other]; simp
  · rw [down.vote g other]; simp
  · simp [dropLine, clearResponses_port_other, other.symm]

/-- Settles O16: each block's share of the departure, then the vote's judgement, and what follows at once passes the departed
host by. -/
theorem silentDeparture : Obligations.SilentDeparture := by
  unfold Obligations.SilentDeparture
  intro s h table active
  have lawful := PanesLawful.of_table table
  have state : (s.host h).state = .active := by simpa [isActive_eq] using active
  have abrupt (present : (s.port h).present = true) : exec (.hostPresentDeasserted h) s =
      .next (departSilently h .abrupt (leaveActive h .absent (dropLine h s))) := by
    have same : ((dropLine h s).host h).state = .active := by simpa using state
    refine congrArg Host.Outcome.next ?_
    simp only [presentDeasserted, present, same, if_true]
  have lapse (run : s.inRun = true) : exec (.leaseExpiry h) s = .next (departSilently h .lapse (lapseReported h s)) := by
    refine congrArg Host.Outcome.next ?_
    simp only [leaseExpiry, active, run, Bool.and_self, if_true]
    rfl
  refine ⟨fun incomplete => ⟨fun present => ?_, fun run => ?_⟩, fun completes => ⟨fun present => ?_, fun run => ?_⟩⟩
  · obtain ⟨v, departs, left, panes, guests, vote⟩ :=
      (abrupt_leaving h s).incomplete lawful .abrupt incomplete (by simp) nofun
    refine ⟨_, abrupt present, ?_⟩
    rw [departs]
    refine ⟨left.departed (by constructor <;> simp [leaveActive]), panes, guests, vote, ?_⟩
    rw [(PassesBy.refl left.apart).settle.port, left.port]
    simp [dropLine, clearResponses_port]
  · obtain ⟨before, leaving, short, notes, recorded⟩ := lapseReported_leaving h s
    obtain ⟨v, departs, left, panes, guests, vote⟩ := leaving.incomplete lawful .lapse incomplete short
      fun e told => ⟨rfl, notes e told⟩
    refine ⟨_, lapse run, ?_⟩
    rw [departs]
    have passed := (PassesBy.refl left.apart).settle
    refine ⟨left.departed (lapseReported_record h s), panes, guests, vote, ?_, fun i none free lowest => ?_⟩
    · rw [passed.port, left.port]
      simp [lapseReported]
    · refine passed.lapse i _ ?_ rfl
      rw [left.faults]
      exact recorded i none free lowest
  · refine ⟨_, abrupt present, (abrupt_leaving h s).completes .abrupt completes (by simp) (fun g => ?_) (by simp) (by simp)⟩
    by_cases own : h = g
    · subst own
      simp [dropLine, clearResponses_port]
    · simp [dropLine, clearResponses_port_other, own]
  · obtain ⟨before, leaving, -⟩ := lapseReported_leaving h s
    exact ⟨_, lapse run, leaving.completes .lapse completes (by simp [lapseReported]) (by simp [lapseReported])
      (by simp [lapseReported]) (by simp [lapseReported])⟩

end Sys2Proof.Machine
end

section
/-! DETACH (R26, R27, R116, R117, R145, R157): settles O19. -/
namespace Sys2Proof.Machine

/-! ## The order of a DETACH's answers (R117) -/

section
variable {α : Type} (pick : Nat → Bool)

theorem interleave_sublist (fuel : Nat) (l m : List α) :
    l.Sublist (interleave pick fuel l m) ∧ m.Sublist (interleave pick fuel l m) := by
  induction fuel generalizing l m with
  | zero => exact ⟨List.sublist_append_left l m, List.sublist_append_right l m⟩
  | succ n ih =>
    match l, m with
    | [], m => exact ⟨by simp, by simp [interleave]⟩
    | a :: l, [] => exact ⟨by simp [interleave], by simp⟩
    | a :: l, b :: m =>
      rw [interleave]
      split
      · exact ⟨(ih l (b :: m)).1.cons_cons a, (ih l (b :: m)).2.cons a⟩
      · exact ⟨(ih (a :: l) m).1.cons b, (ih (a :: l) m).2.cons_cons b⟩

end

/-- Each block's answers stand in its own order. -/
theorem detachAnswers_sublist (n : Nat) (panes cells panel : List Response) :
    panes.Sublist (detachAnswers n panes cells panel) ∧ cells.Sublist (detachAnswers n panes cells panel) ∧
      panel.Sublist (detachAnswers n panes cells panel) := by
  have both := interleave_sublist (Config.pick n) (panes.length + cells.length) panes cells
  have all := interleave_sublist (Config.pick (n + 1))
    ((interleave (Config.pick n) (panes.length + cells.length) panes cells).length + panel.length)
    (interleave (Config.pick n) (panes.length + cells.length) panes cells) panel
  exact ⟨both.1.trans all.1, both.2.trans all.1, all.2⟩

/-! ## The blocks' shares, up to the vote -/

/-- A DETACH of host `h` with its panes' requests, its cell work and its queued transfers answered. -/
def detachAnswered (h : HostNo) (mode : DetachMode) (s : State) (held ops transfers : List Response) : State :=
  answerAll h (detachAnswers (dropTransfers h (detachStopped h mode s)).choices held ops transfers)
    ((dropTransfers h (detachStopped h mode s)).setChoices ((dropTransfers h (detachStopped h mode s)).choices + 2))

/-- A DETACH of host `h` before the vote is judged. -/
def detachLeft (h : HostNo) (own : Response) (mode : DetachMode) (s : State) (held ops transfers : List Response) : State :=
  startTransfer (placeDetach h own (takeIdleStages (detachAnswered h mode s held ops transfers)))

theorem detachHost_eq (h : HostNo) (tag : Byte) (mode : DetachMode) (s : State) : detachHost h tag mode s =
    settle (judgeVote (detachLeft h (detachResponse s h tag mode) mode s (cancelledHeldOf s h)
      (stoppedResponses (departPanes h (.detach mode) (leaveActive h .absent s)) h (fun _ => true) .cancelled)
      (cancelledTransfers (departPanes h (.detach mode) (leaveActive h .absent s)) h))) := rfl

/-- What a departed host's cell work comes to: an operation with its access in progress, marked CANCELLED (R86, R88). -/
def cancelledService (l : Lane) : Option Service := l.service.bind (stoppedService (fun _ => true) .cancelled)

theorem cancelledService_busy {l : Lane} {w : Service} (left : cancelledService l = some w) : w.access = .inProgress := by
  obtain ⟨v, -, stopped⟩ := Option.bind_eq_some_iff.1 left
  exact ((stoppedService_delayed stopped).2.2.2 rfl).1

theorem Apart.of_same {h : HostNo} {s t : State} (apart : Apart h s) (active : t.isActive h = s.isActive h)
    (lane : t.lane h = s.lane h) (owner : ∀ p, (t.pane p).owner = (s.pane p).owner)
    (held : ∀ p, (t.pane p).held = (s.pane p).held) (parked : t.parked = s.parked) : Apart h t :=
  ⟨by rw [active, apart.inactive], by rw [lane, apart.queued], by rw [lane]; exact apart.busy,
    fun p => by rw [owner, held]; exact apart.unheld p, by rw [parked]; exact apart.unparked⟩

section
variable {h : HostNo} {s u : State}

/-- Without a pane of its own to guest a departing host's lane stands until its work is stopped. -/
theorem departPanes_ownLane (lawful : PanesLawful u) (kind : Departure) : (departPanes h kind u).lane h = u.lane h := by
  have lane := ((departPanes_departed h kind u).guest h).lane
  rw [lawful.guestPanesOf_self h] at lane
  have stays (service : Option Service) : service.bind (stoppedService (CellOp.onSome []) (guestEnd kind).1) = service := by
    cases service <;> simp [stoppedService, CellOp.onSome]
  rw [lane, stays]
  simp [CellOp.onSome]

/-- The departure of the panes and the stop of the host's own work. -/
theorem detachStopped_left (mode : DetachMode) (lawful : PanesLawful s) (r : State)
    (leaving : Leaving h [] s (leaveActive h .absent r)) :
    OthersLeft h (.detach mode) [] s (detachStopped h mode r) ∧ Apart h (detachStopped h mode r) ∧
      (detachStopped h mode r).lane h = ⟨cancelledService (s.lane h), []⟩ ∧
      (detachStopped h mode r).port h = r.port h ∧ (detachStopped h mode r).queue h = r.queue h := by
  have left := leaving.departPanes (.detach mode)
  have departed := departPanes_departed h (.detach mode) (leaveActive h .absent r)
  have panes := lawful.of_panes leaving.pane
  have lane := departPanes_ownLane panes (h := h) (.detach mode)
  rw [leaving.lane] at lane
  have port := departed.own leaving.hosts.inactive (panes.guestPanesOf_self h)
  have queue := (departed.guest h).queue
  rw [leaving.hosts.inactive] at queue
  have inactive : (departPanes h (.detach mode) (leaveActive h .absent r)).isActive h = false := by
    simpa using leaving.hosts.inactive
  unfold detachStopped
  generalize departPanes h (.detach mode) (leaveActive h .absent r) = w at left lane port queue inactive
  have stopped : (stopOps h (fun _ => true) (fun _ => true) .cancelled w).lane h = ⟨cancelledService (s.lane h), []⟩ := by
    rw [stopOps_lane, if_pos rfl, lane]
    simp [cancelledService]
  have parked (e : Parked) (listed : e ∈ (stopOps h (fun _ => true) (fun _ => true) .cancelled w).parked) :
      e ∈ w.parked ∧ e.host ≠ h := by
    simpa [stopOps] using listed
  have others : OthersLeft h (.detach mode) [] s (stopOps h (fun _ => true) (fun _ => true) .cancelled w) :=
    left.of_same (by simp) (fun g other => by rw [stopOps_lane, if_neg other.symm]) (fun g _ => by simp) (by simp)
      fun e listed => (parked e listed).1
  refine ⟨others, ⟨by simpa using inactive, by rw [stopped], fun v service => ?_, others.unheld lawful.fields,
    fun e listed => (parked e listed).2⟩, stopped, by simpa using port, by simpa using queue⟩
  rw [stopped] at service
  exact cancelledService_busy service

end

/-- What a DETACH leaves, but for the vote. -/
structure DetachLeft (h : HostNo) (own : Response) (mode : DetachMode) (answers : List Response) (s v : State) : Prop where
  others : OthersLeft h (.detach mode) [] s v
  apart : Apart h v
  active : ∀ g, g ≠ h → v.isActive g = s.isActive g
  host : (v.host h).state = .absent ∧ (v.host h).lease = 0 ∧ (v.host h).vote = false
  queue : v.queue h = s.queue h
  fifo : ∀ t ∈ v.panel.fifo, t.host ≠ h
  placed : cancelledService (s.lane h) = none →
    (v.port h).responses = (s.port h).responses ++ answers ++ [own] ∧ v.lane h = ⟨none, []⟩
  delayed : ∀ w, cancelledService (s.lane h) = some w → (v.port h).responses = (s.port h).responses ++ answers ∧
    (v.lane h).service = some { w with delayed := w.delayed ++ [own] }

/-- The blocks' answers reach host `h` alone, and a held PANE_STAGE of another owner that its work held is taken after them. -/
theorem detachAnswered_idle {h : HostNo} {s : State} (mode : DetachMode) (lawful : PanesLawful s) (r : State)
    (leaving : Leaving h [] s (leaveActive h .absent r)) (held ops transfers : List Response) :
    ∃ t, takeIdleStages (detachAnswered h mode r held ops transfers) = t ∧ OthersLeft h (.detach mode) [] s t ∧ Apart h t ∧
      t.lane h = ⟨cancelledService (s.lane h), []⟩ ∧ (t.port h).responses = (r.port h).responses ++
        detachAnswers (dropTransfers h (detachStopped h mode r)).choices held ops transfers := by
  obtain ⟨others, apart, lane, port, -⟩ := detachStopped_left mode lawful r leaving
  unfold detachAnswered
  generalize detachStopped h mode r = w at others apart lane port
  generalize detachAnswers (dropTransfers h w).choices held ops transfers = answers
  have answered := others.of_same (v := answerAll h answers ((dropTransfers h w).setChoices ((dropTransfers h w).choices + 2)))
    (by simp) (by simp) (fun g other => by rw [answerAll_port_other h g other.symm]; simp) (by simp) (by simp)
  have aside := apart.of_same (t := answerAll h answers ((dropTransfers h w).setChoices ((dropTransfers h w).choices + 2)))
    (by simp) (by simp) (by simp) (by simp) (by simp)
  have idle : PassesBy h _ (takeIdleStages (answerAll h answers
      ((dropTransfers h w).setChoices ((dropTransfers h w).choices + 2)))) :=
    forEach_induct (PassesBy h _) _ (fun p _ still => still.takeStageIfIdle p) _ _ (.refl aside)
  refine ⟨_, rfl, answered.takeIdleStages lawful.fields, idle.apart, by simpa using lane, ?_⟩
  rw [idle.port, (answerAll_port h h answers _).1, if_pos rfl]
  simp [port]

theorem detachLeft_left {h : HostNo} {s : State} (own : Response) (mode : DetachMode) (lawful : PanesLawful s) (r : State)
    (leaving : Leaving h [] s (leaveActive h .absent r)) (responses : (r.port h).responses = (s.port h).responses)
    (queue : r.queue h = s.queue h) (held ops transfers : List Response) :
    DetachLeft h own mode (detachAnswers (dropTransfers h (detachStopped h mode r)).choices held ops transfers) s
      (detachLeft h own mode r held ops transfers) := by
  obtain ⟨t, idle, others, apart, lane, answers⟩ := detachAnswered_idle mode lawful r leaving held ops transfers
  have active (g : HostNo) : t.isActive g = (leaveActive h .absent r).isActive g := by
    simp [← idle, detachAnswered, detachStopped]
  have host : t.host h = (leaveActive h .absent r).host h := by simp [← idle, detachAnswered, detachStopped]
  have told : t.queue h = r.queue h := by
    rw [← (detachStopped_left mode lawful r leaving).2.2.2.2, ← idle]
    simp [detachAnswered]
  have fifo : t.panel.fifo = (detachStopped h mode r).panel.fifo.filter fun x => x.host ≠ h := by
    simp [← idle, detachAnswered, dropTransfers]
  rw [responses] at answers
  unfold detachLeft
  rw [idle]
  generalize detachAnswers (dropTransfers h (detachStopped h mode r)).choices held ops transfers = listed at answers
  have placed : OthersLeft h (.detach mode) [] s (placeDetach h own t) ∧ Apart h (placeDetach h own t) ∧
      (cancelledService (s.lane h) = none → ((placeDetach h own t).port h).responses = (s.port h).responses ++ listed ++ [own] ∧
        (placeDetach h own t).lane h = ⟨none, []⟩) ∧
      ∀ w, cancelledService (s.lane h) = some w → ((placeDetach h own t).port h).responses = (s.port h).responses ++ listed ∧
        ((placeDetach h own t).lane h).service = some { w with delayed := w.delayed ++ [own] } := by
    unfold placeDetach
    cases service : cancelledService (s.lane h) with
    | none =>
      rw [service] at lane
      simp only [lane]
      refine ⟨others.of_same (by simp) (by simp) (fun g other => by simp [answer_port, other.symm]) (by simp) (by simp),
        apart.of_same (by simp) (by simp) (by simp) (by simp) (by simp), fun _ => ⟨?_, by simpa using lane⟩, nofun⟩
      simp [answer_port, answers]
    | some w =>
      rw [service] at lane
      simp only [lane]
      refine ⟨others.of_same (by simp) (fun g other => by simp [other.symm]) (fun g _ => by simp) (by simp) (by simp),
        ⟨apart.inactive, by simp, fun v is => ?_, apart.unheld, apart.unparked⟩, nofun, fun v is => ?_⟩
      · obtain rfl : _ = v := by simpa using is
        exact cancelledService_busy (w := w) service
      · obtain rfl := Option.some.inj is
        exact ⟨by simpa using answers, by simp⟩
  obtain ⟨others, apart, now, later⟩ := placed
  refine ⟨others.of_same (by simp) (by simp) (fun g _ => by simp) (by simp) (by simp),
    apart.of_same (by simp) (by simp) (by simp) (by simp) (by simp), fun g other => ?_, ?_, ?_, fun x inFifo => ?_,
    by simpa using now, by simpa using later⟩
  · simpa [active] using leaving.hosts.active g other
  · simp [host, leaveActive]
  · simpa [told] using queue
  · rw [startTransfer_eq, State.panel_setPanel] at inFifo
    have before := panelStarted_fifo _ _ x inFifo
    simp only [placeDetach_frame, fifo] at before
    simpa using (List.mem_filter.1 before).2

theorem DetachLeft.setConf {h : HostNo} {own : Response} {mode : DetachMode} {answers : List Response} {s v : State}
    (left : DetachLeft h own mode answers s v) (c : ConfigBlock) : DetachLeft h own mode answers s (v.setConf c) := by
  obtain ⟨others, apart, active, host, queue, fifo, placed, delayed⟩ := left
  exact ⟨others.of_same (fun _ => rfl) (fun _ _ => rfl) (fun _ _ => List.prefix_rfl) (fun _ _ => rfl) (fun _ => id),
    apart.of_same rfl rfl (fun _ => rfl) (fun _ => rfl) rfl, active, host, queue, fifo, placed, delayed⟩

/-- A DETACH that completes no vote. -/
theorem DetachLeft.judged {h : HostNo} {own : Response} {mode : DetachMode} {answers : List Response} {s u : State}
    (left : DetachLeft h own mode answers s u) (hosts : HostLeft h s u) (incomplete : ¬s.voteCompletes h) :
    ∃ v, judgeVote u = v ∧ DetachLeft h own mode answers s v ∧ s.voteAfter (settle v) h := by
  obtain ⟨c, judged, after⟩ := hosts.judge_incomplete incomplete
  exact ⟨_, judged, left.setConf c, after _ (by simp)⟩

/-! ## DETACH -/

theorem detachModeOf_code (m : DetachMode) : detachModeOf m.code = some m := by cases m <;> rfl

theorem detachModeOf_large (mode : Byte) (large : 2 ≤ mode.toNat) : detachModeOf mode = none := by
  have zero : mode ≠ 0x00#8 := by rintro rfl; simp at large
  have one : mode ≠ 0x01#8 := by rintro rfl; simp at large
  simp [detachModeOf, zero, one]

theorem detach_leaving (h : HostNo) (s : State) : Leaving h [] s (leaveActive h .absent (s.received h)) := by
  have left := leaveActive_hostLeft h .absent (s.received h) nofun
  refine ⟨⟨left.inactive, fun g other => ?_, fun g other => ?_, by simp⟩, by simp, by simp, by simp, fun g _ => by simp,
    fun g _ => by simp [EventQueue.posted]⟩
  · rw [left.active g other]; simp
  · rw [left.vote g other]; simp

/-! ### The statement's lists -/

theorem pendingsOf_eq (s : State) (h : HostNo) :
    (allPanes.filter fun p => (s.pane p).owner = some h ∧ (s.pane p).state = .pending) = allPanes.filter (owns s h .pending) := by
  simp only [Bool.decide_and]
  rfl

theorem detachResponse_eq (s : State) (h : HostNo) (tag : Byte) (m : DetachMode) : detachResponse s h tag m =
    responseTo .detach tag .ok (.detach m
      (if m = .release then (allPanes.filter fun p => (s.pane p).owner = some h ∧ (s.pane p).state = .live).length else 0)
      (if m = .orphan then (allPanes.filter fun p => (s.pane p).owner = some h ∧ (s.pane p).state = .live).length else 0)
      (allPanes.filter fun p => (s.pane p).owner = some h ∧ (s.pane p).state = .pending).length) := by
  rw [livesOf_eq, pendingsOf_eq]
  cases m <;> rfl

theorem stoppedResponses_all (s : State) (h : HostNo) : stoppedResponses s h (fun _ => true) .cancelled =
    ((s.lane h).service.toList.filter fun v => v.access ≠ .inProgress).map
        (fun v => responseTo v.op.kind v.op.tag .cancelled (.count v.written))
      ++ (s.lane h).queued.map fun op => responseTo op.kind op.tag .cancelled (.count 0) := by
  simp only [stoppedResponses, Bool.true_and, List.filter_true]
  rfl

theorem cancelledService_none (l : Lane) (idle : ∀ v, l.service = some v → v.access ≠ .inProgress) :
    cancelledService l = none := by
  cases service : l.service with
  | none => simp [cancelledService, service]
  | some v => simp [cancelledService, service, stoppedService, Service.stopsAtOnce, idle v service]

theorem cancelledService_some (l : Lane) (v : Service) (service : l.service = some v) (busy : v.access = .inProgress) :
    cancelledService l = some { v with stop := some .cancelled } := by
  simp [cancelledService, service, stoppedService, Service.stopsAtOnce, busy]

/-- A DETACH in a valid mode, from a state in which the host has its slot and its full lease. -/
theorem detachHost_received (s : State) (h : HostNo) (tag : Byte) (m : DetachMode) (lawful : PanesLawful s) :
    detachHost h tag m (s.received h) = settle (judgeVote (detachLeft h (detachResponse s h tag m) m (s.received h)
      (cancelledHeldOf s h) (stoppedResponses s h (fun _ => true) .cancelled) (cancelledTransfers s h))) := by
  have leaving := detach_leaving h s
  have lane := (departPanes_ownLane (lawful.of_panes leaving.pane) (h := h) (.detach m)).trans (leaving.lane h)
  have held : cancelledHeldOf (s.received h) h = cancelledHeldOf s h := by simp [cancelledHeldOf]
  have owned (st : PaneState) : owns (s.received h) h st = owns s h st := funext fun p => by simp [owns]
  have own : detachResponse (s.received h) h tag m = detachResponse s h tag m := by
    simp only [detachResponse, owned]
  have transfers : cancelledTransfers (departPanes h (.detach m) (leaveActive h .absent (s.received h))) h =
      cancelledTransfers s h := by
    simp [cancelledTransfers]
  rw [detachHost_eq, held, own, stoppedResponses_of_lane lane, transfers]

/-- Settles O19: the panes, the cell work, the transfers and the answers block by block, then the vote's judgement; what
follows at once passes the departed host by. -/
theorem detachDeparts : Obligations.DetachDeparts := by
  unfold Obligations.DetachDeparts
  intro s h tag speaks
  have detaches (mode : Byte) : exec (.detach h tag mode) s = .next (takeDetach h tag mode (s.received h)) :=
    congrArg _ (request_speaks h .detach tag _ s speaks)
  refine ⟨fun mode large => ?_, fun m table => ?_⟩
  · rw [detaches, takeDetach, detachModeOf_large mode large]
    exact congrArg _ (reply_received ..)
  have lawful := PanesLawful.of_table table
  have leaving := detach_leaving h s
  have run : exec (.detach h tag m.code) s = .next (settle (judgeVote (detachLeft h (detachResponse s h tag m) m
      (s.received h) (cancelledHeldOf s h) (stoppedResponses s h (fun _ => true) .cancelled) (cancelledTransfers s h)))) := by
    rw [detaches, takeDetach, detachModeOf_code, ← detachHost_received s h tag m lawful]
  have left := detachLeft_left (detachResponse s h tag m) m lawful (s.received h) leaving (by simp) (by simp)
    (cancelledHeldOf s h) (stoppedResponses s h (fun _ => true) .cancelled) (cancelledTransfers s h)
  have lists := detachAnswers_sublist (dropTransfers h (detachStopped h m (s.received h))).choices
    (cancelledHeldOf s h) (stoppedResponses s h (fun _ => true) .cancelled) (cancelledTransfers s h)
  have total := length_detachAnswers (dropTransfers h (detachStopped h m (s.received h))).choices
    (cancelledHeldOf s h) (stoppedResponses s h (fun _ => true) .cancelled) (cancelledTransfers s h)
  generalize detachAnswers (dropTransfers h (detachStopped h m (s.received h))).choices (cancelledHeldOf s h)
    (stoppedResponses s h (fun _ => true) .cancelled) (cancelledTransfers s h) = answers at left lists total
  have hosts : HostLeft h s (detachLeft h (detachResponse s h tag m) m (s.received h) (cancelledHeldOf s h)
      (stoppedResponses s h (fun _ => true) .cancelled) (cancelledTransfers s h)) :=
    leaving.hosts.of_same (by simp [detachLeft, detachAnswered, detachStopped])
      (by simp [detachLeft, detachAnswered, detachStopped]) (by simp [detachLeft, detachAnswered, detachStopped])
  refine ⟨fun completes => ⟨_, run, ?_⟩, fun incomplete => ?_⟩
  · rw [hosts.judge_completes completes]
    exact voteReset_of_left (by simp [detachLeft, detachAnswered, detachStopped])
      (by simp [detachLeft, detachAnswered, detachStopped])
      (resetStore_same .vote _ _ (by simp [detachLeft, detachAnswered, detachStopped])
        (by simp [detachLeft, detachAnswered, detachStopped]))
  · intro pendings lives own held ops transfers
    obtain ⟨v, judged, ⟨others, apart, active, ⟨state, lease, voted⟩, queue, fifo, placed, delayed⟩, vote⟩ :=
      left.judged hosts incomplete
    rw [judged] at run
    have ownEq : own = detachResponse s h tag m := (detachResponse_eq s h tag m).symm
    have heldEq : held = cancelledHeldOf s h := by
      refine congrArg (fun f => allPanes.flatMap f) (funext fun p => ?_)
      split
      · exact (cancelledHeld_toList _).symm
      · rfl
    have opsEq : ops = stoppedResponses s h (fun _ => true) .cancelled := (stoppedResponses_all s h).symm
    have transfersEq : transfers = cancelledTransfers s h := rfl
    rw [ownEq, heldEq, opsEq, transfersEq]
    have passed := (PassesBy.refl apart).settle
    obtain ⟨es, told, -⟩ := passed.queue h
    rw [apart.inactive] at told
    obtain ⟨heldIn, opsIn, transfersIn⟩ := lists
    refine ⟨_, run, vote, by rw [passed.host, state], by rw [passed.host, lease], by rw [passed.host, voted],
      passed.apart.queued, passed.apart.unparked, by simpa using fifo, by simpa using others.guest, told.trans queue,
      others.panesLeft lawful.fields apart, others.guestsTold apart active (by simp) nofun, answers, heldIn, opsIn,
      transfersIn, total, fun idle => ?_, fun w service busy => ?_⟩
    · rw [passed.port, passed.lane]
      exact placed (cancelledService_none _ idle)
    · rw [passed.port, passed.lane]
      exact delayed _ (cancelledService_some _ w service busy)

end Sys2Proof.Machine
end

section
/-! HATN follows the response and event queues after every step (R132): settles O55. -/
namespace Sys2Proof.Machine

/-- HATN of host `h` stands as its two queues say (R132). -/
def State.signals (s : State) (h : HostNo) : Prop :=
  (s.port h).attention = true ↔ (s.port h).responses ≠ [] ∨ (s.queue h).events ≠ []

theorem attentionOk_iff (s : State) : s.attentionOk ↔ ∀ h, s.signals h := Iff.rfl

/-- Setting HATN as the two queues stand makes host `h`'s right, whatever stood before. -/
theorem refreshAttention_signals (h : HostNo) (s : State) : (refreshAttention h s).signals h := by
  simp [State.signals, refreshAttention, isEmpty_eq_decide]

theorem partReset_attentionOk (cause : Cause) (s : State) : (partReset cause s).attentionOk := by
  intro h
  simp [Port.reset]

namespace State.attentionOk
variable {s t : State}

/-! ## Ports and event queues -/

/-- Nothing changes of the three things HATN is about. -/
theorem of_same (ok : s.attentionOk) (attention : ∀ h, (t.port h).attention = (s.port h).attention)
    (responses : ∀ h, (t.port h).responses = (s.port h).responses) (events : ∀ h, (t.queue h).events = (s.queue h).events) :
    t.attentionOk := fun h => by
  rw [attention, responses, events]
  exact ok h

/-- Ports and event queues stay as they are. -/
theorem of_apart (ok : s.attentionOk) (port : ∀ h, t.port h = s.port h) (queue : ∀ h, t.queue h = s.queue h) :
    t.attentionOk :=
  ok.of_same (fun h => by rw [port]) (fun h => by rw [port]) fun h => by rw [queue]

/-- A change at host `h`'s port or event queue after which HATN is set anew. -/
theorem refresh (ok : s.attentionOk) (h : HostNo) (port : ∀ g, h ≠ g → t.port g = s.port g)
    (queue : ∀ g, h ≠ g → t.queue g = s.queue g) : (refreshAttention h t).attentionOk := by
  refine (attentionOk_iff _).2 fun g => ?_
  by_cases own : h = g
  · subst own
    exact refreshAttention_signals h t
  · have samePort : (refreshAttention h t).port g = s.port g := by simp [refreshAttention, own, port g own]
    have sameQueue : (refreshAttention h t).queue g = s.queue g := by simp [queue g own]
    rw [State.signals, samePort, sameQueue]
    exact ok g

theorem forEach {α : Type} (ok : s.attentionOk) (f : α → State → State)
    (turn : ∀ a t, t.attentionOk → (f a t).attentionOk) (l : List α) : (forEach l f s).attentionOk :=
  forEach_induct State.attentionOk f turn l s ok

/-! ### Records HATN does not depend on -/

theorem setHost (ok : s.attentionOk) (h : HostNo) (v : HostRecord) : (s.setHost h v).attentionOk := ok
theorem setLane (ok : s.attentionOk) (h : HostNo) (v : Lane) : (s.setLane h v).attentionOk := ok
theorem setPane (ok : s.attentionOk) (p : PaneNo) (v : Pane) : (s.setPane p v).attentionOk := ok
theorem setScan (ok : s.attentionOk) (v : Scan) : (s.setScan v).attentionOk := ok
theorem setPanel (ok : s.attentionOk) (v : Panel) : (s.setPanel v).attentionOk := ok
theorem setFaults (ok : s.attentionOk) (v : FaultLog) : (s.setFaults v).attentionOk := ok
theorem setConf (ok : s.attentionOk) (v : ConfigBlock) : (s.setConf v).attentionOk := ok
theorem setParked (ok : s.attentionOk) (v : List Parked) : (s.setParked v).attentionOk := ok
theorem setChoices (ok : s.attentionOk) (v : Nat) : (s.setChoices v).attentionOk := ok
theorem refreshUrgency (ok : s.attentionOk) : (refreshUrgency s).attentionOk := ok
theorem freeStore (ok : s.attentionOk) : (freeStore s).attentionOk := ok
theorem abandonLatch (ok : s.attentionOk) : (abandonLatch s).attentionOk := ok
theorem setAccess (ok : s.attentionOk) (h : HostNo) (a : AccessState) : (setAccess h a s).attentionOk := ok
theorem grantWrite (ok : s.attentionOk) (h : HostNo) (v : Service) (restart : Option (Half × Nat)) :
    (grantWrite h v restart s).attentionOk := ok
theorem stopOps (ok : s.attentionOk) (h : HostNo) (test : CellOp → Bool) (parked : Parked → Bool) (status : Status) :
    (stopOps h test parked status s).attentionOk := ok
theorem dropOps (ok : s.attentionOk) (h : HostNo) : (dropOps h s).attentionOk := ok
theorem dropTransfers (ok : s.attentionOk) (h : HostNo) : (dropTransfers h s).attentionOk := ok
theorem discardInFlight (ok : s.attentionOk) (h : HostNo) : (discardInFlight h s).attentionOk := ok
theorem leaveActive (ok : s.attentionOk) (h : HostNo) (after : HostState) : (leaveActive h after s).attentionOk := ok

/-! ### Responses (R127, R130) -/

theorem placeResponse (ok : s.attentionOk) (h : HostNo) (r : Response) : (placeResponse h r s).attentionOk :=
  ok.refresh h (fun g other => by simp [other]) fun _ _ => rfl

theorem answer (ok : s.attentionOk) (h : HostNo) (r : Response) : (answer h r s).attentionOk :=
  ok.refresh h (fun g other => by simp [other]) fun _ _ => rfl

theorem answerAll (ok : s.attentionOk) (h : HostNo) (rs : List Response) : (answerAll h rs s).attentionOk :=
  ok.forEach _ (fun r _ still => still.answer h r) rs

theorem reply (ok : s.attentionOk) (h : HostNo) (k : Kind) (tag : Byte) (st : Status) (pl : Payload) :
    (reply h k tag st pl s).attentionOk := ok.answer h _

/-! ### Events and fault reports (R136 to R139, R143, R145) -/

theorem postEvent (ok : s.attentionOk) (h : HostNo) (e : Event) : (postEvent h e s).attentionOk := by
  unfold Machine.postEvent
  (repeat' split)
  · exact ok.refresh h (fun _ _ => rfl) fun g other => by simp [other]
  · refine ok.of_same (fun _ => rfl) (fun _ => rfl) fun g => ?_
    rw [State.queue_setQueue]
    split
    · next own => rw [own]
    · rfl
  · exact ok

theorem postTo (ok : s.attentionOk) (hs : List HostNo) (e : Event) : (postTo hs e s).attentionOk :=
  ok.forEach _ (fun h _ still => still.postEvent h e) hs

theorem clearEvents (ok : s.attentionOk) (h : HostNo) : (clearEvents h s).attentionOk :=
  ok.refresh h (fun _ _ => rfl) fun g other => by simp [other]

theorem takeReport (ok : s.attentionOk) (notes : List HostNo) (r : FaultRecord) : (takeReport notes r s).attentionOk := by
  rcases takeReport_cases notes r s with ⟨i, q, -, -, merged⟩ | ⟨-, i, -, -, recorded⟩ | ⟨-, counted⟩
  · rw [merged]; exact ok
  · rw [recorded]; exact (ok.setFaults _).postTo notes _
  · rw [counted]; exact ok.of_apart (by simp) (by simp)

theorem reportFault (ok : s.attentionOk) (r : FaultRecord) : (reportFault r s).attentionOk := ok.takeReport _ r

theorem reportUnnoted (ok : s.attentionOk) (r : FaultRecord) : (reportUnnoted r s).attentionOk := ok.takeReport _ r

/-! ## The end of an operation (R18, R37, R84) -/

theorem takeCommit (ok : s.attentionOk) (h : HostNo) (p : PaneNo) (tag : Byte) : (takeCommit h p tag s).attentionOk :=
  reply (ok.of_apart (by simp) (by simp)) _ _ _ _ _

theorem countForCommit (ok : s.attentionOk) (h : HostNo) (p : PaneNo) : (countForCommit h p s).attentionOk := by
  rcases countForCommit_cases h p s with ⟨same, -⟩ | ⟨tag, n, -, -, ⟨-, taken⟩ | ⟨-, counted⟩⟩
  · rwa [same]
  · rw [taken]; exact ok.takeCommit h p tag
  · rw [counted]; exact ok

theorem takeStageIfIdle (ok : s.attentionOk) (p : PaneNo) : (takeStageIfIdle p s).attentionOk := by
  unfold Machine.takeStageIfIdle takeHeldStage
  (repeat' split)
  · exact ok
  · exact (ok.setPane p _).reply _ _ _ _ _
  · exact (ok.setPane p _).reply _ _ _ _ _
  · exact ok

theorem reportEnd (ok : s.attentionOk) (h : HostNo) (sel : Byte) : (reportEnd h sel s).attentionOk := by
  unfold Machine.reportEnd
  split
  · exact (ok.countForCommit h _).takeStageIfIdle _
  · exact ok

theorem finishOp (ok : s.attentionOk) (h : HostNo) (v : Service) (r : Response) : (finishOp h v r s).attentionOk :=
  ((ok.setLane h _).answerAll h _).reportEnd h _

/-! ## Service starts and accesses (R73 to R76, R81, R82) -/

theorem noteBudget (ok : s.attentionOk) (h : HostNo) (p : PaneNo) : (noteBudget h p s).attentionOk := by
  unfold Machine.noteBudget
  split
  · exact ok
  · exact (ok.setHost h _).postEvent h _

theorem testAccess (ok : s.attentionOk) (h : HostNo) : (testAccess h s).attentionOk := by
  unfold Machine.testAccess
  (repeat' split)
  · exact ok
  · exact ok.setAccess h _
  · exact ok.setAccess h _
  · exact ok.setAccess h _
  · exact (ok.setAccess h _).noteBudget h _

theorem startOp (ok : s.attentionOk) (h : HostNo) (op : CellOp) (rest : List CellOp) : (startOp h op rest s).attentionOk := by
  unfold Machine.startOp
  split
  · exact ((ok.setLane h _).answer h _).reportEnd h _
  · exact (ok.setLane h _).testAccess h

theorem startHead (ok : s.attentionOk) (h : HostNo) (n : Nat) : (startHead h n s).attentionOk := by
  induction n generalizing s with
  | zero => exact ok
  | succ n ih =>
    unfold Machine.startHead
    split
    · split
      · exact ok
      · exact ih (ok.startOp h _ _)
    · exact ok

theorem startServices (ok : s.attentionOk) : (startServices s).attentionOk :=
  ok.forEach _ (fun h _ still => still.startHead h _) _

theorem writeDone (ok : s.attentionOk) (h : HostNo) (n : Nat) : (writeDone h n s).attentionOk := by
  unfold Machine.writeDone
  split
  · exact ok
  · dsimp only
    split
    · exact ok.finishOp h _ _
    · exact ok.finishOp h _ _
    · exact (ok.setLane h _).testAccess h

theorem readDone (ok : s.attentionOk) (h : HostNo) (cells : List Cell) : (readDone h cells s).attentionOk := by
  unfold Machine.readDone
  split
  · exact ok
  · split <;> exact ok.finishOp h _ _

/-! ## Grants and what follows at once (R66 to R69, R94) -/

theorem passGrant (ok : s.attentionOk) (kind : FaultKind) (h : HostNo) (v : Service) (l : Latch) :
    (passGrant kind h v l s).attentionOk :=
  (((ok.setScan _).setPane v.pane _).reportFault _).grantWrite h v none

theorem parkOrPass (ok : s.attentionOk) (h : HostNo) (v : Service) (l : Latch) : (parkOrPass h v l s).attentionOk := by
  unfold Machine.parkOrPass
  split
  · exact ok
  · exact ok.passGrant _ h v l

theorem resolveConflict (ok : s.attentionOk) (h : HostNo) (v : Service) (l : Latch) :
    (resolveConflict h v l s).attentionOk := by
  unfold Machine.resolveConflict
  (repeat' split)
  · exact ok.passGrant _ h v l
  · exact ok.parkOrPass h v l
  · exact (ok.reportFault _).parkOrPass h v l
  · exact ok
  · exact ok.parkOrPass h v l

theorem serveHost (ok : s.attentionOk) (h : HostNo) : (serveHost h s).attentionOk := by
  unfold Machine.serveHost
  (repeat' split)
  · exact ok
  · exact ok
  · exact ok.resolveConflict h _ _
  · exact ok

theorem arbitrate (ok : s.attentionOk) (n : Nat) : (arbitrate n s).attentionOk := by
  induction n generalizing s with
  | zero => exact ok
  | succ n ih =>
    unfold Machine.arbitrate
    (repeat' split)
    · exact ok
    · exact ok
    · exact ok
    · exact ok
    · exact ih (ok.serveHost _)
    · exact ok

theorem settle (ok : s.attentionOk) : (settle s).attentionOk := by
  unfold Machine.settle
  split
  · exact ok.startServices.arbitrate 5
  · exact ok

/-! ## The Parked List, the boundary and latches (R43 to R47, R55 to R57, R83, R97) -/

theorem releaseParked (ok : s.attentionOk) : (releaseParked s).attentionOk := by
  refine (ok.setParked []).forEach releaseEntry (fun e t still => ?_) _
  unfold releaseEntry
  (repeat' split)
  · exact still.testAccess _
  · exact still
  · exact still

theorem refillBudgets (ok : s.attentionOk) : (refillBudgets s).attentionOk := by
  refine forEach (ok.forEach refillBudget (fun _ _ still => still) _) retestWaiting (fun h t still => ?_) _
  unfold retestWaiting
  (repeat' split)
  · exact still.testAccess _
  · exact still
  · exact still

theorem frameBoundary (ok : s.attentionOk) (frame : Half) : (frameBoundary frame s).attentionOk := by
  refine refillBudgets ((ok.setScan _).forEach (boundaryPane frame) (fun p t still => ?_) _)
  unfold boundaryPane
  dsimp only
  split
  · exact still
  · exact (still.setPane p _).postTo _ _
  · exact (still.setPane p _).postTo _ _
  · exact still

theorem startLatchAs (ok : s.attentionOk) (frame : Half) : (startLatchAs frame s).attentionOk := by
  unfold Machine.startLatchAs
  dsimp only
  (repeat' split)
  · exact (ok.frameBoundary frame).setScan _
  · exact ok
  · exact ok

theorem startLatch (ok : s.attentionOk) : (startLatch s).attentionOk := ok.startLatchAs _

theorem releaseAndStart (ok : s.attentionOk) : (releaseAndStart s).attentionOk := by
  have counted : (s.setChoices (s.choices + 1)).attentionOk := ok
  unfold Machine.releaseAndStart
  dsimp only
  (repeat' split)
  · exact counted.releaseParked.startLatch
  · exact counted.startLatch.releaseParked
  · exact ok.releaseParked.startLatch

theorem gatherSegment (ok : s.attentionOk) (cells : List Cell) : (gatherSegment cells s).attentionOk := by
  unfold Machine.gatherSegment
  split
  · exact ok
  · dsimp only
    split
    · exact ok
    · exact (ok.setScan _).refreshUrgency.releaseAndStart

/-! ## The Panel Channel (R147 to R151) -/

theorem startTransfer (ok : s.attentionOk) : (startTransfer s).attentionOk := ok.of_apart (by simp) (by simp)

theorem endTransfer (ok : s.attentionOk) (status : Status) : (endTransfer status s).attentionOk := by
  unfold Machine.endTransfer
  split
  · exact ok
  · next f _ =>
    dsimp only
    refine startTransfer ?_
    have answered : (if f.discard = true then s.setPanel { s.panel with inFlight := none, timer := none }
        else Machine.reply f.transfer.host .panelSend f.transfer.tag status (.panel f.transfer.address f.attempts)
          (s.setPanel { s.panel with inFlight := none, timer := none })).attentionOk := by
      split
      · exact ok
      · exact (ok.setPanel _).reply _ _ _ _ _
    generalize (if f.discard = true then _ else _) = u at answered
    (repeat' split)
    · exact answered.reportUnnoted _
    · exact answered.reportFault _
    · exact answered

theorem retryOrEnd (ok : s.attentionOk) (status : Status) : (retryOrEnd status s).attentionOk := by
  unfold Machine.retryOrEnd
  (repeat' split)
  · exact ok
  · exact ok
  · exact ok.endTransfer status

theorem panelAck (ok : s.attentionOk) : (panelAck s).attentionOk := by
  unfold Machine.panelAck
  split
  · exact ok.endTransfer .ok
  · exact ok

theorem panelNak (ok : s.attentionOk) : (panelNak s).attentionOk := by
  unfold Machine.panelNak
  split
  · exact ok.retryOrEnd .panelNak
  · exact ok

theorem replyTimerExpiry (ok : s.attentionOk) : (replyTimerExpiry s).attentionOk := by
  unfold Machine.replyTimerExpiry
  split
  · exact ok.retryOrEnd .panelTimeout
  · exact ok

theorem linkDown (ok : s.attentionOk) : (linkDown s).attentionOk := by
  unfold Machine.linkDown
  split
  · exact ok
  · exact (ok.setScan _).endTransfer .linkDown

/-! ## Line marks and completions (R51, R56, R62, R63, R76) -/

theorem underrun (ok : s.attentionOk) (k : Nat) : (underrun k s).attentionOk := by
  have sent (packets : List LaneWord) : (emit packets s).attentionOk := ok.of_apart (by simp) (by simp)
  unfold Machine.underrun
  dsimp only
  have told (r : FaultRecord) := (sent (markPackets s.scan.emission k false true (backdropLine s))).reportFault r
  split
  · exact ((told _).abandonLatch.setScan _).releaseAndStart
  · exact ((told _).setScan _).startLatch

theorem visibleMark (ok : s.attentionOk) (k : Nat) : (visibleMark k s).attentionOk := by
  unfold Machine.visibleMark
  (repeat' split)
  · exact startLatch (ok.of_apart (by simp) (by simp))
  · exact ok.underrun k
  · exact ok.underrun k

theorem lineMark (ok : s.attentionOk) : (lineMark s).attentionOk := by
  unfold Machine.lineMark
  split
  · refine settle ?_
    unfold markWork
    dsimp only
    have marked (first : Bool) (k : Nat) : (announceBlanking first k (advanceMark s)).attentionOk :=
      ok.of_apart (by simp) (by simp)
    split
    · exact (marked _ _).visibleMark _
    · exact marked _ _
  · exact ok

theorem segmentReadComplete (ok : s.attentionOk) : (segmentReadComplete s).attentionOk := by
  unfold Machine.segmentReadComplete
  (repeat' split)
  · exact (ok.freeStore.gatherSegment _).settle
  · exact ok.freeStore.settle
  · exact ok

theorem writeAccessComplete (ok : s.attentionOk) : (writeAccessComplete s).attentionOk := by
  unfold Machine.writeAccessComplete
  split
  · next live h bank line first cells restart _ =>
    have stored : (restartLatch restart (storeCells bank line first cells (Machine.freeStore s))).attentionOk :=
      ok.of_apart (by simp) (by simp)
    dsimp only
    split
    · exact (stored.writeDone h _).settle
    · exact stored.settle
  · exact ok

theorem readAccessComplete (ok : s.attentionOk) : (readAccessComplete s).attentionOk := by
  unfold Machine.readAccessComplete
  (repeat' split)
  · exact (ok.freeStore.readDone _ _).settle
  · exact ok.freeStore.settle
  · exact ok

/-! ## Ended work, guests and departures (R20 to R28, R86 to R88, R117, R118, R157) -/

theorem endWork (ok : s.attentionOk) (panes : List PaneNo) (status : Status) (h : HostNo) :
    (endWork panes status h s).attentionOk :=
  ((ok.stopOps h _ _ status).answerAll h _).forEach _ (fun p _ still => still.takeStageIfIdle p) _

theorem changeGuest (ok : s.attentionOk) (h : HostNo) (p : PaneNo) (named : Option HostNo) :
    (changeGuest h p named s).attentionOk :=
  postTo ((ok.setPane p _).forEach _ (fun g _ still => (still.endWork [p] .revoked g).postEvent g _) _) _ _

theorem releasePane (ok : s.attentionOk) (h : HostNo) (tag : Byte) (p : PaneNo) : (releasePane h tag p s).attentionOk := by
  have held := (ok.setPane p (releasedPane (s.pane p))).answerAll h ((s.pane p).held.toList.map cancelledHeld)
  have ended := (held.endWork [p] .cancelled h).forEach _ (fun g _ still => still.endWork [p] .cancelled g)
    (s.pane p).guest.toList
  exact settle (reply (ended.postTo _ _) _ _ _ _ _)

theorem departPanes (ok : s.attentionOk) (h : HostNo) (kind : Departure) : (departPanes h kind s).attentionOk := by
  have left := ok.forEach (departPane h kind) (fun p _ still => still.of_apart (by simp) (by simp)) allPanes
  have told := left.forEach (fun g => departGuest h kind g (guestPanesOf s h g))
    (fun g _ still => (still.endWork _ _ g).forEach _ (fun p _ still => still.postEvent g _) _) allHosts
  have noticed := told.forEach _ (fun p _ still => still.postTo allHosts (.orphanNotice p h (orphanReason kind)))
    (orphansOf s h kind)
  exact noticed.forEach (removeGuest h) (fun p _ still => still.of_apart (by simp) (by simp)) allPanes

theorem takeIdleStages (ok : s.attentionOk) : (takeIdleStages s).attentionOk :=
  ok.forEach _ (fun p _ still => still.takeStageIfIdle p) _

theorem judgeVote (ok : s.attentionOk) : (judgeVote s).attentionOk := by
  rcases judgeVote_cases s with same | closed | reset
  · rwa [same]
  · rw [closed]; exact ok
  · rw [reset]; exact partReset_attentionOk .vote s

theorem departSilently (ok : s.attentionOk) (h : HostNo) (kind : Departure) : (departSilently h kind s).attentionOk := by
  have cleared : (portDeparture h (kind = .lapse) s).attentionOk :=
    ok.refresh h (fun g other => by simp [other]) fun _ _ => rfl
  have dropped := (((cleared.clearEvents h).departPanes h kind).dropOps h).takeIdleStages
  rw [departSilently_eq]
  exact ((dropped.dropTransfers h).discardInFlight h).startTransfer.judgeVote.settle

theorem placeDetach (ok : s.attentionOk) (h : HostNo) (r : Response) : (placeDetach h r s).attentionOk := by
  unfold Machine.placeDetach
  split
  · exact ok
  · exact ok.answer h r

theorem detachHost (ok : s.attentionOk) (h : HostNo) (tag : Byte) (mode : DetachMode) :
    (detachHost h tag mode s).attentionOk := by
  have stopped := ((ok.leaveActive h .absent).departPanes h (.detach mode)).stopOps h (fun _ => true) (fun _ => true) .cancelled
  have answered (n : Nat) (rs : List Response) := ((stopped.dropTransfers h).setChoices n).answerAll h rs
  exact ((answered _ _).takeIdleStages.placeDetach h _).startTransfer.judgeVote.settle

/-! ## Requests (R107, R126) -/

theorem hostCheck (ok : s.attentionOk) (h : HostNo) (k : Kind) (tag : Byte) (take : State → State)
    (taken : ∀ u, u.attentionOk → (take u).attentionOk) : (hostCheck h k tag take s).attentionOk := by
  rcases hostCheck_cases h k tag take s with ⟨-, taking⟩ | ⟨status, answered⟩
  · rw [taking]; exact taken _ (ok.setHost h _)
  · rw [answered]; exact ok.reply _ _ _ _ _

theorem withPane (ok : s.attentionOk) (h : HostNo) (k : Kind) (tag sel : Byte) (checks : PaneNo → List (Bool × Status))
    (take : PaneNo → State → State) (taken : ∀ p, (take p s).attentionOk) :
    (withPane h k tag sel checks take s).attentionOk := by
  rcases withPane_cases h k tag sel checks take s with ⟨status, answered⟩ | ⟨p, -, -, taking⟩
  · rw [answered]; exact ok.reply _ _ _ _ _
  · rw [taking]; exact taken p

theorem stagePane (ok : s.attentionOk) (h : HostNo) (tag : Byte) (rect : Option Rect) (p : PaneNo) :
    (stagePane h tag rect p s).attentionOk := by
  unfold Machine.stagePane
  split
  · exact ok.setPane p _
  · exact (ok.setPane p _).reply _ _ _ _ _

theorem guestPane (ok : s.attentionOk) (h : HostNo) (tag : Byte) (named : Option HostNo) (p : PaneNo) :
    (guestPane h tag named p s).attentionOk := by
  unfold Machine.guestPane
  split
  · exact ok.reply _ _ _ _ _
  · exact ((ok.changeGuest h p named).reply _ _ _ _ _).settle

theorem commitPane (ok : s.attentionOk) (h : HostNo) (tag : Byte) (p : PaneNo) : (commitPane h tag p s).attentionOk := by
  unfold Machine.commitPane
  split
  · exact ok.takeCommit h p tag
  · exact ok.setPane p _

theorem takePaneClaim (ok : s.attentionOk) (h : HostNo) (tag : Byte) (rect : Rect) (buffering policy display : Byte) :
    (takePaneClaim h tag rect buffering policy display s).attentionOk := by
  unfold Machine.takePaneClaim
  (repeat' split)
  case isFalse => exact (ok.setPane _ _).reply _ _ _ _ _
  all_goals exact ok.reply _ _ _ _ _

theorem joinLane (ok : s.attentionOk) (h : HostNo) (op : CellOp) : (joinLane h op s).attentionOk := by
  unfold Machine.joinLane
  split
  · exact (ok.setLane h _).settle
  · exact ok.reply _ _ _ _ _

theorem takeConfigSet (ok : s.attentionOk) (h : HostNo) (tag field : Byte) (value : Half) (cell : Option RawCell) :
    (takeConfigSet h tag field value cell s).attentionOk := by
  unfold Machine.takeConfigSet
  (repeat' split)
  · exact ok.reply _ _ _ _ _
  · exact ok.reply _ _ _ _ _
  · exact ok.reply _ _ _ _ _
  · exact (ok.setConf _).refreshUrgency.reply _ _ _ _ _

theorem takeConfigGet (ok : s.attentionOk) (h : HostNo) (tag field : Byte) : (takeConfigGet h tag field s).attentionOk := by
  unfold Machine.takeConfigGet
  split <;> exact ok.reply _ _ _ _ _

theorem takeStart (ok : s.attentionOk) (h : HostNo) (tag : Byte) : (takeStart h tag s).attentionOk := by
  unfold Machine.takeStart
  (repeat' split)
  · exact ok.reply _ _ _ _ _
  · exact ok.reply _ _ _ _ _
  · have entered : (enterRun s).attentionOk := startLatchAs (ok.of_apart (by simp) (by simp)) 0
    exact (entered.reply _ _ _ _ _).settle

theorem takeResetVote (ok : s.attentionOk) (h : HostNo) (tag : Byte) : (takeResetVote h tag s).attentionOk := by
  unfold Machine.takeResetVote
  split
  · have opened : (if s.conf.vote = .idle then openVote h s else s).attentionOk := by
      split
      · exact (ok.setConf _).postTo _ _
      · exact ok
    exact ((opened.setHost h _).reply _ _ _ _ _).judgeVote
  · exact ok.reply _ _ _ _ _

theorem takeAttach (ok : s.attentionOk) (h : HostNo) (tag : Byte) : (takeAttach h tag s).attentionOk :=
  reply (ok.of_same (by simp) (by simp) (by simp)) _ _ _ _ _

theorem takeDetach (ok : s.attentionOk) (h : HostNo) (tag mode : Byte) : (takeDetach h tag mode s).attentionOk := by
  unfold Machine.takeDetach
  split
  · exact ok.reply _ _ _ _ _
  · exact ok.detachHost h tag _

theorem takeStatus (ok : s.attentionOk) (h : HostNo) (tag : Byte) : (takeStatus h tag s).attentionOk :=
  reply (ok.of_apart (by simp) (by simp)) _ _ _ _ _

theorem takeFaultRead (ok : s.attentionOk) (h : HostNo) (tag sel : Byte) : (takeFaultRead h tag sel s).attentionOk := by
  unfold Machine.takeFaultRead
  (repeat' split) <;> exact ok.reply _ _ _ _ _

theorem takeFaultClearOverflow (ok : s.attentionOk) (h : HostNo) (tag : Byte) :
    (takeFaultClearOverflow h tag s).attentionOk := ((ok.setHost h _).setFaults _).reply _ _ _ _ _

theorem takeFaultClear (ok : s.attentionOk) (h : HostNo) (tag sel : Byte) : (takeFaultClear h tag sel s).attentionOk := by
  unfold Machine.takeFaultClear clearSlot
  (repeat' split)
  · exact ok.takeFaultClearOverflow h tag
  · exact ok.reply _ _ _ _ _
  · exact ok.reply _ _ _ _ _
  · exact ok.reply _ _ _ _ _
  · exact (ok.setFaults _).reply _ _ _ _ _

theorem takeEventFetch (ok : s.attentionOk) (h : HostNo) (tag : Byte) : (takeEventFetch h tag s).attentionOk := by
  have taken (q : EventQueue) : (refreshAttention h (s.setQueue h q)).attentionOk :=
    ok.refresh h (fun _ _ => rfl) fun g other => by simp [other]
  unfold Machine.takeEventFetch
  exact (taken _).reply _ _ _ _ _

theorem takePanelSend (ok : s.attentionOk) (h : HostNo) (tag address synced : Byte) (data : List Byte) :
    (takePanelSend h tag address synced data s).attentionOk := by
  unfold Machine.takePanelSend
  split
  · exact (ok.setPanel _).startTransfer
  · exact ok.reply _ _ _ _ _

theorem takeRequest (ok : s.attentionOk) (i : Instr) : (takeRequest i s).attentionOk := by
  cases i
  case attach => exact ok.takeAttach _ _
  case status => exact ok.takeStatus _ _
  case detach => exact ok.hostCheck _ _ _ _ fun u still => still.takeDetach _ _ _
  case configSet => exact ok.hostCheck _ _ _ _ fun u still => still.takeConfigSet _ _ _ _ _
  case configGet => exact ok.hostCheck _ _ _ _ fun u still => still.takeConfigGet _ _ _
  case start => exact ok.hostCheck _ _ _ _ fun u still => still.takeStart _ _
  case resetVote => exact ok.hostCheck _ _ _ _ fun u still => still.takeResetVote _ _
  case paneClaim => exact ok.hostCheck _ _ _ _ fun u still => still.takePaneClaim _ _ _ _ _ _
  case paneStage => exact ok.hostCheck _ _ _ _ fun u still => still.withPane _ _ _ _ _ _ fun p => still.stagePane _ _ _ p
  case paneGuest => exact ok.hostCheck _ _ _ _ fun u still => still.withPane _ _ _ _ _ _ fun p => still.guestPane _ _ _ p
  case paneCommit => exact ok.hostCheck _ _ _ _ fun u still => still.withPane _ _ _ _ _ _ fun p => still.commitPane _ _ p
  case paneRelease => exact ok.hostCheck _ _ _ _ fun u still => still.withPane _ _ _ _ _ _ fun p => still.releasePane _ _ p
  case paneAdopt =>
    exact ok.hostCheck _ _ _ _ fun u still => still.withPane _ _ _ _ _ _ fun p => (still.setPane p _).reply _ _ _ _ _
  case paneQuery => exact ok.hostCheck _ _ _ _ fun u still => still.withPane _ _ _ _ _ _ fun p => still.reply _ _ _ _ _
  case cellWrite | cellFill | cellRead => exact ok.hostCheck _ _ _ _ fun u still => still.joinLane _ _
  case faultRead => exact ok.hostCheck _ _ _ _ fun u still => still.takeFaultRead _ _ _
  case faultClear => exact ok.hostCheck _ _ _ _ fun u still => still.takeFaultClear _ _ _
  case faultClearOverflow => exact ok.hostCheck _ _ _ _ fun u still => still.takeFaultClearOverflow _ _
  case eventFetch => exact ok.hostCheck _ _ _ _ fun u still => still.takeEventFetch _ _
  case panelSend => exact ok.hostCheck _ _ _ _ fun u still => still.takePanelSend _ _ _ _ _
  all_goals exact ok

theorem served {h : HostNo} (ok : s.attentionOk) (served : Served h s t) : t.attentionOk := by
  cases served with
  | unserved => exact ok
  | dropped => exact reportFault (ok.of_same (by simp) (by simp) (by simp)) _
  | answered r => exact ok.placeResponse h r
  | taken i => exact takeRequest (ok.of_same (by simp) (by simp) (by simp)) i

/-! ## Events -/

/-- The removal of a response sets HATN anew (R122, R132). -/
theorem removeSent (ok : s.attentionOk) (h : HostNo) (x : Exchange) (n : Nat) : (removeSent h x n s).attentionOk := by
  unfold Machine.removeSent
  dsimp only
  split
  · exact ok.refresh h (fun g other => by simp [other]) fun _ _ => rfl
  · exact ok.of_same (by simp) (by simp) (by simp)

theorem exchangeEnd (ok : s.attentionOk) (h : HostNo) (bytes : List Byte) : (exchangeEnd h bytes s).attentionOk := by
  unfold Machine.exchangeEnd
  split
  · exact ok
  · exact (ok.removeSent h _ _).served (handleFrame_served _ _ _)

theorem presentDeasserted (ok : s.attentionOk) (h : HostNo) : (presentDeasserted h s).attentionOk := by
  have down : (dropLine h s).attentionOk := ok.refresh h (fun g other => by simp [other]) fun _ _ => rfl
  unfold Machine.presentDeasserted
  dsimp only
  (repeat' split)
  · exact (down.leaveActive h .absent).departSilently h .abrupt
  · exact down.setHost h _
  · exact down
  · exact ok

theorem presentAsserted (ok : s.attentionOk) (h : HostNo) : (presentAsserted h s).attentionOk := by
  unfold Machine.presentAsserted
  exact ok.of_same (by simp) (by simp) (by simp)

theorem leaseWarn (ok : s.attentionOk) (h : HostNo) : (leaseWarn h s).attentionOk := by
  unfold Machine.leaseWarn
  split
  · exact (ok.setHost h _).postEvent h _
  · exact ok

theorem leaseExpiry (ok : s.attentionOk) (h : HostNo) : (leaseExpiry h s).attentionOk := by
  unfold Machine.leaseExpiry
  split
  · exact ((ok.leaveActive h .lapsed).reportFault _).departSilently h .lapse
  · exact ok

theorem windowExpiry (ok : s.attentionOk) : (windowExpiry s).attentionOk := by
  unfold Machine.windowExpiry
  split
  · exact ((ok.setConf _).postTo _ _).forEach clearVote (fun h _ still => still.setHost h _) _
  · exact ok

theorem exec (ok : s.attentionOk) (c : Instr) (run : exec c s = .next t) : t.attentionOk := by
  cases source : requestSource c with
  | some origin =>
    obtain ⟨u, leaves, taken⟩ := exec_served c origin.1 origin.2 s source
    obtain rfl : u = t := Host.Outcome.next.inj (leaves.symm.trans run)
    exact ok.served taken
  | none =>
    cases c <;> simp only [requestSource, reduceCtorEq] at source
    case segmentReadComplete => exact completion_next run ▸ ok.segmentReadComplete
    case writeAccessComplete => exact completion_next run ▸ ok.writeAccessComplete
    case readAccessComplete => exact completion_next run ▸ ok.readAccessComplete
    all_goals obtain rfl := Host.Outcome.next.inj run
    case powerOn | resetPin => exact partReset_attentionOk _ _
    case exchangeEnd => exact ok.exchangeEnd _ _
    case hostPresentDeasserted => exact ok.presentDeasserted _
    case leaseWarn => exact ok.leaseWarn _
    case leaseExpiry => exact ok.leaseExpiry _
    case windowExpiry => exact ok.windowExpiry
    case lineMark => exact ok.lineMark
    case linkDown => exact ok.linkDown
    case panelAck => exact ok.panelAck
    case panelNak => exact ok.panelNak
    case replyTimerExpiry => exact ok.replyTimerExpiry
    case exchangeStart => exact ok.of_same (by simp) (by simp) (by simp)
    case hostPresentAsserted => exact ok.presentAsserted _
    all_goals exact ok.of_apart (by simp) (by simp)

end State.attentionOk

/-- Settles O55: every placing, removal and clearing in a response or event queue sets HATN anew, and nothing else touches the
queues or HATN. -/
theorem attentionFollowsTheQueues : Obligations.AttentionFollowsTheQueues := by
  unfold Obligations.AttentionFollowsTheQueues
  refine ⟨fun s t ok run => ?_, fun s t h run => ?_, fun cause s h => ?_⟩
  · exact step_induct State.attentionOk s t run (fun _ => ok) (ok.of_apart (by simp) (by simp)) fun c _ _ still => still.exec c
  · obtain rfl : exchangeStart h s = t := Host.Outcome.next.inj run
    simp
  · simp [Port.reset]

end Sys2Proof.Machine
end

section
/-! Request frames: what the port finds in the bytes shifted in, and the frame of every well-formed request (R124, R125,
R160, Tables 12-1 to 12-3): settles O13 and O14. -/
namespace Sys2Proof

/-! ## Two-byte fields -/

theorem toNat_halfOf (hi lo : Byte) : (halfOf hi lo).toNat = 256 * hi.toNat + lo.toNat := by
  rw [halfOf, BitVec.toNat_append, ← Nat.shiftLeft_add_eq_or_of_lt lo.isLt, Nat.shiftLeft_eq]
  omega

theorem toNat_hiByte (v : Half) : (hiByte v).toNat = v.toNat / 256 := by
  have := v.isLt
  rw [hiByte, BitVec.extractLsb'_toNat, Nat.shiftRight_eq_div_pow]
  omega

theorem toNat_loByte (v : Half) : (loByte v).toNat = v.toNat % 256 := by
  rw [loByte, BitVec.extractLsb'_toNat, Nat.shiftRight_zero]

theorem halfOf_hiByte_loByte (v : Half) : halfOf (hiByte v) (loByte v) = v := by
  apply BitVec.eq_of_toNat_eq
  rw [toNat_halfOf, toNat_hiByte, toNat_loByte]
  omega

theorem hiByte_halfOf (hi lo : Byte) : hiByte (halfOf hi lo) = hi := by
  apply BitVec.eq_of_toNat_eq
  rw [toNat_hiByte, toNat_halfOf]
  omega

theorem loByte_halfOf (hi lo : Byte) : loByte (halfOf hi lo) = lo := by
  apply BitVec.eq_of_toNat_eq
  rw [toNat_loByte, toNat_halfOf]
  omega

theorem fitsHalf_toNat (v : Half) : fitsHalf v.toNat = true := by
  simpa [fitsHalf] using v.isLt

/-- A number that fits is read back from its two bytes (R160). -/
theorem toNat_halfOf_natBytes (n : Nat) (fits : fitsHalf n = true) :
    (halfOf (hiByte (halfOfNat n)) (loByte (halfOfNat n))).toNat = n := by
  rw [halfOf_hiByte_loByte, halfOfNat, BitVec.toNat_ofNat]
  exact Nat.mod_eq_of_lt (by simpa [fitsHalf] using fits)

theorem toNat_byteOf (n : Nat) (fits : n < 256) : (byteOf n).toNat = n := by
  rw [byteOf, BitVec.toNat_ofNat]
  exact Nat.mod_eq_of_lt fits

/-! ## Kinds (Table 12-2) -/

theorem kindOfCode_code (k : Kind) : kindOfCode k.code = some k := by cases k <;> rfl

theorem kindOfCode_none {c : Byte} (other : ∀ k : Kind, k.code ≠ c) : kindOfCode c = none := by
  simp [kindOfCode, other]

theorem code_ne_zero (k : Kind) : k.code ≠ 0x00#8 := by cases k <;> decide

/-! ## What a payload spells (R125, Table 12-3) -/

theorem rectOf_fitsFrame (x1 x0 y1 y0 w1 w0 h1 h0 : Byte) : (rectOf x1 x0 y1 y0 w1 w0 h1 h0).fitsFrame = true := by
  simp [rectOf, Rect.fitsFrame, fitsHalf_toNat]

theorem fillAreaOk_rectOf (x1 x0 y1 y0 w1 w0 h1 h0 : Byte) : fillAreaOk (rectOf x1 x0 y1 y0 w1 w0 h1 h0) = true ↔
    (w1.toNat ≠ 0 ∨ w0.toNat ≠ 0) ∧ (h1.toNat ≠ 0 ∨ h0.toNat ≠ 0) := by
  simp only [fillAreaOk, rectOf, toNat_halfOf, Bool.and_eq_true, decide_eq_true_eq]
  omega

open Machine (payloadAllowed cellCountOk_iff length_rawCellsOf)

/-- What the port makes of a payload of kind `k`: where Table 12-3 allows it, `r` is a well-formed request of that kind and of
the frame's port and tag; otherwise it is none. -/
def Reads (h : HostNo) (tag : Byte) (k : Kind) (payload : List Byte) (r : Option Instr) : Prop :=
  (payloadAllowed k payload ∧ ∃ i, r = some i ∧ i.wellFormed = true ∧ requestSource i = some (h, tag) ∧
    (requestFields i).map (·.1) = some k) ∨ (¬payloadAllowed k payload ∧ r = none)

section
variable (h : HostNo) (tag sel : Byte) (arg : Half) (payload : List Byte)

/-- The payload of a kind with counts is one the test of the counts lets through, or none. -/
theorem reads_ite {k : Kind} {counts : Bool} {i : Instr} (allowed : counts = true ↔ payloadAllowed k payload)
    (formed : counts = true → i.wellFormed = true) (source : requestSource i = some (h, tag))
    (kind : (requestFields i).map (·.1) = some k) : Reads h tag k payload (if counts then some i else none) := by
  cases counts with
  | true => exact .inl ⟨allowed.1 rfl, i, rfl, formed rfl, source, kind⟩
  | false => exact .inr ⟨fun lets => by simpa using allowed.2 lets, rfl⟩

theorem dataCountOk_iff (n : Nat) : dataCountOk n = true ↔ 1 ≤ n ∧ n ≤ 8 := by simp [dataCountOk]

theorem requestOf_cellWrite : Reads h tag .cellWrite payload (requestOf h tag .cellWrite sel arg payload) := by
  rcases payload with _ | ⟨x1, _ | ⟨x0, _ | ⟨y1, _ | ⟨y0, _ | ⟨n, cells⟩⟩⟩⟩⟩
  case cons.cons.cons.cons.cons =>
    refine reads_ite h tag _ ?_ (fun counts => ?_) rfl rfl
    · simp [payloadAllowed, cellCountOk_iff]
      omega
    · simp only [Bool.and_eq_true, cellCountOk_iff, decide_eq_true_eq] at counts
      simp only [Instr.wellFormed, fitsHalf_toNat, length_rawCellsOf, Bool.and_eq_true, cellCountOk_iff, true_and]
      omega
  all_goals exact .inr ⟨by simp [payloadAllowed], rfl⟩

theorem requestOf_panelSend : Reads h tag .panelSend payload (requestOf h tag .panelSend sel arg payload) := by
  rcases payload with _ | ⟨n, data⟩
  · exact .inr ⟨by simp [payloadAllowed], rfl⟩
  · refine reads_ite h tag _ ?_ (fun counts => ?_) rfl rfl
    · simp [payloadAllowed, dataCountOk_iff]
      omega
    · simp only [Bool.and_eq_true, dataCountOk_iff, decide_eq_true_eq] at counts
      simp only [Instr.wellFormed, dataCountOk_iff]
      omega

theorem requestOf_cellRead : Reads h tag .cellRead payload (requestOf h tag .cellRead sel arg payload) := by
  rcases payload with _ | ⟨x1, _ | ⟨x0, _ | ⟨y1, _ | ⟨y0, _ | ⟨n, _ | ⟨bank, _ | ⟨more, rest⟩⟩⟩⟩⟩⟩⟩
  case cons.cons.cons.cons.cons.cons.nil =>
    refine reads_ite h tag _ ?_ (fun counts => ?_) rfl rfl
    · simp [payloadAllowed, cellCountOk_iff]
    · simpa only [Instr.wellFormed, fitsHalf_toNat, Bool.true_and] using counts
  all_goals exact .inr ⟨by simp [payloadAllowed], rfl⟩

/-- The kinds whose payload is a rectangle and what follows it. -/
theorem requestOf_rect {k : Kind} (rect : k = .paneStage ∨ k = .paneClaim ∨ k = .cellFill) :
    Reads h tag k payload (requestOf h tag k sel arg payload) := by
  rcases payload with _ | ⟨x1, _ | ⟨x0, _ | ⟨y1, _ | ⟨y0, _ | ⟨w1, _ | ⟨w0, _ | ⟨h1, _ | ⟨h0, _ | ⟨r, _ | ⟨g, _ | ⟨b, _ | _⟩⟩⟩⟩⟩⟩⟩⟩⟩⟩⟩
  all_goals rcases rect with rfl | rfl | rfl
  case cons.cons.cons.cons.cons.cons.cons.cons.nil.inl =>
    exact .inl ⟨rfl, _, rfl, rectOf_fitsFrame .., rfl, rfl⟩
  case cons.cons.cons.cons.cons.cons.cons.cons.cons.cons.cons.nil.inr.inl =>
    exact .inl ⟨rfl, _, rfl, rectOf_fitsFrame .., rfl, rfl⟩
  case cons.cons.cons.cons.cons.cons.cons.cons.cons.cons.cons.nil.inr.inr =>
    refine reads_ite h tag _ ?_ (fun area => ?_) rfl rfl
    · simp [payloadAllowed, fillAreaOk_rectOf]
    · simp [Instr.wellFormed, rectOf_fitsFrame, area]
  all_goals exact .inr ⟨by simp [payloadAllowed], rfl⟩

theorem requestOf_configSet : Reads h tag .configSet payload (requestOf h tag .configSet sel arg payload) := by
  rcases payload with _ | ⟨r, _ | ⟨g, _ | ⟨b, _ | ⟨more, rest⟩⟩⟩⟩
  case nil => exact .inl ⟨.inl rfl, _, rfl, rfl, rfl, rfl⟩
  case cons.cons.cons.nil => exact .inl ⟨.inr rfl, _, rfl, rfl, rfl, rfl⟩
  all_goals exact .inr ⟨by simp [payloadAllowed], rfl⟩

/-- The selector FFh of a FAULT_CLEAR names OVERFLOW (Table 12-3). -/
theorem requestOf_faultClear : Reads h tag .faultClear payload (requestOf h tag .faultClear sel arg payload) := by
  rcases payload with _ | ⟨more, rest⟩
  · by_cases overflow : sel = 0xFF#8
    · exact .inl ⟨rfl, .faultClearOverflow h tag, if_pos overflow, rfl, rfl, rfl⟩
    · exact .inl ⟨rfl, .faultClear h tag sel, if_neg overflow, by simpa [Instr.wellFormed] using overflow, rfl, rfl⟩
  · exact .inr ⟨by simp [payloadAllowed], rfl⟩

theorem requestOf_reads (k : Kind) : Reads h tag k payload (requestOf h tag k sel arg payload) := by
  cases k
  case configSet => exact requestOf_configSet ..
  case paneStage | paneClaim | cellFill => exact requestOf_rect _ _ _ _ _ (by simp)
  case cellWrite => exact requestOf_cellWrite ..
  case cellRead => exact requestOf_cellRead ..
  case faultClear => exact requestOf_faultClear ..
  case panelSend => exact requestOf_panelSend ..
  all_goals
    rcases payload with _ | ⟨more, rest⟩
    · exact .inl ⟨rfl, _, rfl, rfl, rfl, rfl⟩
    · exact .inr ⟨by simp [payloadAllowed], rfl⟩
end

theorem requestOf_wellFormed {h : HostNo} {tag sel : Byte} {arg : Half} {payload : List Byte} {k : Kind} {i : Instr}
    (spells : requestOf h tag k sel arg payload = some i) : i.wellFormed = true ∧ requestSource i = some (h, tag) := by
  rcases requestOf_reads h tag sel arg payload k with ⟨-, j, read, formed, source, -⟩ | ⟨-, none⟩
  · obtain rfl : j = i := Option.some.inj (read.symm.trans spells)
    exact ⟨formed, source⟩
  · cases none.symm.trans spells

/-! ## The tests of a frame, in their order (R124, R125) -/

section
variable (h : HostNo)

theorem examine_idle (bytes : List Byte) (idle : bytes.headD 0x00#8 = 0x00#8) : examine h bytes = .idle := by
  cases bytes with
  | nil => rfl
  | cons kind rest => exact if_pos idle

theorem examine_short (kind : Byte) (rest : List Byte) (asks : kind ≠ 0x00#8) (short : (kind :: rest).length < 7) :
    examine h (kind :: rest) = .badRequest kind (rest.headD 0x00#8) := by
  rcases rest with _ | ⟨tag, _ | ⟨len, _ | ⟨sel, _ | ⟨a1, _ | ⟨a0, body⟩⟩⟩⟩⟩
  case cons.cons.cons.cons.cons =>
    obtain rfl : body = [] := List.eq_nil_of_length_eq_zero (by simp only [List.length_cons] at short; omega)
    simp [examine, asks]
  all_goals exact if_neg asks

variable {kind tag len sel a1 a0 : Byte} {body : List Byte} (asks : kind ≠ 0x00#8)
include asks

theorem examine_ends (ends : 197 < len.toNat ∨ body.length < len.toNat + 1) :
    examine h (kind :: tag :: len :: sel :: a1 :: a0 :: body) = .badRequest kind tag := by
  have test : (decide (Config.payloadMax < len.toNat) || decide (body.length < len.toNat + 1)) = true := by
    simp only [Bool.or_eq_true, decide_eq_true_eq]
    exact ends
  rw [examine, if_neg asks]
  exact if_pos test

/-- A frame that does not end before its check byte: the check byte is tested, then the kind, then the payload. -/
theorem examine_whole (fits : len.toNat ≤ 197) (whole : len.toNat + 1 ≤ body.length) :
    examine h (kind :: tag :: len :: sel :: a1 :: a0 :: body) =
      if body[len.toNat]? = some (crc8 (kind :: tag :: len :: sel :: a1 :: a0 :: body.take len.toNat)) then
        (kindOfCode kind).elim (.badRequest kind tag) fun k =>
          (requestOf h tag k sel (halfOf a1 a0) (body.take len.toNat)).elim (.badRequest kind tag) .request
      else .badCheck kind tag := by
  have test : (decide (Config.payloadMax < len.toNat) || decide (body.length < len.toNat + 1)) = false := by
    simp only [Bool.or_eq_false_iff, decide_eq_false_iff_not]
    exact ⟨Nat.not_lt.2 fits, Nat.not_lt.2 whole⟩
  have check : body[len.toNat]? = some (body.getD len.toNat 0x00#8) := by
    simp [List.getD_eq_getElem?_getD, List.getElem?_eq_getElem (show len.toNat < body.length from whole)]
  rw [check, examine, if_neg asks]
  simp only [test, Bool.false_eq_true, if_false, Option.some.injEq, ite_not]
  congr 1
  cases kindOfCode kind with
  | none => rfl
  | some k =>
    dsimp only [Option.elim_some]
    cases requestOf h tag k sel (halfOf a1 a0) (body.take len.toNat) <;> rfl

end

/-- A frame that passes spells a well-formed request of the frame's port. -/
theorem examine_wellFormed (h : HostNo) (bytes : List Byte) (i : Instr) (spells : examine h bytes = .request i) :
    i.wellFormed = true ∧ ∃ tag, requestSource i = some (h, tag) := by
  unfold examine at spells
  dsimp only at spells
  (repeat' split at spells) <;> cases spells
  next found =>
    obtain ⟨formed, source⟩ := requestOf_wellFormed found
    exact ⟨formed, _, source⟩

/-- Settles O14: the tests of `examine` one by one, the last of them by what `requestOf` makes of the payload. -/
theorem frameTests : Obligations.FrameTests := by
  unfold Obligations.FrameTests
  refine fun h => ⟨examine_idle h, examine_short h, fun kind tag len sel a1 a0 body asks => ?_, examine_wellFormed h⟩
  have covered : (kind :: tag :: len :: sel :: a1 :: a0 :: body).take (6 + len.toNat) =
      kind :: tag :: len :: sel :: a1 :: a0 :: body.take len.toNat := by
    rw [Nat.add_comm]; rfl
  dsimp only
  rw [covered]
  refine ⟨examine_ends h asks, fun fits whole => ⟨fun wrong => ?_, fun right other => ?_, fun right k code => ?_⟩⟩
  · rw [examine_whole h asks fits whole, if_neg wrong]
  · rw [examine_whole h asks fits whole, if_pos right, kindOfCode_none other]
    rfl
  · subst code
    rw [examine_whole h asks fits whole, if_pos right, kindOfCode_code, Option.elim_some]
    rcases requestOf_reads h tag sel (halfOf a1 a0) (body.take len.toNat) k with
      ⟨allowed, i, read, -, source, kind⟩ | ⟨refused, none⟩
    · exact ⟨fun refused => absurd allowed refused, fun _ => ⟨i, by rw [read]; rfl, source, kind⟩⟩
    · exact ⟨fun _ => by rw [none]; rfl, fun allowed => absurd allowed refused⟩

/-! ## The frame of a request (Tables 12-1 to 12-3, R160) -/

theorem rawCellsOf_flatMap (cells : List RawCell) : rawCellsOf (cells.flatMap rawCellBytes) = cells := by
  induction cells with
  | nil => rfl
  | cons c cells ih => exact congrArg (c :: ·) ih

theorem length_flatMap_rawCellBytes (cells : List RawCell) : (cells.flatMap rawCellBytes).length = 3 * cells.length := by
  induction cells with
  | nil => rfl
  | cons c cells ih => simp [rawCellBytes, ih]; omega

theorem rectOf_rectBytes (r : Rect) (fits : r.fitsFrame = true) :
    rectOf (hiByte (halfOfNat r.x)) (loByte (halfOfNat r.x)) (hiByte (halfOfNat r.y)) (loByte (halfOfNat r.y))
      (hiByte (halfOfNat r.w)) (loByte (halfOfNat r.w)) (hiByte (halfOfNat r.h)) (loByte (halfOfNat r.h)) = r := by
  simp only [Rect.fitsFrame, Bool.and_eq_true] at fits
  obtain ⟨⟨⟨x, y⟩, w⟩, h⟩ := fits
  simp only [rectOf, toNat_halfOf_natBytes, x, y, w, h]

/-- The payload of a CELL_WRITE, CELL_FILL or CELL_READ begins with the two coordinates (Table 12-3). -/
theorem toNat_coordinates {px py : Nat} (fits : fitsHalf px = true ∧ fitsHalf py = true) :
    (halfOf (hiByte (halfOfNat px)) (loByte (halfOfNat px))).toNat = px ∧
      (halfOf (hiByte (halfOfNat py)) (loByte (halfOfNat py))).toNat = py :=
  ⟨toNat_halfOf_natBytes px fits.1, toNat_halfOf_natBytes py fits.2⟩

/-- The fields of a well-formed request spell that request, in a payload of at most 197 bytes. -/
theorem requestOf_requestFields (h : HostNo) (tag : Byte) (i : Instr) (source : requestSource i = some (h, tag))
    (formed : i.wellFormed = true) : ∃ k sel arg payload, requestFields i = some (k, sel, arg, payload) ∧
      payload.length ≤ 197 ∧ requestOf h tag k sel arg payload = some i := by
  cases i <;> simp only [requestSource, reduceCtorEq, Option.some.injEq, Prod.mk.injEq] at source
  all_goals
    obtain ⟨rfl, rfl⟩ := source
    refine ⟨_, _, _, _, rfl, ?_⟩
  case configSet field value cell => cases cell <;> exact ⟨by simp [rawCellBytes], rfl⟩
  case paneClaim h tag rect buffering policy display =>
    refine ⟨by simp [rectBytes, natBytes, halfBytes], ?_⟩
    change some (Instr.paneClaim h tag (rectOf ..) buffering policy display) = _
    rw [rectOf_rectBytes rect formed]
  case paneStage h tag pane arg rect =>
    refine ⟨by simp [rectBytes, natBytes, halfBytes], ?_⟩
    change some (Instr.paneStage h tag pane arg (rectOf ..)) = _
    rw [rectOf_rectBytes rect formed]
  case cellWrite h tag pane px py cells =>
    simp only [Instr.wellFormed, Bool.and_eq_true] at formed
    obtain ⟨fits, counts⟩ := formed
    obtain ⟨low, high⟩ := (cellCountOk_iff _).1 counts
    have count : (byteOf cells.length).toNat = cells.length := toNat_byteOf _ (by omega)
    refine ⟨?_, ?_⟩
    · have := length_flatMap_rawCellBytes cells
      simp only [natBytes, halfBytes, List.length_append, List.length_cons, List.length_nil]
      omega
    · change (if (cellCountOk _ && decide (_ = _)) = true then
        some (Instr.cellWrite h tag pane _ _ (rawCellsOf _)) else none) = _
      rw [count, rawCellsOf_flatMap, (toNat_coordinates fits).1, (toNat_coordinates fits).2, length_flatMap_rawCellBytes]
      simp [counts]
  case cellFill h tag pane rect cell =>
    simp only [Instr.wellFormed, Bool.and_eq_true] at formed
    obtain ⟨fits, area⟩ := formed
    refine ⟨by simp [rectBytes, natBytes, halfBytes, rawCellBytes], ?_⟩
    change (if fillAreaOk (rectOf ..) = true then some (Instr.cellFill h tag pane (rectOf ..) cell) else none) = _
    rw [rectOf_rectBytes rect fits, if_pos area]
  case cellRead h tag pane px py count bank =>
    simp only [Instr.wellFormed, Bool.and_eq_true] at formed
    obtain ⟨fits, counts⟩ := formed
    refine ⟨by simp [natBytes, halfBytes], ?_⟩
    change (if cellCountOk _ = true then some (Instr.cellRead h tag pane _ _ count bank) else none) = _
    rw [(toNat_coordinates fits).1, (toNat_coordinates fits).2, if_pos counts]
  case faultClear slot =>
    exact ⟨by simp, if_neg (by simpa [Instr.wellFormed] using formed)⟩
  case panelSend h tag address synced data =>
    obtain ⟨low, high⟩ := (dataCountOk_iff _).1 formed
    have count : (byteOf data.length).toNat = data.length := toNat_byteOf _ (by omega)
    refine ⟨by simp; omega, ?_⟩
    change (if (dataCountOk _ && decide (_ = _)) = true then
      some (Instr.panelSend h tag (hiByte _) (loByte _) data) else none) = _
    rw [count, hiByte_halfOf, loByte_halfOf]
    simp [dataCountOk_iff, low, high]
  all_goals exact ⟨by simp, rfl⟩

/-- The port reads a frame as the request its fields spell, whatever follows it. -/
theorem examine_frameBytes {h : HostNo} {k : Kind} {tag sel : Byte} {arg : Half} {payload : List Byte} {i : Instr}
    (short : payload.length ≤ 197) (spells : requestOf h tag k sel arg payload = some i) (filler : List Byte) :
    examine h (frameBytes k tag sel arg payload ++ filler) = .request i := by
  have len : (byteOf payload.length).toNat = payload.length := toNat_byteOf _ (by omega)
  generalize check : crc8 (k.code :: tag :: byteOf payload.length :: sel :: hiByte arg :: loByte arg :: payload) = c
  have shape : frameBytes k tag sel arg payload ++ filler =
      k.code :: tag :: byteOf payload.length :: sel :: hiByte arg :: loByte arg :: (payload ++ c :: filler) := by
    simp [frameBytes, check]
  have whole : (byteOf payload.length).toNat + 1 ≤ (payload ++ c :: filler).length := by simp [len]
  rw [shape, examine_whole h (code_ne_zero k) (by omega) whole, len, List.take_left, check, if_pos (by simp),
    kindOfCode_code, Option.elim_some, halfOf_hiByte_loByte, spells, Option.elim_some]

/-- Settles O13: the fields of a well-formed request spell it, and the port reads its frame as what they spell. -/
theorem frameRoundTrip : Obligations.FrameRoundTrip := by
  unfold Obligations.FrameRoundTrip
  intro h tag i source formed
  obtain ⟨k, sel, arg, payload, fields, short, spells⟩ := requestOf_requestFields h tag i source formed
  refine ⟨frameBytes k tag sel arg payload, by simp [encode, fields, source], ?_, ?_, examine_frameBytes short spells⟩
  · simp [frameBytes]
  · simp [frameBytes]
    omega

end Sys2Proof
end

section
/-! Requests at a port and exchanges (R106, R121 to R132): settles O8, O10, O11 and O12. -/
namespace Sys2Proof.Machine

/-! ## Slots and credits (R126, R129) -/

/-- The reserved slots in force, host by host (R106, R126). -/
theorem eq_reservedOf {s : State} {R : HostNo → Nat}
    (reserved : ∀ g, R g = if s.inRun = true then (s.host g).reserved else s.conf.settings.reserved[g]) :
    R = reservedOf s := funext reserved

theorem sharedPart_eq (s : State) :
    sharedPart s = 64 - (reservedOf s 0 + reservedOf s 1 + reservedOf s 2 + reservedOf s 3) := by
  simp [sharedPart, allHosts_eq, Config.poolSlots, Nat.add_assoc]

theorem sharedInUse_eq (s : State) : sharedInUse s =
    ((s.port 0).slots - reservedOf s 0) + ((s.port 1).slots - reservedOf s 1) + ((s.port 2).slots - reservedOf s 2) +
      ((s.port 3).slots - reservedOf s 3) := by
  simp [sharedInUse, allHosts_eq, Nat.add_assoc]

theorem slotFree_iff (s : State) (h : HostNo) :
    slotFree s h = true ↔ (s.port h).slots < reservedOf s h ∨ sharedInUse s < sharedPart s := by
  simp [slotFree]

/-! ## Requests (R125, R126, R128) -/

theorem portServes_eq_true {s : State} {h : HostNo} (present : (s.port h).present = true) (released : s.resetPin = false) :
    portServes s h = true := by simp [portServes, present, released]

/-- A well-formed request passes the port's test of its counts (R125). -/
theorem exec_wellFormed (i : Instr) (h : HostNo) (tag : Byte) (k : Kind) (s : State)
    (source : requestSource i = some (h, tag)) (kind : (requestFields i).map (·.1) = some k)
    (formed : i.wellFormed = true) : exec i s = .next (request h k tag true (takeRequest i) s) := by
  cases i <;> simp only [requestSource, reduceCtorEq, Option.some.injEq, Prod.mk.injEq] at source
  all_goals
    obtain ⟨rfl, rfl⟩ := source
    obtain rfl := Option.some.inj kind
  case cellWrite | cellFill | cellRead =>
    simp only [Instr.wellFormed, Bool.and_eq_true] at formed
    rw [← formed.2]; rfl
  case panelSend => rw [← show dataCountOk _ = true from formed]; rfl
  all_goals rfl

/-- At the ceiling every frame is dropped (R128). -/
theorem request_full (h : HostNo) (k : Kind) (tag : Byte) (ok : Bool) (take : State → State) (s : State)
    (serves : portServes s h = true) (full : 24 ≤ outstanding s h) : request h k tag ok take s = dropFrame h s := by
  rw [request_served h k tag ok take s serves, if_pos full]

/-- Below the ceiling a frame whose counts Table 12-3 does not allow is refused (R125). -/
theorem request_badCounts (h : HostNo) (k : Kind) (tag : Byte) (take : State → State) (s : State)
    (serves : portServes s h = true) (below : outstanding s h < 24) :
    request h k tag false take s = s.answered h (responseTo k tag .badRequest .empty) := by
  rw [request_served h k tag false take s serves, if_neg (Nat.not_le.2 below), if_pos rfl]

/-- Below the ceiling a frame that finds no slot is refused (R126). -/
theorem request_noSlot (h : HostNo) (k : Kind) (tag : Byte) (take : State → State) (s : State)
    (serves : portServes s h = true) (below : outstanding s h < 24) (taken : slotFree s h = false) :
    request h k tag true take s = s.answered h (responseTo k tag .noSlot .empty) := by
  rw [request_served h k tag true take s serves, if_neg (Nat.not_le.2 below), if_neg (by simp), if_pos taken]

theorem cellCountOk_eq_false (n : Nat) (bad : n = 0 ∨ 64 < n) : cellCountOk n = false := by
  rw [Bool.eq_false_iff, Ne, cellCountOk_iff]; omega

/-- Settles O8: the port's tests in the order of Table 8-2. -/
theorem portAdmission : Obligations.PortAdmission := by
  unfold Obligations.PortAdmission
  intro s h R present released reserved inUse
  obtain rfl := eq_reservedOf reserved
  have serves := portServes_eq_true present released
  have used : sharedInUse s = inUse := sharedInUse_eq s
  refine ⟨fun i tag source full => ?_, fun below => ⟨?_, ?_, ?_, ?_, ?_, fun free => ?_⟩⟩
  · obtain ⟨k, ok, run, -⟩ := exec_eq_request i h tag s source
    rw [run, request_full h k tag ok _ s serves full]
    rfl
  · intro tag pane px py cells bad
    change Host.Outcome.next (request h .cellWrite tag (cellCountOk _) _ s) = _
    rw [cellCountOk_eq_false _ bad, request_badCounts _ _ _ _ s serves below]
  · intro tag pane rect cell bad
    have empty : fillAreaOk rect = false := by simpa [fillAreaOk, ← or_iff_not_imp_left] using bad
    change Host.Outcome.next (request h .cellFill tag (fillAreaOk _) _ s) = _
    rw [empty, request_badCounts _ _ _ _ s serves below]
  · intro tag pane px py count bank bad
    change Host.Outcome.next (request h .cellRead tag (cellCountOk _) _ s) = _
    rw [cellCountOk_eq_false _ bad, request_badCounts _ _ _ _ s serves below]
  · intro tag address synced data bad
    have count : dataCountOk data.length = false := by rw [Bool.eq_false_iff, Ne, dataCountOk_iff]; omega
    change Host.Outcome.next (request h .panelSend tag (dataCountOk _) _ s) = _
    rw [count, request_badCounts _ _ _ _ s serves below]
  · intro own shared i tag k source kind formed
    have taken : slotFree s h = false := by
      rw [Bool.eq_false_iff, Ne, slotFree_iff, used, sharedPart_eq]
      omega
    rw [exec_wellFormed i h tag k s source kind formed, request_noSlot h k tag _ s serves below taken]
  · refine ⟨present, released, below, ?_⟩
    rwa [slotFree_iff, used, sharedPart_eq]

/-! ## The start of an exchange (R121, R129, R131, Table 12-4) -/

theorem flagsByte_eq (p : Port) :
    flagsByte p = BitVec.ofNat 8 (p.drop.toNat + 2 * p.resetSeen.toNat + 4 * p.lapsedSeen.toNat) := by
  unfold flagsByte
  cases p.drop <;> cases p.resetSeen <;> cases p.lapsedSeen <;> rfl

/-- Settles O10: the head response, or an idle one, is framed with flags, events and credits as they stand. -/
theorem exchangeStartFixesTheFrame : Obligations.ExchangeStartFixesTheFrame := by
  unfold Obligations.ExchangeStartFixesTheFrame
  intro s h R present released idle reserved p inUse credit tail covered
  obtain rfl := eq_reservedOf reserved
  have serves := portServes_eq_true present released
  have left : credits s h = credit := by
    rw [credits, sharedInUse_eq, sharedPart_eq]; rfl
  have header : [flagsByte (s.port h), byteOf (s.queue h).events.length, byteOf (credits s h)] = tail := by
    rw [flagsByte_eq, left]
  have frame : responseFrame s h p.responses.head? = covered ++ [crc8 covered] := by
    unfold responseFrame
    rw [header]
    dsimp only [covered]
    cases p.responses with
    | nil => rfl
    | cons r rest => rfl
  change Host.Outcome.next (exchangeStart h s) = _
  rw [exchangeStart, frame]
  simp [serves, idle, p, isEmpty_eq_decide]

/-! ## The end of an exchange (R122 to R126, R128, R131) -/

theorem removeSent_eq (h : HostNo) (x : Exchange) (n : Nat) (s : State) : removeSent h x n s = s.collected h x n := by
  unfold removeSent State.collected
  dsimp only
  by_cases whole : x.carries = true ∧ x.queued = true ∧ x.frame.length ≤ n
  · rw [if_pos whole, if_pos (by simpa [and_assoc] using whole)]
    simp [refreshAttention, isEmpty_eq_decide]
  · rw [if_neg whole, if_neg (by simpa [and_assoc] using whole)]

theorem scan_collected (h : HostNo) (x : Exchange) (n : Nat) (s : State) : (s.collected h x n).scan = s.scan := by
  rw [← removeSent_eq]
  simp

theorem exec_exchangeEnd (h : HostNo) (bytes : List Byte) (s : State) (x : Exchange) (fixed : (s.port h).exchange = some x) :
    exec (.exchangeEnd h bytes) s = .next (handleFrame h bytes (s.collected h x bytes.length)) := by
  change Host.Outcome.next (exchangeEnd h bytes s) = _
  simp only [exchangeEnd, fixed, removeSent_eq]

theorem admitFrame_full (h : HostNo) (kind tag : Byte) (refusal : Option Status) (take : State → State) (s : State)
    (full : 24 ≤ outstanding s h) : admitFrame h kind tag refusal take s = dropFrame h s := if_pos full

/-- Below the ceiling a refused frame is answered with its kind and tag as received (R124, R125). -/
theorem admitFrame_refused (h : HostNo) (kind tag : Byte) (status : Status) (take : State → State) (s : State)
    (below : outstanding s h < 24) :
    admitFrame h kind tag (some status) take s = s.answered h ⟨kind, tag, status, .empty⟩ :=
  (if_neg (Nat.not_le.2 below)).trans (placeResponse_eq ..)

theorem handleFrame_idle (h : HostNo) (bytes : List Byte) (s : State) (idle : bytes.headD 0x00#8 = 0x00#8) :
    handleFrame h bytes s = s := by
  simp only [handleFrame, examine_idle h bytes idle]

theorem handleFrame_refused (h : HostNo) (bytes : List Byte) (kind tag : Byte) (status : Status) (s : State)
    (refused : (examine h bytes = .badRequest kind tag ∧ status = .badRequest) ∨
      (examine h bytes = .badCheck kind tag ∧ status = .badCheck)) :
    handleFrame h bytes s = admitFrame h kind tag (some status) id s := by
  rcases refused with ⟨found, rfl⟩ | ⟨found, rfl⟩ <;> simp only [handleFrame, found]

/-- Settles O11: the removal, then what the port finds in the bytes shifted in. -/
theorem exchangeEndRemovesTheResponse : Obligations.ExchangeEndRemovesTheResponse := by
  unfold Obligations.ExchangeEndRemovesTheResponse
  refine fun s h bytes => ⟨fun void => ?_, fun x fixed => ⟨fun idle => ?_, fun kind tag status refused => ?_⟩⟩
  · change Host.Outcome.next (exchangeEnd h bytes s) = _
    simp only [exchangeEnd, void]
  · rw [exec_exchangeEnd h bytes s x fixed, handleFrame_idle h bytes _ idle]
  · rw [exec_exchangeEnd h bytes s x fixed, handleFrame_refused h bytes kind tag status _ refused]
    refine ⟨fun below => ?_, fun full => ?_⟩
    · rw [admitFrame_refused h kind tag status id _ below]
    · rw [admitFrame_full h kind tag _ id _ full, dropFrame, scan_collected]
      rfl

/-! ## An exchange that shifts a request in (R122, R124, R126) -/

theorem portServes_collected (s : State) (h : HostNo) (x : Exchange) (n : Nat) :
    portServes (s.collected h x n) h = portServes s h := by
  rw [← removeSent_eq]
  simp [portServes]

/-- A frame the port reads as a request does what the request's command does. -/
theorem handleFrame_request (i : Instr) (h : HostNo) (k : Kind) (tag : Byte) (bytes : List Byte) (s : State)
    (reads : examine h bytes = .request i) (first : bytes.getD 0 0 = k.code) (second : bytes.getD 1 0 = tag)
    (serves : portServes s h = true) :
    handleFrame h bytes s = request h k tag true (takeRequest i) s := by
  simp only [handleFrame, reads, first, second, request, serves, if_true]

/-- Settles O12: the port reads the frame as the request, whose command makes the same tests at the same port. -/
theorem exchangeEndTakesTheRequest : Obligations.ExchangeEndTakesTheRequest := by
  unfold Obligations.ExchangeEndTakesTheRequest
  intro s h i tag frame filler x fixed present released source formed encoded
  obtain ⟨k, sel, arg, payload, fields, short, spells⟩ := requestOf_requestFields h tag i source formed
  obtain rfl : frameBytes k tag sel arg payload = frame := by simpa [encode, fields, source] using encoded
  have serves := (portServes_collected s h x (frameBytes k tag sel arg payload ++ filler).length).trans
    (portServes_eq_true present released)
  rw [exec_exchangeEnd h _ s x fixed, exec_wellFormed i h tag k _ source (by rw [fields]; rfl) formed,
    handleFrame_request i h k tag _ _ (examine_frameBytes short spells filler) rfl rfl serves]

end Sys2Proof.Machine
end

section
/-! How the Fault Log takes a report, and its requests (R136 to R144): settles O43, O44, O45, O46 and O47. -/
namespace Sys2Proof.Machine

/-! ## The ways a report is taken (R136 to R139) -/

theorem sameFault_eq_false {r q : FaultRecord} (differs : ¬(q.kind = r.kind ∧ q.host = r.host ∧ q.pane = r.pane)) :
    sameFault r q = false := by
  rw [Bool.eq_false_iff, Ne, sameFault_iff]
  exact fun ⟨kind, host, pane⟩ => differs ⟨kind.symm, host.symm, pane.symm⟩

section
variable (notes : List HostNo) {r : FaultRecord} {s : State}

/-- At most one HELD record is one a report merges into (R135, R137). -/
theorem takeReport_merged {i : Fin 16} {q : FaultRecord} (ok : s.faultLogOk) (held : s.faults.slots[i] = some q)
    (same : sameFault r q = true) : takeReport notes r s =
      s.setFaults { s.faults with slots := s.faults.slots.set i (some (mergeFault q r)) } := by
  obtain ⟨single, -⟩ := ok
  rcases takeReport_cases notes r s with ⟨j, p, stands, agrees, merged⟩ | ⟨new, -⟩ | ⟨full, -⟩
  · obtain ⟨kind, host, pane⟩ := (sameFault_iff r q).1 same
    obtain ⟨kind', host', pane'⟩ := (sameFault_iff r p).1 agrees
    obtain rfl := single j i p q stands held (kind'.symm.trans kind) (host'.symm.trans host) (pane'.symm.trans pane)
    obtain rfl := Option.some.inj (stands.symm.trans held)
    exact merged
  · exact absurd same (by simp [new i q held])
  · obtain ⟨p, stands, differs⟩ := full i
    obtain rfl := Option.some.inj (stands.symm.trans held)
    exact absurd same (by simp [differs])

/-- A report that merges into no record makes one in the lowest FREE slot (R136). -/
theorem takeReport_recorded {i : Fin 16} (new : ∀ i : Fin 16, ∀ q, s.faults.slots[i] = some q → sameFault r q = false)
    (free : s.faults.slots[i] = none) (lowest : ∀ j : Fin 16, j < i → s.faults.slots[j] ≠ none) :
    takeReport notes r s = postTo notes (.faultNote i r.kind)
      (s.setFaults { s.faults with slots := s.faults.slots.set i (some r) }) := by
  rcases takeReport_cases notes r s with ⟨j, q, held, same, -⟩ | ⟨-, j, free', lowest', recorded⟩ | ⟨full, -⟩
  · exact absurd same (by simp [new j q held])
  · obtain rfl : j = i :=
      le_antisymm (not_lt.1 fun below => lowest' i below free) (not_lt.1 fun above => lowest j above free')
    exact recorded
  · obtain ⟨q, held, -⟩ := full i
    exact absurd (held.symm.trans free) nofun

/-- A report that finds every slot HELD by another record is counted (R139). -/
theorem takeReport_counted (full : ∀ i : Fin 16, ∃ q, s.faults.slots[i] = some q ∧ sameFault r q = false) :
    takeReport notes r s = countOverflow r s := by
  rcases takeReport_cases notes r s with ⟨i, q, held, same, -⟩ | ⟨-, i, free, -⟩ | ⟨-, counted⟩
  · obtain ⟨p, stands, differs⟩ := full i
    obtain rfl := Option.some.inj (stands.symm.trans held)
    exact absurd same (by simp [differs])
  · obtain ⟨p, stands, -⟩ := full i
    exact absurd (stands.symm.trans free) nofun
  · exact counted

end

/-! ## The notes of a new record (R138) -/

/-- The hosts a note is addressed to, before the test that they are ACTIVE. -/
theorem mem_noteHosts (r : FaultRecord) (h : HostNo) : h ∈ noteHosts r ↔
    r.kind = .underrun ∨ (r.kind = .leaseLapse ∧ r.host ≠ some h) ∨
      (r.kind ≠ .underrun ∧ r.kind ≠ .leaseLapse ∧ r.host = some h) := by
  cases kind : r.kind <;> simp [noteHosts, kind, mem_allHosts]

theorem noteHosts_nodup (r : FaultRecord) : (noteHosts r).Nodup := by
  have hosts : allHosts.Nodup := by decide
  unfold noteHosts
  split
  · exact hosts
  · exact hosts.filter _
  · exact Option.toList_nodup r.host

/-- Posting leaves the records of hosts and panes as they are, not only as they are read. -/
theorem postTo_records (hs : List HostNo) (e : Event) (s : State) :
    (postTo hs e s).hosts = s.hosts ∧ (postTo hs e s).panes = s.panes := by
  refine forEach_induct (fun t => t.hosts = s.hosts ∧ t.panes = s.panes) _ (fun h t same => ?_) hs s ⟨rfl, rfl⟩
  unfold postEvent
  (repeat' split) <;> exact same

/-- Settles O47: the merge test finds at most one record, and a new record's notes go each to one host. -/
theorem faultReports : Obligations.FaultReports := by
  unfold Obligations.FaultReports
  intro s r ok same noted
  refine ⟨fun i q held agrees => ?_, fun new => ⟨fun i free lowest => ?_, fun full => ?_⟩⟩
  · obtain ⟨kind, host, pane⟩ := agrees
    exact takeReport_merged _ ok held ((sameFault_iff r q).2 ⟨kind.symm, host.symm, pane.symm⟩)
  · have recorded := takeReport_recorded (noteHosts r) (fun j q held => sameFault_eq_false (new j q held)) free lowest
    intro t
    have posted (h : HostNo) : t.queue h =
        if h ∈ noteHosts r ∧ s.isActive h = true then (s.queue h).posted [.faultNote i r.kind] else s.queue h :=
      (congrArg (·.queue h) recorded).trans (postTo_queue _ (noteHosts_nodup r) _ h (s.setFaults _))
    have told (h : HostNo) : noted h ↔ h ∈ noteHosts r ∧ s.isActive h = true := by rw [mem_noteHosts, and_comm]
    obtain ⟨hosts, panes⟩ := postTo_records (noteHosts r) (.faultNote i r.kind)
      (s.setFaults { s.faults with slots := s.faults.slots.set i (some r) })
    refine ⟨?_, (congrArg State.hosts recorded).trans hosts, (congrArg State.panes recorded).trans panes, by simp [t],
      fun h => ⟨by simp [t], fun apart => ?_, fun note room => ?_, fun note crowded => ?_⟩⟩
    · exact (congrArg State.faults recorded).trans (postTo_faults ..)
    · rw [posted, if_neg (mt (told h).2 apart)]
    · rw [posted, if_pos ((told h).1 note)]
      simp [EventQueue.posted, room]
    · rw [posted, if_pos ((told h).1 note)]
      simp [EventQueue.posted, Nat.not_lt.2 crowded]
  · have counted : reportFault r s = countOverflow r s := takeReport_counted (noteHosts r) fun i => by
      obtain ⟨q, held⟩ := Option.ne_none_iff_exists'.1 (full i)
      exact ⟨q, held, sameFault_eq_false (new i q held)⟩
    rw [counted, countOverflow_eq]
    exact ⟨fun h named => by simp [named], fun unnamed => by simp [unnamed]⟩

/-! ## The slot a selector names (R140, Table 12-3) -/

theorem slotOf_above (sel : Byte) (above : 15 < sel.toNat) : slotOf sel = none := dif_neg (by omega)

theorem slotOf_byteOf (i : Fin 16) : slotOf (byteOf i.val) = some i := by
  revert i
  decide

/-- A selector that names a slot does not name OVERFLOW. -/
theorem byteOf_ne_overflow (i : Fin 16) : byteOf i.val ≠ 0xFF#8 := by
  revert i
  decide

/-! ## An answer to an ACTIVE host -/

/-- A full lease changes no overflow count. -/
theorem heard_overflow (s : State) (h : HostNo) : ((s.heard h).host h).overflow = (s.host h).overflow := by
  simp [State.heard]

theorem slotTaken_setFaults (s : State) (h : HostNo) (v : FaultLog) :
    (s.slotTaken h).setFaults v = (s.setFaults v).slotTaken h := rfl

theorem slotTaken_setHost (s : State) (h g : HostNo) (v : HostRecord) :
    (s.slotTaken h).setHost g v = (s.setHost g v).slotTaken h := rfl

theorem slotTaken_setQueue (s : State) (h g : HostNo) (v : EventQueue) :
    (s.slotTaken h).setQueue g v = (s.setQueue g v).slotTaken h := rfl

/-- The fault record's answer, with the two counts as they stood before the request. -/
theorem faultPayload_heard (s : State) (h : HostNo) (i : Fin 16) (r : FaultRecord) :
    faultPayload ((s.heard h).slotTaken h) h i r = .fault i r (s.host h).overflow s.faults.hostless := by
  rw [← heard_overflow s h]
  rfl

section
variable {s : State} {h : HostNo} (tag : Byte) (speaks : s.speaks h)
include speaks

/-! ## FAULT_READ (R140) -/

theorem exec_faultRead (sel : Byte) :
    exec (.faultRead h tag sel) s = .next (takeFaultRead h tag sel ((s.heard h).slotTaken h)) :=
  congrArg Host.Outcome.next (request_speaks h .faultRead tag _ s speaks)

/-! ## FAULT_CLEAR (R141, R142) -/

theorem exec_faultClear (sel : Byte) :
    exec (.faultClear h tag sel) s = .next (takeFaultClear h tag sel ((s.heard h).slotTaken h)) :=
  congrArg Host.Outcome.next (request_speaks h .faultClear tag _ s speaks)

theorem exec_faultClearOverflow :
    exec (.faultClearOverflow h tag) s = .next (takeFaultClearOverflow h tag ((s.heard h).slotTaken h)) :=
  congrArg Host.Outcome.next (request_speaks h .faultClear tag _ s speaks)

/-- A selector that names neither a slot nor OVERFLOW. -/
theorem exec_faultClear_range (sel : Byte) (above : 15 < sel.toNat) (slot : sel ≠ 0xFF#8) :
    exec (.faultClear h tag sel) s = .next ((s.heard h).answered h (responseTo .faultClear tag .range .empty)) := by
  rw [exec_faultClear tag speaks, takeFaultClear, if_neg slot, clearSlot, slotOf_above sel above]
  exact congrArg _ (reply_slotTaken ..)

theorem exec_faultClear_slot (i : Fin 16) :
    exec (.faultClear h tag (byteOf i.val)) s = .next (clearSlot h tag (byteOf i.val) ((s.heard h).slotTaken h)) := by
  rw [exec_faultClear tag speaks, takeFaultClear, if_neg (byteOf_ne_overflow i)]

/-! ## EVENT_FETCH (R144) -/

theorem exec_eventFetch :
    exec (.eventFetch h tag) s = .next (takeEventFetch h tag ((s.heard h).slotTaken h)) :=
  congrArg Host.Outcome.next (request_speaks h .eventFetch tag _ s speaks)

end

/-- The answer asserts HATN whatever the event queue left of it (R132). -/
theorem reply_refreshAttention (h : HostNo) (k : Kind) (tag : Byte) (st : Status) (pl : Payload) (s : State) :
    reply h k tag st pl (refreshAttention h s) = reply h k tag st pl s := by
  simp [reply, answer_eq, State.answered, refreshAttention]

/-! ## The requests -/

/-- Settles O43: the slot number, then the slot. -/
theorem faultRead : Obligations.FaultRead := by
  unfold Obligations.FaultRead
  refine fun s h tag speaks => ⟨fun sel above => ?_, fun i => ⟨fun free => ?_, fun r held => ?_⟩⟩
  all_goals rw [exec_faultRead tag speaks]
  · rw [takeFaultRead, slotOf_above sel above]
    exact congrArg _ (reply_slotTaken ..)
  all_goals
    have slot : ((s.heard h).slotTaken h).faults.slots[i] = s.faults.slots[i] := rfl
    rw [takeFaultRead, slotOf_byteOf]
  · simp only [slot, free, reply_slotTaken]
  · simp only [slot, held, reply_slotTaken, faultPayload_heard]

/-- Settles O44: the slot number, then the slot, then the host its record names. -/
theorem faultClear : Obligations.FaultClear := by
  unfold Obligations.FaultClear
  refine fun s h tag speaks => ⟨?_, exec_faultClear_range tag speaks, fun i => ⟨fun free => ?_, fun r held => ⟨?_, ?_⟩⟩⟩
  · rw [exec_faultClear tag speaks, exec_faultClearOverflow tag speaks, takeFaultClear, if_pos rfl]
  all_goals
    have slot : ((s.heard h).slotTaken h).faults.slots[i] = s.faults.slots[i] := rfl
    rw [exec_faultClear_slot tag speaks, clearSlot, slotOf_byteOf]
  · simp only [slot, free, reply_slotTaken]
  · rintro ⟨g, named, other⟩
    simp only [slot, held, named, Option.any_some, decide_eq_true other, if_true, reply_slotTaken]
  · intro own
    have mine : r.host.any (· ≠ h) = false := by rcases own with named | named <;> simp [named]
    simp only [slot, held, mine, faultPayload_heard, Bool.false_eq_true, if_false, slotTaken_setFaults, reply_slotTaken]
    rfl

/-- Settles O45: both counts start again at 0, so that a report that finds every slot HELD counts 1. -/
theorem faultClearOverflow : Obligations.FaultClearOverflow := by
  unfold Obligations.FaultClearOverflow
  intro s h tag speaks cleared t
  refine ⟨?_, exec_faultClear_range tag speaks, fun r full => ?_⟩
  · rw [exec_faultClearOverflow tag speaks, takeFaultClearOverflow, slotTaken_setHost, slotTaken_setFaults, reply_slotTaken]
    exact congrArg (fun n => Host.Outcome.next (cleared.answered h
      (responseTo .faultClear tag .ok (.overflow n s.faults.hostless)))) (heard_overflow s h)
  · have counted : reportFault r t = countOverflow r t := takeReport_counted (noteHosts r) fun i => by
      obtain ⟨q, held, differs⟩ := full i
      exact ⟨q, held, sameFault_eq_false differs⟩
    have own : (t.host h).overflow = 0 := congrArg HostRecord.overflow (State.host_setHost_same (s.heard h) h _)
    rw [counted, countOverflow_eq]
    exact ⟨fun named => by simp [named, own], fun unnamed => by simp [unnamed, show t.faults.hostless = 0 from rfl]⟩

/-- Settles O46: the oldest events leave the head of the queue; a post is the same whenever it comes (R143). -/
theorem eventFetch : Obligations.EventFetch := by
  unfold Obligations.EventFetch
  intro s h tag speaks
  have queue : ((s.heard h).slotTaken h).queue h = s.queue h := rfl
  have ⟨_, active⟩ := speaks
  refine ⟨?_, fun e => by rw [postEvent_queue, if_pos ⟨rfl, active⟩]⟩
  rw [exec_eventFetch tag speaks, takeEventFetch]
  simp only [queue, reply_refreshAttention, List.length_drop, slotTaken_setQueue, reply_slotTaken]

end Sys2Proof.Machine
end

section
/-! Event queues and fault records stay within their bounds (R135, R137, R143): settles O56. -/
namespace Sys2Proof.Machine

/-- The event queues and the fault records are within the bounds of R143, R135 and R137. -/
def State.bounded (s : State) : Prop := s.eventQueuesOk ∧ s.faultLogOk

/-- An event queue within the bounds of R143. -/
def EventQueue.bounded (q : EventQueue) : Prop := q.events.length ≤ 8 ∧ q.lost ≤ 255

theorem EventQueue.bounded.posted {q : EventQueue} (ok : q.bounded) (es : List Event) : (q.posted es).bounded := by
  induction es generalizing q with
  | nil => exact ok
  | cons e es ih =>
    obtain ⟨short, lost⟩ := ok
    refine ih ?_
    split
    · exact ⟨by simpa, lost⟩
    · exact ⟨short, Nat.min_le_right _ _⟩

namespace State.bounded
variable {s t : State}

/-! ## Operations on the state -/

theorem of_same (ok : s.bounded) (queue : ∀ h, t.queue h = s.queue h) (slots : t.faults.slots = s.faults.slots) :
    t.bounded := by
  unfold State.bounded State.eventQueuesOk State.faultLogOk
  simp only [queue, slots]
  exact ok

/-- One event queue changes. -/
theorem of_queue (ok : s.bounded) (h : HostNo) (own : (t.queue h).bounded) (queue : ∀ g, h ≠ g → t.queue g = s.queue g)
    (faults : t.faults = s.faults) : t.bounded := by
  obtain ⟨queues, log⟩ := ok
  refine ⟨fun g => ?_, by rwa [State.faultLogOk, faults]⟩
  by_cases same : h = g
  · exact same ▸ own
  · rw [queue g same]
    exact queues g

theorem forEach {α : Type} (ok : s.bounded) (f : α → State → State) (turn : ∀ a t, t.bounded → (f a t).bounded)
    (l : List α) : (forEach l f s).bounded := forEach_induct State.bounded f turn l s ok

theorem partReset (cause : Cause) (s : State) : (partReset cause s).bounded := by
  refine ⟨fun h => by simp, ?_⟩
  have empty (i : Fin 16) : (Machine.partReset cause s).faults.slots[i] = none :=
    Vector.getElem_replicate i.isLt
  exact ⟨fun i j r q held => absurd held (by simp [empty]), fun i r held => absurd held (by simp [empty])⟩

/-- A slot takes a record that no other slot's record would merge with. -/
theorem setSlot (ok : s.bounded) (i : Fin 16) (c : Option FaultRecord) (n : Nat)
    (count : ∀ r, c = some r → 1 ≤ r.repeats ∧ r.repeats ≤ 255)
    (single : ∀ r, c = some r → ∀ j : Fin 16, ∀ q, j ≠ i → s.faults.slots[j] = some q → sameFault r q = false) :
    (s.setFaults ⟨s.faults.slots.set i c, n⟩).bounded := by
  obtain ⟨queues, apart, counts⟩ := ok
  have slot (j : Fin 16) : (s.setFaults ⟨s.faults.slots.set i c, n⟩).faults.slots[j] =
      if j = i then c else s.faults.slots[j] := by
    by_cases same : j = i
    · subst same
      rw [if_pos rfl]
      exact Vector.getElem_set_self j.isLt
    · rw [if_neg same]
      exact Vector.getElem_set_ne i.isLt j.isLt (Fin.val_ne_of_ne (Ne.symm same))
  refine ⟨queues, fun j k r q first second kind host pane => ?_, fun j r held => ?_⟩
  · rw [slot] at first second
    have merges : sameFault r q = true := (sameFault_iff r q).2 ⟨kind, host, pane⟩
    have merges' : sameFault q r = true := (sameFault_iff q r).2 ⟨kind.symm, host.symm, pane.symm⟩
    split at first <;> split at second
    · next here there => rw [here, there]
    · next here there => exact absurd merges (by simp [single r first k q there second])
    · next there here => exact absurd merges' (by simp [single q second j r there first])
    · exact apart j k r q first second kind host pane
  · rw [slot] at held
    split at held
    · exact count r held
    · exact counts j r held

/-! ### Records that neither bound speaks of -/

theorem setPort (ok : s.bounded) (h : HostNo) (v : Port) : (s.setPort h v).bounded := ok
theorem setHost (ok : s.bounded) (h : HostNo) (v : HostRecord) : (s.setHost h v).bounded := ok
theorem setLane (ok : s.bounded) (h : HostNo) (v : Lane) : (s.setLane h v).bounded := ok
theorem setPane (ok : s.bounded) (p : PaneNo) (v : Pane) : (s.setPane p v).bounded := ok
theorem setScan (ok : s.bounded) (v : Scan) : (s.setScan v).bounded := ok
theorem setPanel (ok : s.bounded) (v : Panel) : (s.setPanel v).bounded := ok
theorem setConf (ok : s.bounded) (v : ConfigBlock) : (s.setConf v).bounded := ok
theorem setParked (ok : s.bounded) (v : List Parked) : (s.setParked v).bounded := ok
theorem refreshUrgency (ok : s.bounded) : (refreshUrgency s).bounded := ok
theorem freeStore (ok : s.bounded) : (freeStore s).bounded := ok
theorem abandonLatch (ok : s.bounded) : (abandonLatch s).bounded := ok
theorem setAccess (ok : s.bounded) (h : HostNo) (a : AccessState) : (setAccess h a s).bounded := ok
theorem leaveActive (ok : s.bounded) (h : HostNo) (after : HostState) : (leaveActive h after s).bounded := ok
theorem grantWrite (ok : s.bounded) (h : HostNo) (v : Service) (restart : Option (Half × Nat)) :
    (grantWrite h v restart s).bounded := ok

/-! ### Responses, events and fault reports (R136 to R139, R143 to R145) -/

theorem reply (ok : s.bounded) (h : HostNo) (k : Kind) (tag : Byte) (st : Status) (pl : Payload) :
    (reply h k tag st pl s).bounded := ok.of_same (by simp) (by simp)

theorem answerAll (ok : s.bounded) (h : HostNo) (rs : List Response) : (answerAll h rs s).bounded :=
  ok.of_same (by simp) (by simp)

theorem postEvent (ok : s.bounded) (h : HostNo) (e : Event) : (postEvent h e s).bounded := by
  have ⟨queues, _⟩ := ok
  refine ok.of_queue h ?_ (fun g other => by rw [postEvent_posted, if_neg other]) (by simp)
  rw [postEvent_posted, if_pos rfl]
  split
  · exact EventQueue.bounded.posted (queues h) [e]
  · exact queues h

theorem postTo (ok : s.bounded) (hs : List HostNo) (e : Event) : (postTo hs e s).bounded :=
  ok.forEach _ (fun h _ still => still.postEvent h e) hs

/-- The head of a queue leaves, and the lost count starts again (R144). -/
theorem dropEvents (ok : s.bounded) (h : HostNo) (n : Nat) :
    (refreshAttention h (s.setQueue h ⟨(s.queue h).events.drop n, 0⟩)).bounded := by
  have ⟨queues, _⟩ := ok
  have ⟨short, _⟩ := queues h
  exact ok.of_queue h ⟨by simpa using Nat.le_add_right_of_le short, by simp⟩ (fun g other => by simp [other]) (by simp)

theorem clearEvents (ok : s.bounded) (h : HostNo) : (clearEvents h s).bounded :=
  ok.of_queue h (by simp [clearEvents_queue, EventQueue.bounded]) (fun g other => by simp [Machine.clearEvents, other])
    (by simp)

/-- A merge keeps kind, host and pane, and a new record is one that merges with none. -/
theorem takeReport (ok : s.bounded) (notes : List HostNo) (r : FaultRecord) (once : r.repeats = 1) :
    (takeReport notes r s).bounded := by
  have ⟨_, apart, _⟩ := ok
  rcases takeReport_cases notes r s with ⟨i, q, held, -, merged⟩ | ⟨new, i, -, -, recorded⟩ | ⟨-, counted⟩
  · rw [merged]
    refine ok.setSlot i _ _ (fun p now => ?_) fun p now j k other stands => ?_ <;> cases now
    · exact ⟨le_min (Nat.le_add_left 1 _) (by decide), Nat.min_le_right _ _⟩
    · rw [Bool.eq_false_iff, Ne, sameFault_iff]
      rintro ⟨kind, host, pane⟩
      exact other (apart j i k q stands held kind.symm host.symm pane.symm)
  · rw [recorded]
    refine (ok.setSlot i _ _ (fun p now => ?_) fun p now j k _ stands => ?_).postTo notes _ <;> cases now
    · simp [once]
    · exact new j k stands
  · rw [counted, countOverflow_eq]
    split <;> exact ok

theorem reportFault (ok : s.bounded) (r : FaultRecord) (once : r.repeats = 1) : (reportFault r s).bounded :=
  ok.takeReport _ r once

/-! ## Service starts and accesses (R73 to R76, R81, R82) -/

theorem noteBudget (ok : s.bounded) (h : HostNo) (p : PaneNo) : (noteBudget h p s).bounded := by
  unfold Machine.noteBudget
  split
  · exact ok
  · exact (ok.setHost h _).postEvent h _

theorem testAccess (ok : s.bounded) (h : HostNo) : (testAccess h s).bounded := by
  unfold Machine.testAccess
  (repeat' split)
  · exact ok
  · exact ok.setAccess h _
  · exact ok.setAccess h _
  · exact ok.setAccess h _
  · exact (ok.setAccess h _).noteBudget h _

theorem startOp (ok : s.bounded) (h : HostNo) (op : CellOp) (rest : List CellOp) : (startOp h op rest s).bounded := by
  unfold Machine.startOp
  split
  · exact ok.of_same (by simp) (by simp)
  · exact (ok.setLane h _).testAccess h

theorem startHead (ok : s.bounded) (h : HostNo) (n : Nat) : (startHead h n s).bounded := by
  induction n generalizing s with
  | zero => exact ok
  | succ n ih =>
    unfold Machine.startHead
    split
    · split
      · exact ok
      · exact ih (ok.startOp h _ _)
    · exact ok

theorem startServices (ok : s.bounded) : (startServices s).bounded := ok.forEach _ (fun h _ still => still.startHead h _) _

theorem writeDone (ok : s.bounded) (h : HostNo) (n : Nat) : (writeDone h n s).bounded := by
  unfold Machine.writeDone
  split
  · exact ok
  · dsimp only
    split
    · exact ok.of_same (by simp) (by simp)
    · exact ok.of_same (by simp) (by simp)
    · exact (ok.setLane h _).testAccess h

/-! ## Grants and what follows at once (R66 to R69, R93, R94) -/

theorem passGrant (ok : s.bounded) (kind : FaultKind) (h : HostNo) (v : Service) (l : Latch) :
    (passGrant kind h v l s).bounded :=
  (((ok.setScan _).setPane v.pane _).reportFault (conflictFault kind h v l) rfl).grantWrite h v none

theorem parkOrPass (ok : s.bounded) (h : HostNo) (v : Service) (l : Latch) : (parkOrPass h v l s).bounded := by
  unfold Machine.parkOrPass
  split
  · exact ok
  · exact ok.passGrant _ h v l

theorem resolveConflict (ok : s.bounded) (h : HostNo) (v : Service) (l : Latch) : (resolveConflict h v l s).bounded := by
  unfold Machine.resolveConflict
  (repeat' split)
  · exact ok.passGrant _ h v l
  · exact ok.parkOrPass h v l
  · exact (ok.reportFault _ rfl).parkOrPass h v l
  · exact ok
  · exact ok.parkOrPass h v l

theorem serveHost (ok : s.bounded) (h : HostNo) : (serveHost h s).bounded := by
  unfold Machine.serveHost
  (repeat' split)
  · exact ok
  · exact ok
  · exact ok.resolveConflict h _ _
  · exact ok

theorem arbitrate (ok : s.bounded) (n : Nat) : (arbitrate n s).bounded := by
  induction n generalizing s with
  | zero => exact ok
  | succ n ih =>
    unfold Machine.arbitrate
    (repeat' split)
    · exact ok
    · exact ok
    · exact ok
    · exact ok
    · exact ih (ok.serveHost _)
    · exact ok

theorem settle (ok : s.bounded) : (settle s).bounded := by
  unfold Machine.settle
  split
  · exact ok.startServices.arbitrate 5
  · exact ok

/-! ## The Parked List, the boundary and latches (R43 to R47, R55 to R57, R83, R97) -/

theorem releaseParked (ok : s.bounded) : (releaseParked s).bounded := by
  refine (ok.setParked []).forEach releaseEntry (fun e t still => ?_) _
  unfold releaseEntry
  (repeat' split)
  · exact still.testAccess _
  · exact still
  · exact still

theorem refillBudgets (ok : s.bounded) : (refillBudgets s).bounded := by
  refine forEach (ok.forEach refillBudget (fun _ _ still => still) _) retestWaiting (fun h t still => ?_) _
  unfold retestWaiting
  (repeat' split)
  · exact still.testAccess _
  · exact still
  · exact still

theorem boundaryPane (ok : s.bounded) (frame : Half) (p : PaneNo) : (boundaryPane frame p s).bounded := by
  unfold Machine.boundaryPane
  dsimp only
  split
  · exact ok
  · exact (ok.setPane p _).postTo _ _
  · exact (ok.setPane p _).postTo _ _
  · exact ok

theorem frameBoundary (ok : s.bounded) (frame : Half) : (frameBoundary frame s).bounded :=
  ((ok.setScan _).forEach (Machine.boundaryPane frame) (fun p _ still => still.boundaryPane frame p) _).refillBudgets

theorem startLatchAs (ok : s.bounded) (frame : Half) : (startLatchAs frame s).bounded := by
  unfold Machine.startLatchAs
  dsimp only
  (repeat' split)
  · exact (ok.frameBoundary frame).setScan _
  · exact ok
  · exact ok

theorem startLatch (ok : s.bounded) : (startLatch s).bounded := ok.startLatchAs _

theorem releaseAndStart (ok : s.bounded) : (releaseAndStart s).bounded := by
  have counted : (s.setChoices (s.choices + 1)).bounded := ok
  unfold Machine.releaseAndStart
  dsimp only
  (repeat' split)
  · exact counted.releaseParked.startLatch
  · exact counted.startLatch.releaseParked
  · exact ok.releaseParked.startLatch

theorem gatherSegment (ok : s.bounded) (cells : List Cell) : (gatherSegment cells s).bounded := by
  unfold Machine.gatherSegment
  split
  · exact ok
  · dsimp only
    split
    · exact ok
    · exact (ok.setScan _).refreshUrgency.releaseAndStart

/-! ## The Panel Channel (R147 to R151) -/

theorem startTransfer (ok : s.bounded) : (startTransfer s).bounded := ok.of_same (by simp) (by simp)

theorem endTransfer (ok : s.bounded) (status : Status) : (endTransfer status s).bounded := by
  unfold Machine.endTransfer
  split
  · exact ok
  · next f _ =>
    dsimp only
    have answered : (if f.discard = true then s.setPanel { s.panel with inFlight := none, timer := none }
        else Machine.reply f.transfer.host .panelSend f.transfer.tag status (.panel f.transfer.address f.attempts)
          (s.setPanel { s.panel with inFlight := none, timer := none })).bounded := by
      split
      · exact ok
      · exact (ok.setPanel _).reply _ _ _ _ _
    generalize (if f.discard = true then _ else _) = u at answered
    refine startTransfer ?_
    (repeat' split)
    · exact answered.takeReport _ _ rfl
    · exact answered.reportFault _ rfl
    · exact answered

theorem retryOrEnd (ok : s.bounded) (status : Status) : (retryOrEnd status s).bounded := by
  unfold Machine.retryOrEnd
  (repeat' split)
  · exact ok
  · exact ok
  · exact ok.endTransfer status

theorem panelAck (ok : s.bounded) : (panelAck s).bounded := by
  unfold Machine.panelAck
  split
  · exact ok.endTransfer .ok
  · exact ok

theorem panelNak (ok : s.bounded) : (panelNak s).bounded := by
  unfold Machine.panelNak
  split
  · exact ok.retryOrEnd .panelNak
  · exact ok

theorem replyTimerExpiry (ok : s.bounded) : (replyTimerExpiry s).bounded := by
  unfold Machine.replyTimerExpiry
  split
  · exact ok.retryOrEnd .panelTimeout
  · exact ok

theorem linkDown (ok : s.bounded) : (linkDown s).bounded := by
  unfold Machine.linkDown
  split
  · exact ok
  · exact (ok.setScan _).endTransfer .linkDown

/-! ## Line marks and completions (R51, R56, R62, R63, R76) -/

theorem underrun (ok : s.bounded) (k : Nat) : (underrun k s).bounded := by
  have sent (packets : List LaneWord) : (emit packets s).bounded := ok.of_same (by simp) (by simp)
  unfold Machine.underrun
  dsimp only
  have told (frame : Half) := (sent (markPackets s.scan.emission k false true (backdropLine s))).reportFault
    (faultReport .underrun none none (some k) frame) rfl
  split
  · exact ((told _).abandonLatch.setScan _).releaseAndStart
  · exact ((told _).setScan _).startLatch

theorem visibleMark (ok : s.bounded) (k : Nat) : (visibleMark k s).bounded := by
  unfold Machine.visibleMark
  (repeat' split)
  · exact startLatch (ok.of_same (by simp) (by simp))
  · exact ok.underrun k
  · exact ok.underrun k

theorem lineMark (ok : s.bounded) : (lineMark s).bounded := by
  unfold Machine.lineMark
  split
  · refine settle ?_
    unfold markWork
    dsimp only
    have marked (first : Bool) (k : Nat) : (announceBlanking first k (advanceMark s)).bounded :=
      ok.of_same (by simp) (by simp)
    split
    · exact (marked _ _).visibleMark _
    · exact marked _ _
  · exact ok

theorem segmentReadComplete (ok : s.bounded) : (segmentReadComplete s).bounded := by
  unfold Machine.segmentReadComplete
  (repeat' split)
  · exact (ok.freeStore.gatherSegment _).settle
  · exact ok.freeStore.settle
  · exact ok

theorem writeAccessComplete (ok : s.bounded) : (writeAccessComplete s).bounded := by
  unfold Machine.writeAccessComplete
  split
  · next live h bank line first cells restart _ =>
    have stored : (restartLatch restart (storeCells bank line first cells (Machine.freeStore s))).bounded :=
      ok.of_same (by simp) (by simp)
    dsimp only
    split
    · exact (stored.writeDone h _).settle
    · exact stored.settle
  · exact ok

theorem readAccessComplete (ok : s.bounded) : (readAccessComplete s).bounded := by
  unfold Machine.readAccessComplete
  (repeat' split)
  · exact settle (ok.of_same (by simp) (by simp))
  · exact ok.freeStore.settle
  · exact ok

/-! ## Guests and departures (R20 to R28, R117, R118, R157) -/

theorem endWork (ok : s.bounded) (panes : List PaneNo) (status : Status) (h : HostNo) :
    (endWork panes status h s).bounded := ok.of_same (by simp) (by simp)

theorem changeGuest (ok : s.bounded) (h : HostNo) (p : PaneNo) (named : Option HostNo) :
    (changeGuest h p named s).bounded :=
  postTo ((ok.setPane p _).forEach _
    (fun g _ still => (still.endWork [p] .revoked g).postEvent g _) _) _ _

theorem releasePane (ok : s.bounded) (h : HostNo) (tag : Byte) (p : PaneNo) : (releasePane h tag p s).bounded := by
  have held := (ok.setPane p (releasedPane (s.pane p))).answerAll h ((s.pane p).held.toList.map cancelledHeld)
  have ended := (held.endWork [p] .cancelled h).forEach _ (fun g _ still => still.endWork [p] .cancelled g)
    (s.pane p).guest.toList
  exact settle (reply (ended.postTo _ _) _ _ _ _ _)

theorem departPanes (ok : s.bounded) (h : HostNo) (kind : Departure) : (departPanes h kind s).bounded := by
  have left := ok.forEach (departPane h kind) (fun p _ still => still.of_same (by simp) (by simp)) allPanes
  have told := left.forEach (fun g => departGuest h kind g (guestPanesOf s h g))
    (fun g _ still => (still.endWork _ _ g).forEach _ (fun p _ still => still.postEvent g _) _) allHosts
  have noticed := told.forEach _ (fun p _ still => still.postTo allHosts (.orphanNotice p h (orphanReason kind)))
    (orphansOf s h kind)
  exact noticed.forEach (removeGuest h) (fun p _ still => still.of_same (by simp) (by simp)) allPanes

theorem judgeVote (ok : s.bounded) : (judgeVote s).bounded := by
  rcases judgeVote_cases s with same | closed | reset
  · rwa [same]
  · rw [closed]; exact ok
  · rw [reset]; exact partReset .vote s

theorem departSilently (ok : s.bounded) (h : HostNo) (kind : Departure) : (departSilently h kind s).bounded := by
  have cleared : (portDeparture h (kind = .lapse) s).bounded := ok.of_same (by simp) (by simp)
  have departed := (cleared.clearEvents h).departPanes h kind
  have left : (silentlyLeft h kind s).bounded := departed.of_same (by simp [silentlyLeft]) (by simp [silentlyLeft])
  rw [departSilently_eq]
  exact left.judgeVote.settle

theorem detachHost (ok : s.bounded) (h : HostNo) (tag : Byte) (mode : DetachMode) : (detachHost h tag mode s).bounded := by
  have departed := (ok.leaveActive h .absent).departPanes h (.detach mode)
  exact (departed.of_same (by simp) (by simp)).judgeVote.settle

/-! ## Requests (R107, R126) -/

theorem hostCheck (ok : s.bounded) (h : HostNo) (k : Kind) (tag : Byte) (take : State → State)
    (taken : ∀ u, u.bounded → (take u).bounded) : (hostCheck h k tag take s).bounded := by
  rcases hostCheck_cases h k tag take s with ⟨-, taking⟩ | ⟨status, answered⟩
  · rw [taking]; exact taken _ (ok.setHost h _)
  · rw [answered]; exact ok.reply _ _ _ _ _

theorem withPane (ok : s.bounded) (h : HostNo) (k : Kind) (tag sel : Byte) (checks : PaneNo → List (Bool × Status))
    (take : PaneNo → State → State) (taken : ∀ p, (take p s).bounded) : (withPane h k tag sel checks take s).bounded := by
  rcases withPane_cases h k tag sel checks take s with ⟨status, answered⟩ | ⟨p, -, -, taking⟩
  · rw [answered]; exact ok.reply _ _ _ _ _
  · rw [taking]; exact taken p

theorem guestPane (ok : s.bounded) (h : HostNo) (tag : Byte) (named : Option HostNo) (p : PaneNo) :
    (guestPane h tag named p s).bounded := by
  unfold Machine.guestPane
  split
  · exact ok.reply _ _ _ _ _
  · exact ((ok.changeGuest h p named).reply _ _ _ _ _).settle

theorem joinLane (ok : s.bounded) (h : HostNo) (op : CellOp) : (joinLane h op s).bounded := by
  unfold Machine.joinLane
  split
  · exact (ok.setLane h _).settle
  · exact ok.reply _ _ _ _ _

theorem takeAttach (ok : s.bounded) (h : HostNo) (tag : Byte) : (takeAttach h tag s).bounded :=
  reply (ok.of_same (by simp) (by simp)) _ _ _ _ _

theorem takeStatus (ok : s.bounded) (h : HostNo) (tag : Byte) : (takeStatus h tag s).bounded :=
  reply (ok.of_same (by simp) (by simp)) _ _ _ _ _

theorem takeStart (ok : s.bounded) (h : HostNo) (tag : Byte) : (takeStart h tag s).bounded := by
  unfold Machine.takeStart
  (repeat' split)
  · exact ok.reply _ _ _ _ _
  · exact ok.reply _ _ _ _ _
  · have entered : (enterRun s).bounded := startLatchAs (ok.of_same (by simp) (by simp)) 0
    exact (entered.reply _ _ _ _ _).settle

theorem takeResetVote (ok : s.bounded) (h : HostNo) (tag : Byte) : (takeResetVote h tag s).bounded := by
  unfold Machine.takeResetVote
  split
  · have opened : (if s.conf.vote = .idle then openVote h s else s).bounded := by
      split
      · exact (ok.setConf _).postTo _ _
      · exact ok
    exact ((opened.setHost h _).reply _ _ _ _ _).judgeVote
  · exact ok.reply _ _ _ _ _

theorem takeDetach (ok : s.bounded) (h : HostNo) (tag mode : Byte) : (takeDetach h tag mode s).bounded := by
  unfold Machine.takeDetach
  split
  · exact ok.reply _ _ _ _ _
  · exact ok.detachHost h tag _

theorem takeFaultClearOverflow (ok : s.bounded) (h : HostNo) (tag : Byte) : (takeFaultClearOverflow h tag s).bounded :=
  ok.of_same (by simp [Machine.takeFaultClearOverflow]) (by simp [Machine.takeFaultClearOverflow])

theorem takeFaultClear (ok : s.bounded) (h : HostNo) (tag sel : Byte) : (takeFaultClear h tag sel s).bounded := by
  unfold Machine.takeFaultClear clearSlot
  (repeat' split)
  · exact ok.takeFaultClearOverflow h tag
  · exact ok.reply _ _ _ _ _
  · exact ok.reply _ _ _ _ _
  · exact ok.reply _ _ _ _ _
  · exact (ok.setSlot _ none _ nofun nofun).reply _ _ _ _ _

theorem takeRequest (ok : s.bounded) (i : Instr) : (takeRequest i s).bounded := by
  cases i
  case attach => exact ok.takeAttach _ _
  case status => exact ok.takeStatus _ _
  case detach => exact ok.hostCheck _ _ _ _ fun u still => still.takeDetach _ _ _
  case configSet =>
    exact ok.hostCheck _ _ _ _ fun u still => by
      unfold takeConfigSet
      (repeat' split) <;> exact still.of_same (by simp) (by simp)
  case configGet =>
    exact ok.hostCheck _ _ _ _ fun u still => by
      unfold takeConfigGet
      split <;> exact still.reply _ _ _ _ _
  case start => exact ok.hostCheck _ _ _ _ fun u still => still.takeStart _ _
  case resetVote => exact ok.hostCheck _ _ _ _ fun u still => still.takeResetVote _ _
  case paneClaim =>
    exact ok.hostCheck _ _ _ _ fun u still => by
      unfold takePaneClaim
      (repeat' split) <;> exact still.of_same (by simp) (by simp)
  case paneStage | paneCommit =>
    exact ok.hostCheck _ _ _ _ fun u still => still.withPane _ _ _ _ _ _ fun p => still.of_same (by simp) (by simp)
  case paneGuest => exact ok.hostCheck _ _ _ _ fun u still => still.withPane _ _ _ _ _ _ fun p => still.guestPane _ _ _ p
  case paneRelease => exact ok.hostCheck _ _ _ _ fun u still => still.withPane _ _ _ _ _ _ fun p => still.releasePane _ _ p
  case paneAdopt | paneQuery =>
    exact ok.hostCheck _ _ _ _ fun u still => still.withPane _ _ _ _ _ _ fun p => still.of_same (by simp) (by simp)
  case cellWrite | cellFill | cellRead => exact ok.hostCheck _ _ _ _ fun u still => still.joinLane _ _
  case faultRead =>
    exact ok.hostCheck _ _ _ _ fun u still => by
      unfold takeFaultRead
      (repeat' split) <;> exact still.reply _ _ _ _ _
  case faultClear => exact ok.hostCheck _ _ _ _ fun u still => still.takeFaultClear _ _ _
  case faultClearOverflow => exact ok.hostCheck _ _ _ _ fun u still => still.takeFaultClearOverflow _ _
  case eventFetch => exact ok.hostCheck _ _ _ _ fun u still => (still.dropEvents _ 4).reply _ _ _ _ _
  case panelSend => exact ok.hostCheck _ _ _ _ fun u still => still.of_same (by simp) (by simp)
  all_goals exact ok

theorem served {h : HostNo} (ok : s.bounded) (served : Served h s t) : t.bounded := by
  cases served with
  | unserved => exact ok
  | dropped => exact (ok.setPort h _).reportFault _ rfl
  | answered r => exact ok.of_same (by simp) (by simp)
  | taken i => exact (ok.setPort h _).takeRequest i

/-! ## Events -/

theorem exchangeEnd (ok : s.bounded) (h : HostNo) (bytes : List Byte) : (exchangeEnd h bytes s).bounded := by
  unfold Machine.exchangeEnd
  split
  · exact ok
  · exact served (ok.of_same (by simp) (by simp)) (handleFrame_served _ _ _)

theorem presentDeasserted (ok : s.bounded) (h : HostNo) : (presentDeasserted h s).bounded := by
  have down : (dropLine h s).bounded := ok.of_same (by simp) (by simp)
  unfold Machine.presentDeasserted
  dsimp only
  (repeat' split)
  · exact (down.leaveActive h .absent).departSilently h .abrupt
  · exact down.setHost h _
  · exact down
  · exact ok

theorem leaseWarn (ok : s.bounded) (h : HostNo) : (leaseWarn h s).bounded := by
  unfold Machine.leaseWarn
  split
  · exact (ok.setHost h _).postEvent h _
  · exact ok

theorem leaseExpiry (ok : s.bounded) (h : HostNo) : (leaseExpiry h s).bounded := by
  unfold Machine.leaseExpiry
  split
  · exact ((ok.leaveActive h .lapsed).reportFault _ rfl).departSilently h .lapse
  · exact ok

theorem windowExpiry (ok : s.bounded) : (windowExpiry s).bounded := by
  unfold Machine.windowExpiry
  split
  · exact ((ok.setConf _).postTo _ _).forEach clearVote (fun _ _ still => still) _
  · exact ok

theorem exec (ok : s.bounded) (c : Instr) (run : exec c s = .next t) : t.bounded := by
  cases source : requestSource c with
  | some origin =>
    obtain ⟨u, leaves, taken⟩ := exec_served c origin.1 origin.2 s source
    obtain rfl : u = t := Host.Outcome.next.inj (leaves.symm.trans run)
    exact ok.served taken
  | none =>
    cases c <;> simp only [requestSource, reduceCtorEq] at source
    case segmentReadComplete => exact completion_next run ▸ ok.segmentReadComplete
    case writeAccessComplete => exact completion_next run ▸ ok.writeAccessComplete
    case readAccessComplete => exact completion_next run ▸ ok.readAccessComplete
    all_goals obtain rfl := Host.Outcome.next.inj run
    case powerOn | resetPin => exact partReset _ _
    case exchangeEnd => exact ok.exchangeEnd _ _
    case hostPresentDeasserted => exact ok.presentDeasserted _
    case leaseWarn => exact ok.leaseWarn _
    case leaseExpiry => exact ok.leaseExpiry _
    case windowExpiry => exact ok.windowExpiry
    case lineMark => exact ok.lineMark
    case linkDown => exact ok.linkDown
    case panelAck => exact ok.panelAck
    case panelNak => exact ok.panelNak
    case replyTimerExpiry => exact ok.replyTimerExpiry
    case hostPresentAsserted | resetPinRelease => exact ok
    all_goals exact ok.of_same (by simp) (by simp)

end State.bounded

/-- Settles O56: event queues change only by posts, fetches and clears, and fault records only by reports and clears. -/
theorem eventsAndFaultsStayBounded : Obligations.EventsAndFaultsStayBounded := by
  unfold Obligations.EventsAndFaultsStayBounded
  intro s t queues log run
  have ok : s.bounded := ⟨queues, log⟩
  exact step_induct State.bounded s t run (fun _ => ok) (ok.of_same (by simp) (by simp)) fun c _ _ still => still.exec c

end Sys2Proof.Machine
end

section
/-! PANEL_SEND and the transfer in flight (R146 to R149, R151): settles O49, O50 and O48. -/
namespace Sys2Proof.Machine

/-! ## What does not look at the Panel Channel -/

theorem postEvent_setPanel (h : HostNo) (e : Event) (x : Panel) (s : State) :
    postEvent h e (s.setPanel x) = (postEvent h e s).setPanel x := by
  unfold postEvent
  rw [isActive_setPanel, State.queue_setPanel]
  (repeat' split) <;> rfl

theorem postTo_setPanel (hs : List HostNo) (e : Event) (x : Panel) (s : State) :
    postTo hs e (s.setPanel x) = (postTo hs e s).setPanel x := by
  unfold postTo
  induction hs generalizing s with
  | nil => rfl
  | cons h hs ih => rw [forEach_cons, forEach_cons, postEvent_setPanel, ih]

theorem takeReport_setPanel (notes : List HostNo) (r : FaultRecord) (x : Panel) (s : State) :
    takeReport notes r (s.setPanel x) = (takeReport notes r s).setPanel x := by
  unfold takeReport countOverflow
  rw [State.faults_setPanel]
  split
  · rfl
  · split
    · next i _ => exact postTo_setPanel _ _ x (s.setFaults { s.faults with slots := s.faults.slots.set i (some r) })
    · split <;> rfl

/-- The start of the head transfer looks at the link and the part state alone (R147). -/
theorem startTransfer_setPanel {s u : State} (scan : u.scan = s.scan) (conf : u.conf = s.conf) (x : Panel) :
    startTransfer (u.setPanel x) = u.setPanel (s.panelStarted x) := by
  have same : (u.setPanel x).panelStarted x = s.panelStarted x := by
    unfold State.panelStarted State.inRun
    rw [State.scan_setPanel, State.conf_setPanel, scan, conf]
  rw [startTransfer_eq, State.panel_setPanel, same, State.setPanel_setPanel]

/-! ## The end of a transfer (R148, R151) -/

/-- The response of an ended transfer, and its slot freed, unless it carries the discard mark. -/
def State.transferAnswered (s : State) (f : InFlight) (status : Status) : State :=
  if f.discard = true then s
  else (s.setPort f.transfer.host { s.port f.transfer.host with slots := (s.port f.transfer.host).slots - 1 }).answered
    f.transfer.host (responseTo .panelSend f.transfer.tag status (.panel f.transfer.address f.attempts))

/-- The fault of a transfer the panel has not answered. -/
def State.timeoutFault (s : State) (f : InFlight) : FaultRecord :=
  ⟨.panelTimeout, some f.transfer.host, none, none, s.scan.frame, s.scan.frame, 1⟩

/-- An ended transfer answered and its fault taken, noted unless it carries the discard mark; the Panel Channel as it was. -/
def State.transferEnded (s : State) (f : InFlight) (status : Status) : State :=
  if status = .panelTimeout then
    takeReport (if f.discard = true then [] else noteHosts (s.timeoutFault f)) (s.timeoutFault f)
      (s.transferAnswered f status)
  else s.transferAnswered f status

/-- The Panel Channel once the transfer in flight has ended and the next has started if it may. -/
def State.panelAfterEnd (s : State) : Panel := s.panelStarted { s.panel with inFlight := none, timer := none }

theorem transferAnswered_frame (s : State) (f : InFlight) (status : Status) :
    (s.transferAnswered f status).scan = s.scan ∧ (s.transferAnswered f status).conf = s.conf := by
  unfold State.transferAnswered
  split <;> exact ⟨rfl, rfl⟩

theorem transferEnded_frame (s : State) (f : InFlight) (status : Status) :
    (s.transferEnded f status).scan = s.scan ∧ (s.transferEnded f status).conf = s.conf := by
  unfold State.transferEnded
  split <;> simp [transferAnswered_frame]

/-- An end is the response, the fault, and the Panel Channel after it, which none of them looks at. -/
theorem endTransfer_eq {s : State} {f : InFlight} (flying : s.panel.inFlight = some f) (status : Status) :
    endTransfer status s = (s.transferEnded f status).setPanel s.panelAfterEnd := by
  have answered (x : Panel) : (if f.discard = true then s.setPanel x
      else reply f.transfer.host .panelSend f.transfer.tag status (.panel f.transfer.address f.attempts) (s.setPanel x)) =
      (s.transferAnswered f status).setPanel x := by
    unfold State.transferAnswered
    split
    · rfl
    · rw [reply, answer_eq]
      rfl
  obtain ⟨scan, conf⟩ := transferEnded_frame s f status
  refine Eq.trans ?_ (startTransfer_setPanel scan conf { s.panel with inFlight := none, timer := none })
  unfold endTransfer
  simp only [flying, answered]
  congr 1
  unfold State.transferEnded
  split
  · rw [← takeReport_setPanel, State.scan_setPanel, (transferAnswered_frame s f status).1]
    split <;> rfl
  · rfl

theorem transferEnded_reply {status : Status} (replied : status ≠ .panelTimeout) (s : State) (f : InFlight) :
    s.transferEnded f status = s.transferAnswered f status := if_neg replied

theorem transferEnded_timeout {f : InFlight} (kept : f.discard = false) (s : State) :
    s.transferEnded f .panelTimeout = reportFault (s.timeoutFault f) (s.transferAnswered f .panelTimeout) := by
  simp [State.transferEnded, kept, reportFault_eq]

/-- With the discard mark a timeout changes the Fault Log and the overflow counts alone (R151). -/
theorem transferEnded_discarded {f : InFlight} (marked : f.discard = true) (s : State) :
    s.transferEnded f .panelTimeout =
      { s with
        faults := (reportFault (s.timeoutFault f) s).faults, hosts := (reportFault (s.timeoutFault f) s).hosts } := by
  rw [← reportUnnoted_eq]
  simp [State.transferEnded, State.transferAnswered, marked, reportUnnoted]

/-! ## Replies and the reply timer (R148, R149) -/

/-- The transfer in flight sent again: one more attempt, the reply timer stopped. -/
def State.sentAgain (s : State) (f : InFlight) : State :=
  s.setPanel { s.panel with inFlight := some { f with phase := .sending, attempts := f.attempts + 1 }, timer := none }

theorem retryOrEnd_again {s : State} {f : InFlight} (flying : s.panel.inFlight = some f)
    (left : f.attempts ≤ s.conf.settings.panelRetries) (status : Status) : retryOrEnd status s = s.sentAgain f := by
  simp only [retryOrEnd, flying]
  exact if_pos (Nat.lt_succ_of_le left)

theorem retryOrEnd_end {s : State} {f : InFlight} (flying : s.panel.inFlight = some f)
    (spent : s.conf.settings.panelRetries < f.attempts) (status : Status) :
    retryOrEnd status s = endTransfer status s := by
  simp only [retryOrEnd, flying]
  exact if_neg (by omega)

theorem awaiting_iff {s : State} : awaiting s = true ↔ ∃ f, s.panel.inFlight = some f ∧ f.phase = .awaiting := by
  simp [awaiting, Option.any_eq_true]

/-- In AWAITING the two replies and the expiry are an end or a retry. -/
theorem exec_reply_awaiting {s : State} (waits : awaiting s = true) :
    exec .panelAck s = .next (endTransfer .ok s) ∧ exec .panelNak s = .next (retryOrEnd .panelNak s) ∧
      exec .replyTimerExpiry s = .next (retryOrEnd .panelTimeout s) :=
  ⟨congrArg _ (if_pos waits), congrArg _ (if_pos waits), congrArg _ (if_pos waits)⟩

/-- Outside AWAITING neither a reply nor an expiry is considered (R149). -/
theorem exec_reply_ignored {s : State} (quiet : awaiting s = false) :
    exec .panelAck s = .next s ∧ exec .panelNak s = .next s ∧ exec .replyTimerExpiry s = .next s := by
  have idle : ¬ awaiting s = true := by simp [quiet]
  exact ⟨congrArg _ (if_neg idle), congrArg _ (if_neg idle), congrArg _ (if_neg idle)⟩

theorem exec_panelSendEnd {s : State} {f : InFlight} (flying : s.panel.inFlight = some f) (phase : f.phase = .sending) :
    exec .panelSendEnd s = .next (s.setPanel { s.panel with
      inFlight := some { f with phase := .awaiting },
      timer := some (s.conf.settings.panelTimeout * 4000) }) := by
  refine congrArg Host.Outcome.next ?_
  simp only [panelSendEnd, flying, phase, if_true]
  rfl

/-- Settles O49: the phase and the attempts left choose between a retry and an end, and an end is the equation of
`endTransfer`. -/
theorem panelTransfer : Obligations.PanelTransfer := by
  unfold Obligations.PanelTransfer
  intro s f flying
  refine ⟨exec_panelSendEnd flying, fun phase => ?_⟩
  obtain ⟨ack, nak, expiry⟩ := exec_reply_awaiting (awaiting_iff.2 ⟨f, flying, phase⟩)
  rw [ack, nak, expiry]
  refine ⟨?_, fun left => ?_, fun spent => ?_⟩
  · rw [endTransfer_eq flying, transferEnded_reply (by decide)]
    rfl
  · rw [retryOrEnd_again flying left, retryOrEnd_again flying left]
    exact ⟨rfl, rfl⟩
  · rw [retryOrEnd_end flying spent, retryOrEnd_end flying spent, endTransfer_eq flying, endTransfer_eq flying]
    refine ⟨?_, fun kept => ?_, ?_⟩
    · rw [transferEnded_reply (by decide)]
      rfl
    · rw [transferEnded_timeout kept]
      rfl
    · rintro marked noted rfl
      rw [transferEnded_discarded marked]
      rfl

/-! ## After a reply or an expiry (R149) -/

/-- No transfer is in AWAITING and the reply timer is stopped: what every reply taken and every expiry leave. -/
structure ReplyTaken (s : State) : Prop where
  timer : s.panel.timer = none
  quiet : awaiting s = false

/-- A transfer that starts after an end is in SENDING, and its timer does not run. -/
theorem endTransfer_replyTaken {s : State} {f : InFlight} (flying : s.panel.inFlight = some f) (status : Status) :
    ReplyTaken (endTransfer status s) := by
  have after : s.panelAfterEnd.timer = none ∧ ∀ k, s.panelAfterEnd.inFlight = some k → k.phase = .sending := by
    unfold State.panelAfterEnd State.panelStarted
    (repeat' split) <;> simp
  rw [endTransfer_eq flying]
  refine ⟨after.1, Bool.eq_false_iff.2 fun waits => ?_⟩
  obtain ⟨k, started, phase⟩ := awaiting_iff.1 waits
  simp [after.2 k started] at phase

theorem retryOrEnd_replyTaken {s : State} {f : InFlight} (flying : s.panel.inFlight = some f) (status : Status) :
    ReplyTaken (retryOrEnd status s) := by
  by_cases left : f.attempts ≤ s.conf.settings.panelRetries
  · rw [retryOrEnd_again flying left]
    exact ⟨rfl, rfl⟩
  · rw [retryOrEnd_end flying (by omega)]
    exact endTransfer_replyTaken flying status

/-- A retry whose sending ends is in AWAITING, and an ACK is its reply, whenever the panel sent it. -/
theorem lateAck_answers (s : State) {f : InFlight} (kept : f.discard = false) :
    ∃ u w, exec .panelSendEnd (s.sentAgain f) = .next u ∧ exec .panelAck u = .next w ∧
      (w.port f.transfer.host).responses = (s.port f.transfer.host).responses ++
        [responseTo .panelSend f.transfer.tag .ok (.panel f.transfer.address (f.attempts + 1))] := by
  refine ⟨_, _, exec_panelSendEnd rfl rfl, (exec_reply_awaiting (awaiting_iff.2 ⟨_, rfl, rfl⟩)).1, ?_⟩
  rw [endTransfer_eq rfl, transferEnded_reply (by decide)]
  simp [State.transferAnswered, kept, State.answered, State.sentAgain]

/-- Settles O50: whichever of a reply and an expiry comes first takes the transfer out of AWAITING. -/
theorem panelReplyOnlyWhileAwaiting : Obligations.PanelReplyOnlyWhileAwaiting := by
  unfold Obligations.PanelReplyOnlyWhileAwaiting
  intro s
  refine ⟨fun sending => ?_, fun f flying phase => ?_⟩
  · have quiet : awaiting s = false := Bool.eq_false_iff.2 fun waits => by
      obtain ⟨f, flying, phase⟩ := awaiting_iff.1 waits
      simp [sending f flying] at phase
    obtain ⟨ack, nak, -⟩ := exec_reply_ignored quiet
    exact ⟨ack, nak⟩
  · obtain ⟨ack, nak, expiry⟩ := exec_reply_awaiting (awaiting_iff.2 ⟨f, flying, phase⟩)
    rw [ack, nak, expiry]
    refine ⟨fun t first => ?_, ?_⟩
    · have taken : ReplyTaken t := by
        rcases first with acked | naked
        · exact Host.Outcome.next.inj acked ▸ endTransfer_replyTaken flying .ok
        · exact Host.Outcome.next.inj naked ▸ retryOrEnd_replyTaken flying .panelNak
      exact ⟨taken.timer, (exec_reply_ignored taken.quiet).2.2⟩
    · intro t expired
      obtain rfl := Host.Outcome.next.inj expired
      obtain ⟨ackIgnored, nakIgnored, -⟩ := exec_reply_ignored (retryOrEnd_replyTaken flying .panelTimeout).quiet
      refine ⟨ackIgnored, nakIgnored, fun left kept => ?_⟩
      rw [retryOrEnd_again flying left]
      exact lateAck_answers s kept

/-! ## PANEL_SEND (R146, R147) -/

/-- Settles O48: the request comes to the FIFO with its slot; a refusal gives the slot back. -/
theorem panelSend : Obligations.PanelSend := by
  unfold Obligations.PanelSend
  intro s h tag address synced data speaks least most
  have run : exec (.panelSend h tag address synced data) s =
      .next (takePanelSend h tag address synced data ((s.heard h).slotTaken h)) := by
    refine congrArg Host.Outcome.next ?_
    rw [(dataCountOk_iff _).2 ⟨least, most⟩]
    exact request_speaks h .panelSend tag _ s speaks
  rw [run]
  refine ⟨fun full => congrArg _ ?_, fun room => congrArg _ ?_⟩
  · exact (if_neg (Nat.not_lt.2 full)).trans (reply_slotTaken ..)
  · exact (if_pos room).trans (startTransfer_setPanel rfl rfl _)

end Sys2Proof.Machine
end
